-- ==== Sys2Proof/Word.lean ====
section
/-! DEFINITION. The word types of the LBC-8's lines: a byte, and the two- and three-byte fields of R193. -/

namespace Sys2Proof

/-- One byte of a frame (R181). -/
abbrev Byte := BitVec 8

/-- A two-byte field, high byte first on the line (R192). -/
abbrev Word16 := BitVec 16

/-- A three-byte field: volumes, presets and load numbers (R192, R193). -/
abbrev Word24 := BitVec 24

end Sys2Proof
end

