-- ==== Sys2Proof/Config.lean ====
section
/-! DEFINITION. What the LBC-8 fixes once for all, and the model's one free value. -/

namespace Sys2Proof.Config

/-- The ceiling of the gross, net and overrun volumes, in dL (R39, R92, R100). -/
def maxVolume : Nat := 16777215

/-- The largest load number; the next one is 1 (R163). -/
def maxLoadNumber : Nat := 16777214

/-- The value at which the device seconds counter saturates (R158). -/
def maxSeconds : Nat := 4294967295

/-- The value at which a stray counter saturates (R90). -/
def maxStray : Nat := 65535

/-- Authorizations that one lane queue holds at most (R21). -/
def laneQueueLimit : Nat := 6

/-- Places of the delivered list, reservations included (R158, R164). -/
def deliveredLimit : Nat := 32

/-- The count of delivered records at which LIST_NEARLY_FULL is raised (R166). -/
def nearlyFull : Nat := 28

/-- Records that a trace page holds at most (R174). -/
def traceDepth : Nat := 64

/-- The owed count at which a queue entry takes no further shot (R121). -/
def owedLimit : Nat := 3

/-- The number of consecutive reply failures that puts a station in FAULT (R133). -/
def failureLimit : Nat := 3

/-- The poll timer's run in SHOOTING, in ms (R128). -/
def pollMs : Nat := 100

/-- The smallest preset (R20, R27, R54), in dL. -/
def minPreset : Nat := 100

/-- The largest preset limit (R20), in dL. -/
def maxPresetLimit : Nat := 200000

/-- Data bytes that one response segment carries at most (R183). -/
def segmentBytes : Nat := 116

/-- FREE VALUE. Whether the expiry timer of the authorization asked about has, at this reading, more than a whole
second less than its count of second ticks suggests: R26 gives the time remaining "in whole seconds rounded up", and
the spec gives no relation between the moment of the ISSUE and the second tick. Applied to `State.freeCount`. Log 5. -/
opaque subSecond : Nat → Bool

end Sys2Proof.Config
end

