-- ==== Sys2Proof/Syntax.lean ====
section
/-! DEFINITION. The commands the LBC-8 takes: one constructor for each row of spec/opcode_table.json. -/

namespace Sys2Proof

/-- The six request ports: the terminal ports TA and TB, and the lane port LP`l` of lane `l` (00_scope.md, Numbering). -/
inductive Port where
  | ta
  | tb
  | lp (lane : Fin 4)
deriving DecidableEq, Repr

/-- A command: an operation or event of the table, whole and indivisible (95). A request carries the port it comes
from, its tag and its parameters in the widths of R193; it stands for the arrival of the last byte of its frame
with a good check (R182). -/
inductive Instr where
  /-- POWER_ON: ESD asserted, header permissive present and the four lane permissives present, as the inputs stand (R153, R188). -/
  | powerOn (esd header lane0 lane1 lane2 lane3 : Bool)
  /-- SECONDS_TICK (R158). -/
  | secondsTick
  /-- FRAME_DISCARD: the partial frame of the port is discarded for its LEN byte or its check (R181). -/
  | frameDiscard (p : Port)
  /-- FRAME_GAP_TIMEOUT (R181). -/
  | frameGapTimeout (p : Port)
  /-- COLLISION: a complete frame reaches the port while it is BUSY (R182). -/
  | collision (p : Port)
  /-- RESPONSE_SENT: the last byte of the port's response has been sent (R182). -/
  | responseSent (p : Port)
  /-- PORT_BREAK (R184). -/
  | portBreak (p : Port)
  | readStatus (p : Port) (tag : Byte)
  | readNotices (p : Port) (tag : Byte)
  | clearNotices (p : Port) (tag : Byte) (flags : Word16)
  | setNotices (p : Port) (tag : Byte) (flags : Word16)
  | setNoticeMask (p : Port) (tag : Byte) (mask : Word16)
  /-- CONFIGURE: the group, the index and the bytes of the values (R189, R193). -/
  | configure (p : Port) (tag : Byte) (group index : Byte) (values : List Byte)
  | beginOperation (p : Port) (tag : Byte)
  | returnToConfigure (p : Port) (tag : Byte)
  | readRecipe (p : Port) (tag : Byte) (slot link : Byte)
  /-- COMMIT_RECIPE: the slot and the 58 bytes of the content (R9, R192). -/
  | commitRecipe (p : Port) (tag : Byte) (slot : Byte) (content : List Byte)
  | withdrawRecipe (p : Port) (tag : Byte) (slot : Byte)
  | issueAuthorization (p : Port) (tag : Byte) (lane armSet slot : Byte) (requiredRevision : Word16)
      (presetLimit : Word24) (customer : BitVec 64) (expiry : Byte)
  | revokeAuthorization (p : Port) (tag : Byte) (id : Word16)
  | listAuthorizations (p : Port) (tag : Byte) (lane : Byte)
  /-- AUTH_EXPIRED: the expiry timer of the queued authorization with this id runs out (R24). -/
  | authExpired (id : Nat)
  /-- START_LOAD: arm, authorization id (0 for "oldest"), preset (R27, R193). -/
  | startLoad (p : Port) (tag : Byte) (arm : Byte) (authorization : Word16) (preset : Word24)
  | stopLoad (p : Port) (tag : Byte) (arm : Byte) (load : Word24)
  | amendLoad (p : Port) (tag : Byte) (load preset : Word24)
  | holdLoad (p : Port) (tag : Byte) (arm : Byte) (load : Word24)
  | releaseHold (p : Port) (tag : Byte) (arm : Byte) (load : Word24)
  | resumeLoad (p : Port) (tag : Byte) (arm : Byte) (load : Word24)
  | markCheckpoint (p : Port) (tag : Byte) (arm : Byte) (load : Word24) (checkpoint mode : Byte)
  | clearCheckpoint (p : Port) (tag : Byte) (arm : Byte) (load : Word24) (checkpoint : Byte)
  /-- READ_LOAD: selector, value, link option (R167). -/
  | readLoad (p : Port) (tag : Byte) (selector : Byte) (value : Word24) (link : Byte)
  | readDelivered (p : Port) (tag : Byte) (load : Word24)
  | clearDelivered (p : Port) (tag : Byte) (load : Word24)
  | clearStray (p : Port) (tag : Byte) (meter : Byte)
  | setHeaderCapacity (p : Port) (tag : Byte) (capacity : Byte)
  | restoreStation (p : Port) (tag : Byte) (station : Byte)
  | traceWindow (p : Port) (tag : Byte) (mode pageStart pageEnd columnStart columnEnd : Byte)
  | traceRead (p : Port) (tag : Byte) (count : Byte)
  /-- METER_PULSE: one pulse on the input of meter M`m` (R87). -/
  | meterPulse (m : Fin 16)
  | noFlowTimeout (a : Fin 8)
  | settleTimeout (a : Fin 8)
  | holdTimeout (a : Fin 8)
  | shareWaitLong (a : Fin 8)
  /-- CONVERSION_COMPLETE: the result of the conversion in progress, in tenths of a degree (R96). -/
  | conversionComplete (result : Int)
  | changeoverTimeout (st : Fin 4)
  | pollTimerExpiry (st : Fin 4)
  | shotTimeout (st : Fin 4)
  /-- BUS_REPLY: the three bytes of a reply frame that has arrived whole (R139, R194). -/
  | busReply (b0 b1 b2 : Byte)
  | replyWindowClose
  | esdAssert
  | esdClear
  | headerPermissiveLoss
  | headerPermissiveRestore
  | lanePermissiveLoss (lane : Fin 4)
  | lanePermissiveRestore (lane : Fin 4)
  /-- FRAME_BYTE_RECEIVED (R181). -/
  | frameByteReceived (p : Port) (b : Byte)
  /-- BAD_REQUEST: a complete frame whose request code is in no row of the access table, or whose body has not the
  length the request takes: code, tag and the bytes after them (R182). -/
  | badRequest (p : Port) (code tag : Byte) (params : List Byte)
  /-- COMMAND_FRAME_SENT: the last byte of the command frame leaves the injector bus (R139). -/
  | commandFrameSent
deriving DecidableEq, Repr

end Sys2Proof
end

