-- ==== Sys2Proof/Decode.lean ====
section
/-! DEFINITION. The request codes and bodies of R185 and R193: from the bytes of a request body to the command it
spells, and back; and the host's question about table words, of which this table has none. -/

namespace Sys2Proof

/-- The requests of the access table (R185). -/
inductive ReqCode where
  | readStatus
  | readNotices
  | clearNotices
  | setNotices
  | setNoticeMask
  | configure
  | beginOperation
  | returnToConfigure
  | readRecipe
  | commitRecipe
  | withdrawRecipe
  | issueAuthorization
  | revokeAuthorization
  | listAuthorizations
  | startLoad
  | stopLoad
  | amendLoad
  | holdLoad
  | releaseHold
  | resumeLoad
  | markCheckpoint
  | clearCheckpoint
  | readLoad
  | readDelivered
  | clearDelivered
  | clearStray
  | setHeaderCapacity
  | restoreStation
  | traceWindow
  | traceRead
deriving DecidableEq, Repr

/-- Every request of the access table, in its order (R185). -/
def ReqCode.all : List ReqCode :=
  [.readStatus, .readNotices, .clearNotices, .setNotices, .setNoticeMask,
   .configure, .beginOperation, .returnToConfigure, .readRecipe, .commitRecipe,
   .withdrawRecipe, .issueAuthorization, .revokeAuthorization, .listAuthorizations, .startLoad,
   .stopLoad, .amendLoad, .holdLoad, .releaseHold, .resumeLoad,
   .markCheckpoint, .clearCheckpoint, .readLoad, .readDelivered, .clearDelivered,
   .clearStray, .setHeaderCapacity, .restoreStation, .traceWindow, .traceRead]

/-- The request code byte of a request (R185). -/
def ReqCode.toByte : ReqCode → Byte
  | .readStatus => 0x01#8
  | .readNotices => 0x02#8
  | .clearNotices => 0x03#8
  | .setNotices => 0x04#8
  | .setNoticeMask => 0x05#8
  | .configure => 0x08#8
  | .beginOperation => 0x09#8
  | .returnToConfigure => 0x0A#8
  | .readRecipe => 0x10#8
  | .commitRecipe => 0x11#8
  | .withdrawRecipe => 0x12#8
  | .issueAuthorization => 0x18#8
  | .revokeAuthorization => 0x19#8
  | .listAuthorizations => 0x1A#8
  | .startLoad => 0x20#8
  | .stopLoad => 0x21#8
  | .amendLoad => 0x22#8
  | .holdLoad => 0x23#8
  | .releaseHold => 0x24#8
  | .resumeLoad => 0x25#8
  | .markCheckpoint => 0x26#8
  | .clearCheckpoint => 0x27#8
  | .readLoad => 0x28#8
  | .readDelivered => 0x30#8
  | .clearDelivered => 0x31#8
  | .clearStray => 0x38#8
  | .setHeaderCapacity => 0x39#8
  | .restoreStation => 0x3A#8
  | .traceWindow => 0x40#8
  | .traceRead => 0x41#8

/-- The request that a request code names, if the access table lists it (R182, check 1). -/
def ReqCode.ofByte (c : Byte) : Option ReqCode :=
  ReqCode.all.find? fun rc => rc.toByte == c

/-- The access class of a request code (R185): the classes of port that may issue it. -/
inductive Access where
  | both
  | terminalOnly
  | laneOnly
deriving DecidableEq, Repr

/-- The access table's columns "TA, TB" and "Lane ports" (R185). -/
def ReqCode.access : ReqCode → Access
  | .readStatus => .both
  | .readNotices => .both
  | .clearNotices => .both
  | .setNotices => .both
  | .setNoticeMask => .both
  | .configure => .terminalOnly
  | .beginOperation => .terminalOnly
  | .returnToConfigure => .terminalOnly
  | .readRecipe => .both
  | .commitRecipe => .terminalOnly
  | .withdrawRecipe => .terminalOnly
  | .issueAuthorization => .terminalOnly
  | .revokeAuthorization => .terminalOnly
  | .listAuthorizations => .both
  | .startLoad => .laneOnly
  | .stopLoad => .both
  | .amendLoad => .both
  | .holdLoad => .both
  | .releaseHold => .both
  | .resumeLoad => .laneOnly
  | .markCheckpoint => .terminalOnly
  | .clearCheckpoint => .both
  | .readLoad => .both
  | .readDelivered => .terminalOnly
  | .clearDelivered => .terminalOnly
  | .clearStray => .terminalOnly
  | .setHeaderCapacity => .terminalOnly
  | .restoreStation => .terminalOnly
  | .traceWindow => .both
  | .traceRead => .both

/-- The conditional requests: each clears its port's link, whatever its result (R12). -/
def ReqCode.conditional : ReqCode → Bool
  | .commitRecipe => true
  | .withdrawRecipe => true
  | .amendLoad => true
  | .readStatus => false
  | .readNotices => false
  | .clearNotices => false
  | .setNotices => false
  | .setNoticeMask => false
  | .configure => false
  | .beginOperation => false
  | .returnToConfigure => false
  | .readRecipe => false
  | .issueAuthorization => false
  | .revokeAuthorization => false
  | .listAuthorizations => false
  | .startLoad => false
  | .stopLoad => false
  | .holdLoad => false
  | .releaseHold => false
  | .resumeLoad => false
  | .markCheckpoint => false
  | .clearCheckpoint => false
  | .readLoad => false
  | .readDelivered => false
  | .clearDelivered => false
  | .clearStray => false
  | .setHeaderCapacity => false
  | .restoreStation => false
  | .traceWindow => false
  | .traceRead => false

/-- TA and TB are the terminal class, the lane ports the lane class (00_scope.md, Numbering). -/
def Port.isTerminal : Port → Bool
  | .ta => true
  | .tb => true
  | .lp _ => false

/-- Check 3 of R182: whether the port's class may issue the request. -/
def Port.mayIssue (p : Port) (rc : ReqCode) : Bool :=
  match rc.access with
  | .both => true
  | .terminalOnly => p.isTerminal
  | .laneOnly => !p.isTerminal

/-- The bytes of a recipe content (R192). -/
def contentBytes : Nat := 58

/-- The bytes of the values that a CONFIGURE of a group carries after its group and index (R193); none for a group
outside 0-7. -/
def configureValueBytes (group : Byte) : Option Nat :=
  match group.toNat with
  | 0 => some 1
  | 1 => some 1
  | 2 => some 2
  | 3 => some 1
  | 4 => some 34
  | 5 => some 6
  | 6 => some 9
  | 7 => some 1
  | _ => none

/-- Check 2 of R182 for CONFIGURE: the length its group takes; a group outside 0-7 passes with any values (R193). -/
def configureLengthOk (group : Byte) (values : List Byte) : Bool :=
  match configureValueBytes group with
  | some n => values.length == n
  | none => true

/-- A two-byte field from its bytes, high byte first (R192). -/
def word16 (b1 b0 : Byte) : Word16 := b1 ++ b0

/-- A three-byte field from its bytes, high byte first (R192). -/
def word24 (b2 b1 b0 : Byte) : Word24 := b2 ++ b1 ++ b0

/-- The eight bytes of a customer reference, kept in their order (R20). -/
def word64 (b7 b6 b5 b4 b3 b2 b1 b0 : Byte) : BitVec 64 :=
  b7 ++ b6 ++ b5 ++ b4 ++ b3 ++ b2 ++ b1 ++ b0

/-- The bytes of a two-byte field (R192). -/
def bytes16 (w : Word16) : List Byte := [w.extractLsb' 8 8, w.extractLsb' 0 8]

/-- The bytes of a three-byte field (R192). -/
def bytes24 (w : Word24) : List Byte := [w.extractLsb' 16 8, w.extractLsb' 8 8, w.extractLsb' 0 8]

/-- The bytes of a customer reference (R20). -/
def bytes64 (w : BitVec 64) : List Byte :=
  [w.extractLsb' 56 8, w.extractLsb' 48 8, w.extractLsb' 40 8, w.extractLsb' 32 8,
   w.extractLsb' 24 8, w.extractLsb' 16 8, w.extractLsb' 8 8, w.extractLsb' 0 8]

/-- Checks 1 and 2 of R182 on a complete frame's body: the request it spells, by the layouts of R193; none where the
request code is in no row of the access table or the body length is not the one the request takes. -/
def decodeRequest (p : Port) (code tag : Byte) (params : List Byte) : Option Instr :=
  match ReqCode.ofByte code with
  | none => none
  | some rc =>
    match rc with
    | .readStatus =>
      match params with
      | [] => some (.readStatus p tag)
      | _ => none
    | .readNotices =>
      match params with
      | [] => some (.readNotices p tag)
      | _ => none
    | .clearNotices =>
      match params with
      | [flags1, flags0] => some (.clearNotices p tag (word16 flags1 flags0))
      | _ => none
    | .setNotices =>
      match params with
      | [flags1, flags0] => some (.setNotices p tag (word16 flags1 flags0))
      | _ => none
    | .setNoticeMask =>
      match params with
      | [mask1, mask0] => some (.setNoticeMask p tag (word16 mask1 mask0))
      | _ => none
    | .configure =>
      match params with
      | group :: index :: values =>
        if configureLengthOk group values then some (.configure p tag group index values) else none
      | _ => none
    | .beginOperation =>
      match params with
      | [] => some (.beginOperation p tag)
      | _ => none
    | .returnToConfigure =>
      match params with
      | [] => some (.returnToConfigure p tag)
      | _ => none
    | .readRecipe =>
      match params with
      | [slot, link] => some (.readRecipe p tag slot link)
      | _ => none
    | .commitRecipe =>
      match params with
      | slot :: content => if content.length = contentBytes then some (.commitRecipe p tag slot content) else none
      | _ => none
    | .withdrawRecipe =>
      match params with
      | [slot] => some (.withdrawRecipe p tag slot)
      | _ => none
    | .issueAuthorization =>
      match params with
      | [lane, arms, slot, revision1, revision0, limit2, limit1, limit0, customer7, customer6, customer5, customer4, customer3, customer2, customer1, customer0, expiry] => some (.issueAuthorization p tag lane arms slot (word16 revision1 revision0) (word24 limit2 limit1 limit0) (word64 customer7 customer6 customer5 customer4 customer3 customer2 customer1 customer0) expiry)
      | _ => none
    | .revokeAuthorization =>
      match params with
      | [id1, id0] => some (.revokeAuthorization p tag (word16 id1 id0))
      | _ => none
    | .listAuthorizations =>
      match params with
      | [lane] => some (.listAuthorizations p tag lane)
      | _ => none
    | .startLoad =>
      match params with
      | [arm, auth1, auth0, preset2, preset1, preset0] => some (.startLoad p tag arm (word16 auth1 auth0) (word24 preset2 preset1 preset0))
      | _ => none
    | .stopLoad =>
      match params with
      | [arm, load2, load1, load0] => some (.stopLoad p tag arm (word24 load2 load1 load0))
      | _ => none
    | .amendLoad =>
      match params with
      | [load2, load1, load0, preset2, preset1, preset0] => some (.amendLoad p tag (word24 load2 load1 load0) (word24 preset2 preset1 preset0))
      | _ => none
    | .holdLoad =>
      match params with
      | [arm, load2, load1, load0] => some (.holdLoad p tag arm (word24 load2 load1 load0))
      | _ => none
    | .releaseHold =>
      match params with
      | [arm, load2, load1, load0] => some (.releaseHold p tag arm (word24 load2 load1 load0))
      | _ => none
    | .resumeLoad =>
      match params with
      | [arm, load2, load1, load0] => some (.resumeLoad p tag arm (word24 load2 load1 load0))
      | _ => none
    | .markCheckpoint =>
      match params with
      | [arm, load2, load1, load0, n, mode] => some (.markCheckpoint p tag arm (word24 load2 load1 load0) n mode)
      | _ => none
    | .clearCheckpoint =>
      match params with
      | [arm, load2, load1, load0, n] => some (.clearCheckpoint p tag arm (word24 load2 load1 load0) n)
      | _ => none
    | .readLoad =>
      match params with
      | [selector, value2, value1, value0, link] => some (.readLoad p tag selector (word24 value2 value1 value0) link)
      | _ => none
    | .readDelivered =>
      match params with
      | [load2, load1, load0] => some (.readDelivered p tag (word24 load2 load1 load0))
      | _ => none
    | .clearDelivered =>
      match params with
      | [load2, load1, load0] => some (.clearDelivered p tag (word24 load2 load1 load0))
      | _ => none
    | .clearStray =>
      match params with
      | [meter] => some (.clearStray p tag meter)
      | _ => none
    | .setHeaderCapacity =>
      match params with
      | [capacity] => some (.setHeaderCapacity p tag capacity)
      | _ => none
    | .restoreStation =>
      match params with
      | [station] => some (.restoreStation p tag station)
      | _ => none
    | .traceWindow =>
      match params with
      | [mode, pageStart, pageEnd, columnStart, columnEnd] => some (.traceWindow p tag mode pageStart pageEnd columnStart columnEnd)
      | _ => none
    | .traceRead =>
      match params with
      | [count] => some (.traceRead p tag count)
      | _ => none

/-- The body of a request's frame: request code, tag and parameters in their numbered order (R193); none for a
command that is not a request. -/
def encodeRequest (i : Instr) : Option (Port × ReqCode × Byte × List Byte) :=
  match i with
  | .readStatus p tag => some (p, .readStatus, tag, [])
  | .readNotices p tag => some (p, .readNotices, tag, [])
  | .clearNotices p tag flags => some (p, .clearNotices, tag, bytes16 flags)
  | .setNotices p tag flags => some (p, .setNotices, tag, bytes16 flags)
  | .setNoticeMask p tag mask => some (p, .setNoticeMask, tag, bytes16 mask)
  | .configure p tag group index values => some (p, .configure, tag, group :: index :: values)
  | .beginOperation p tag => some (p, .beginOperation, tag, [])
  | .returnToConfigure p tag => some (p, .returnToConfigure, tag, [])
  | .readRecipe p tag slot link => some (p, .readRecipe, tag, [slot, link])
  | .commitRecipe p tag slot content => some (p, .commitRecipe, tag, slot :: content)
  | .withdrawRecipe p tag slot => some (p, .withdrawRecipe, tag, [slot])
  | .issueAuthorization p tag lane arms slot revision limit customer expiry => some (p, .issueAuthorization, tag, [lane, arms, slot] ++ bytes16 revision ++ bytes24 limit ++ bytes64 customer ++ [expiry])
  | .revokeAuthorization p tag id => some (p, .revokeAuthorization, tag, bytes16 id)
  | .listAuthorizations p tag lane => some (p, .listAuthorizations, tag, [lane])
  | .startLoad p tag arm auth preset => some (p, .startLoad, tag, [arm] ++ bytes16 auth ++ bytes24 preset)
  | .stopLoad p tag arm load => some (p, .stopLoad, tag, [arm] ++ bytes24 load)
  | .amendLoad p tag load preset => some (p, .amendLoad, tag, bytes24 load ++ bytes24 preset)
  | .holdLoad p tag arm load => some (p, .holdLoad, tag, [arm] ++ bytes24 load)
  | .releaseHold p tag arm load => some (p, .releaseHold, tag, [arm] ++ bytes24 load)
  | .resumeLoad p tag arm load => some (p, .resumeLoad, tag, [arm] ++ bytes24 load)
  | .markCheckpoint p tag arm load n mode => some (p, .markCheckpoint, tag, [arm] ++ bytes24 load ++ [n, mode])
  | .clearCheckpoint p tag arm load n => some (p, .clearCheckpoint, tag, [arm] ++ bytes24 load ++ [n])
  | .readLoad p tag selector value link => some (p, .readLoad, tag, [selector] ++ bytes24 value ++ [link])
  | .readDelivered p tag load => some (p, .readDelivered, tag, bytes24 load)
  | .clearDelivered p tag load => some (p, .clearDelivered, tag, bytes24 load)
  | .clearStray p tag meter => some (p, .clearStray, tag, [meter])
  | .setHeaderCapacity p tag capacity => some (p, .setHeaderCapacity, tag, [capacity])
  | .restoreStation p tag station => some (p, .restoreStation, tag, [station])
  | .traceWindow p tag mode pageStart pageEnd columnStart columnEnd => some (p, .traceWindow, tag, [mode, pageStart, pageEnd, columnStart, columnEnd])
  | .traceRead p tag count => some (p, .traceRead, tag, [count])
  | .powerOn _ _ _ _ _ _ => none
  | .secondsTick => none
  | .frameDiscard _ => none
  | .frameGapTimeout _ => none
  | .collision _ => none
  | .responseSent _ => none
  | .portBreak _ => none
  | .authExpired _ => none
  | .meterPulse _ => none
  | .noFlowTimeout _ => none
  | .settleTimeout _ => none
  | .holdTimeout _ => none
  | .shareWaitLong _ => none
  | .conversionComplete _ => none
  | .changeoverTimeout _ => none
  | .pollTimerExpiry _ => none
  | .shotTimeout _ => none
  | .busReply _ _ _ => none
  | .replyWindowClose => none
  | .esdAssert => none
  | .esdClear => none
  | .headerPermissiveLoss => none
  | .headerPermissiveRestore => none
  | .lanePermissiveLoss _ => none
  | .lanePermissiveRestore _ => none
  | .frameByteReceived _ _ => none
  | .badRequest _ _ _ _ => none
  | .commandFrameSent => none

/-- The command that a word spells by the table's bits: no row of spec/opcode_table.json gives bits. -/
def decodeTableWord (_nbits _w : Nat) : Option Instr := none

end Sys2Proof
end

