-- ==== Sys2Proof/Machine/State.lean ====
section
/-! DEFINITION. Everything the spec gives the LBC-8 to hold, as plain data, and its value right after power-on. -/

namespace Sys2Proof.Machine

/-! ## Faults and refusals -/

/-- The reasons for which the machine would stop with a fault. There are none: every command of the table has, in
every state, an effect that the spec gives. An error is a result code (R183), a load's fault set (R159), a station
state (R116) or a probe condition (R94), and those are state. -/
inductive Fault where
deriving DecidableEq, Repr

/-- The reasons for which a command is refused by the modelling. -/
inductive Refusal where
  /-- The command has no meaning yet. Raised by refused arms of exec, of which there is none. Safe: the model would
  stop where the hardware goes on. -/
  | notModelled (mnemonic : String)
deriving DecidableEq, Repr

/-! ## Timers -/

/-- A timer of the controller. A running timer holds the interval it was started with, in ms: "A timer already
running keeps the time it was started with" (R117). Its running out is a command (log 4). -/
inductive Timer where
  | stopped
  | running (ms : Nat)
  | expired
deriving DecidableEq, Repr

/-- Whether a timer is running. -/
def Timer.isRunning : Timer → Bool
  | .running _ => true
  | .stopped => false
  | .expired => false

/-! ## Recipes (R1 to R6) -/

/-- An additive line of a recipe (R4). -/
structure RecipeLine where
  station : Fin 4
  spacing : Nat
  shotSize : Nat
  required : Bool
deriving DecidableEq, Repr

/-- The load events that a checkpoint entry selects (R5); AT_VOLUME with its volume. -/
inductive EventKind where
  | primeDone
  | atVolume (volume : Nat)
  | taperBegin
  | shotMissed
  | shareWaitLong
deriving DecidableEq, Repr

/-- The mode of a checkpoint entry (R5). -/
inductive CheckpointMode where
  | note
  | halt
deriving DecidableEq, Repr

/-- A checkpoint entry of a recipe (R5). -/
structure RecipeCheckpoint where
  event : EventKind
  mode : CheckpointMode
deriving DecidableEq, Repr

/-- The content of a recipe (R3); the additive line count and the checkpoint count are the lengths of the lists. -/
structure Recipe where
  productCode : Nat
  ratio : Nat
  tolerance : Nat
  primeVolume : Nat
  primeOpening : Nat
  rampSteps : Nat
  rampStepVolume : Nat
  fullOpening : Nat
  taperVolume : Nat
  taperSteps : Nat
  taperEndOpening : Nat
  flushVolume : Nat
  ethanolStartOpening : Nat
  trimVolume : Nat
  trimStep : Nat
  deadband : Nat
  alarmLimit : Nat
  alarmCount : Nat
  shareCount : Nat
  lines : List RecipeLine
  checkpoints : List RecipeCheckpoint
deriving DecidableEq, Repr

/-- A recipe slot (R1): READY when it holds a content, EMPTY when it holds none (log 23). -/
structure RecipeSlot where
  revision : Nat
  content : Option Recipe
deriving DecidableEq, Repr

/-- A port's link (R12). -/
inductive Link where
  | recipe (slot : Nat) (revision : Nat)
  | load (number : Nat) (revision : Nat)
deriving DecidableEq, Repr

/-! ## Authorizations (R20 to R24) -/

/-- A queued authorization (R20), with its expiry timer and the count of second ticks since its ISSUE (R24, R26). -/
structure Authorization where
  id : Nat
  lane : Fin 4
  armSet : Byte
  slot : Nat
  requiredRevision : Nat
  presetLimit : Nat
  customer : BitVec 64
  expiry : Nat
  issuer : Port
  timer : Timer
  elapsed : Nat
deriving DecidableEq, Repr

/-! ## Loads and arms (R36, R68, R119, R141, R159) -/

/-- The arm states, in the order of R36. -/
inductive ArmState where
  | idle
  | prime
  | ramp
  | full
  | taper
  | flush
  | shareWait
  | held
  | closing
deriving DecidableEq, Repr

/-- The resume phases of a held load (R36). -/
inductive ResumePhase where
  | prime
  | ramp
  | full
  | taper
  | flush
  | shareWait
deriving DecidableEq, Repr

/-- Where an arm goes when its shares are granted (R36). -/
inductive WaitTarget where
  | ramp
  | taper
deriving DecidableEq, Repr

/-- The kinds of flush (R36). -/
inductive FlushKind where
  | ordered
  | cut
deriving DecidableEq, Repr

/-- The end statuses, in the order of R192. -/
inductive EndStatus where
  | complete
  | stopped
  | ratioFault
  | noFlow
  | ethanolSupply
  | additiveFault
  | holdTimeout
  | esd
deriving DecidableEq, Repr

/-- The fault set of a load (R159). -/
structure FaultSet where
  noFlow : Bool := false
  ratioFault : Bool := false
  overrun : Bool := false
  ethanolSupply : Bool := false
  additiveFault : Bool := false
deriving DecidableEq, Repr

/-- The hold causes, in the order of R141. -/
inductive HoldCause where
  | laneHold
  | terminalHold
  | checkpoint0
  | checkpoint1
  | permissive
deriving DecidableEq, Repr

/-- The hold-cause set of a load (R141). -/
structure HoldCauses where
  laneHold : Bool := false
  terminalHold : Bool := false
  checkpoint0 : Bool := false
  checkpoint1 : Bool := false
  permissive : Bool := false
deriving DecidableEq, Repr

/-- An additive line of a load record: its station, the SKIPPED flag and the six counts (R119, R159). -/
structure LineRecord where
  station : Fin 4
  skipped : Bool
  due : Nat := 0
  delivered : Nat := 0
  owed : Nat := 0
  missed : Nat := 0
  unconfirmed : Nat := 0
  volume : Nat := 0
deriving DecidableEq, Repr

/-- An additive line of an active load: its part of the record, and the two items the arm controller holds (R119). -/
structure Line where
  counts : LineRecord
  nextBoundary : Option Nat := none
  kept : Nat := 0
deriving DecidableEq, Repr

/-- The fields of a load record (R159) whose home is the record itself. -/
structure LoadData where
  number : Nat
  arm : Fin 8
  lane : Fin 4
  authorization : Nat
  customer : BitVec 64
  issuer : Port
  slot : Nat
  recipeRevision : Nat
  productCode : Nat
  ratio : Nat
  tolerance : Nat
  originalPreset : Nat
  preset : Nat
  presetLimit : Nat
  pending : Option Nat
  revision : Nat
  gasoline : Nat
  ethanol : Nat
  product : Nat
  gasolineNet : Nat
  ethanolNet : Nat
  ethanolTarget : Nat
  blendSpan : Nat
  taperPoint : Nat
  flushPoint : Nat
  deviation : Int
  causes : HoldCauses
  flag0 : Bool
  flag1 : Bool
  faults : FaultSet
  tempSubstituted : Bool
  overrun : Nat
  startTime : Nat
  endTime : Option Nat
  endStatus : Option EndStatus
  finalRatio : Option Nat
  inTolerance : Option Bool
deriving DecidableEq, Repr

/-- A whole load record (R159), as it is read and as it lies in the delivered list. -/
structure LoadRecord where
  data : LoadData
  armState : ArmState
  resumePhase : Option ResumePhase
  mainOpening : Nat
  ethanolOpening : Nat
  sharesHeld : Nat
  lines : List LineRecord
deriving DecidableEq, Repr

/-- The active load of an arm: its record's own fields, its snapshot, and the items of R36, R68 and R119 that belong
to the load. -/
structure Load where
  data : LoadData
  recipe : Recipe
  resume : Option ResumePhase
  waitTarget : Option WaitTarget
  rampBase : Option Nat
  taperCeiling : Option Nat
  flushEnd : Option Nat
  flushKind : Option FlushKind
  endDue : Option EndStatus
  supplyLost : Bool
  alarmRun : Nat
  nextTrim : Option Nat
  ethanolLastUsed : Option Nat
  lines : List Line
deriving DecidableEq, Repr

/-- An arm controller (R36, R38, R146). The active load is present exactly while the arm is not IDLE. -/
structure Arm where
  enable : Bool
  state : ArmState
  mainOpening : Nat
  ethanolOpening : Nat
  noFlow : Timer
  settle : Timer
  hold : Timer
  load : Option Load
deriving DecidableEq, Repr

/-! ## Metering (R86, R94, R98) -/

/-- A meter (R86). It is silent while its stray counter raises no STRAY_FLOW before it has been cleared: the climb has raised
its notice, or a lowered threshold has met or passed the counter (R90, log 13). -/
structure Meter where
  enable : Bool
  kFactor : Nat
  divider : Nat
  stray : Nat
  remainder : Nat
  silent : Bool
deriving DecidableEq, Repr

/-- The condition of a probe channel (R94). -/
inductive ProbeCondition where
  | off
  | fault
  | valid
deriving DecidableEq, Repr

/-- A probe channel (R94); readings in tenths of a degree. -/
structure Probe where
  enable : Bool
  reading : Int
  condition : ProbeCondition
deriving DecidableEq, Repr

/-- The conversion in progress (R94), with the mark of R97 that its result is to be discarded. -/
structure Conversion where
  channel : Fin 16
  discard : Bool
deriving DecidableEq, Repr

/-! ## Header (R104) -/

/-- An arm of the grant set with the shares it holds (R104). -/
structure Grant where
  arm : Fin 8
  shares : Nat
deriving DecidableEq, Repr

/-- An entry of the wait list with its share wait timer (R104). -/
structure Waiter where
  arm : Fin 8
  shares : Nat
  timer : Timer
deriving DecidableEq, Repr

/-- The Header Allocator (R104); its permissive state is the Trip Unit's (log 23). -/
structure Header where
  capacity : Nat
  inUse : Nat
  grants : List Grant
  wait : List Waiter
deriving DecidableEq, Repr

/-! ## Additive stations and the injector bus (R116, R124, R127, R138, R194) -/

/-- The station states, in the order of R116. -/
inductive StationState where
  | off
  | idle
  | changeover
  | shooting
  | fault
deriving DecidableEq, Repr

/-- The standing of a shot in flight (R127). -/
inductive Standing where
  | inEntry
  | withdrawn
  | detached
deriving DecidableEq, Repr

/-- A shot in flight (R127). -/
structure Shot where
  load : Nat
  arm : Fin 8
  line : Nat
  size : Nat
  standing : Standing
deriving DecidableEq, Repr

/-- An entry of a shot queue (R124). -/
structure QueueEntry where
  arm : Fin 8
  load : Nat
  line : Nat
  owed : Nat
deriving DecidableEq, Repr

/-- An additive station (R116) with its configuration items (R117). A station is enabled when it is not OFF (log 23);
restore pending holds the port that is to be answered (R136). -/
structure Station where
  state : StationState
  manifold : Option (Fin 8)
  queue : List QueueEntry
  request : Bool
  shot : Option Shot
  changeover : Timer
  poll : Timer
  shotTimer : Timer
  failures : Nat
  lowLevel : Bool
  restore : Option Port
  reach : Byte
  changeoverMs : Nat
  shotTimeoutMs : Nat
deriving DecidableEq, Repr

/-- The kinds of bus frame, in the order of R194. -/
inductive FrameKind where
  | select
  | shot
  | poll
  | clear
deriving DecidableEq, Repr

/-- The pump states of a reply, in the order of R194. -/
inductive ReplyState where
  | ready
  | moving
  | pumping
  | done
  | refused
  | faulted
deriving DecidableEq, Repr

/-- How far a transaction has come (R139): its command frame is being sent, or its reply window is open. -/
inductive TxnPhase where
  | sending
  | window
deriving DecidableEq, Repr

/-- The transaction in progress (R138, R139): the station, the command frame (kind, arm, size: R194), the phase, the
mark that its reply is to be discarded (R117, R128, R134), and, while a SHOT frame is being sent, the shot it
carries (log 17). -/
structure Txn where
  station : Fin 4
  kind : FrameKind
  arm : Fin 8
  size : Nat
  phase : TxnPhase
  discarded : Bool
  shot : Option Shot
deriving DecidableEq, Repr

/-- The Injector Bus Arbiter (R138). -/
structure Bus where
  pointer : Fin 4
  txn : Option Txn
deriving DecidableEq, Repr

/-! ## Trips (R153) -/

/-- The Trip Unit's states: ESD asserted, header permissive present, lane permissives present (R153). -/
structure Trips where
  esd : Bool
  header : Bool
  lanes : Vector Bool 4
deriving DecidableEq, Repr

/-! ## Trace (R171, R172, R176) -/

/-- What caused a trace record (R172). -/
inductive TraceCause where
  | trim
  | phase
  | hold
  | finish
deriving DecidableEq, Repr

/-- A trace record (R172). -/
structure TraceRecord where
  load : Nat
  sequence : Nat
  cause : TraceCause
  armState : ArmState
  product : Nat
  gasoline : Nat
  ethanol : Nat
  mainOpening : Nat
  ethanolOpening : Nat
  deviation : Int
  sharesHeld : Nat
deriving DecidableEq, Repr

/-- A trace page (R171). -/
structure TracePage where
  records : List TraceRecord
  nextSequence : Nat
deriving DecidableEq, Repr

/-- The modes of a read window, in the order of R193. -/
inductive TraceMode where
  | page
  | across
  | down
deriving DecidableEq, Repr

/-- A port's read window with its pointer (R176). -/
structure TraceWindow where
  mode : TraceMode
  pageStart : Nat
  pageEnd : Nat
  columnStart : Nat
  columnEnd : Nat
  pointerPage : Nat
  pointerColumn : Nat
deriving DecidableEq, Repr

/-- An entry that TRACE READ returns (R178). -/
inductive TraceEntry where
  | present (page column count : Nat) (record : TraceRecord)
  | empty (page column count : Nat)
  | withheld (page column : Nat)
deriving DecidableEq, Repr

/-! ## Responses (R183) -/

/-- The result codes, in the order of R183. -/
inductive ResultCode where
  | ok
  | notPermitted
  | badRequest
  | badField
  | wrongMode
  | noSuch
  | inUse
  | tooLate
  | linkLost
  | listFull
  | queueFull
  | recipeChanged
  | presetTooSmall
  | stationUnavailable
  | tripped
  | notHeld
  | armBusy
deriving DecidableEq, Repr

/-- An entry of a LIST AUTHORIZATIONS response (R26). -/
structure AuthorizationView where
  authorization : Authorization
  remaining : Nat
deriving DecidableEq, Repr

/-- The device mode (R188). -/
inductive Mode where
  | configure
  | operate
deriving DecidableEq, Repr

/-- An arm in READ STATUS (R190). -/
structure ArmView where
  enable : Bool
  state : ArmState
  load : Option Nat
deriving DecidableEq, Repr

/-- A station in READ STATUS (R190). -/
structure StationView where
  state : StationState
  queueLength : Nat
  lowLevel : Bool
deriving DecidableEq, Repr

/-- What READ STATUS returns (R190). -/
structure StatusView where
  mode : Mode
  trips : Trips
  arms : List ArmView
  capacity : Nat
  inUse : Nat
  wait : List (Fin 8 × Nat)
  stations : List StationView
  probes : List ProbeCondition
  stray : List Nat
  deliveredCount : Nat
  reservations : Nat
  seconds : Nat
deriving DecidableEq, Repr

/-- The data of a response, one form for each request's answer; the rule of each request says what it carries. -/
inductive ResponseData where
  | none
  /-- BAD_FIELD: the field or parameter number, and the element index or the absent marker (R8, R183). -/
  | badField (field : Nat) (index : Option Nat)
  | status (view : StatusView)
  | notices (flags mask : Word16)
  | noticeSet (set : Word16)
  | configured (group index : Nat)
  | recipe (slot : Nat) (held : RecipeSlot)
  | slotRevision (slot revision : Nat)
  | issued (id position : Nat)
  | revoked (id : Nat) (lane : Fin 4)
  | authorizations (entries : List AuthorizationView)
  | started (load authorization : Nat) (arm : Fin 8)
  | stopped (load : Nat) (state : ArmState)
  | amended (revision : Nat) (staged : Bool)
  | held (load : Nat) (state : ArmState) (causes : HoldCauses)
  | load (seconds : Nat) (record : LoadRecord)
  | delivered (seconds position count reservations : Nat) (record : LoadRecord)
  | cleared (load left : Nat)
  | stray (meter count : Nat)
  | capacity (capacity inUse waiting : Nat)
  | restored (state : StationState) (reply : Option ReplyState)
  | window (w : TraceWindow)
  | trace (entries : List TraceEntry) (pointerPage pointerColumn : Nat)
deriving DecidableEq, Repr

/-- A response: result code and data (R183); the code and tag it echoes stand in the answer state. -/
structure Response where
  result : ResultCode
  data : ResponseData
deriving DecidableEq, Repr

/-- A port's receive state; the bytes of a partial frame, SYNC first (R181). -/
inductive Receive where
  | hunting
  | assembling (bytes : List Byte)
deriving DecidableEq, Repr

/-- A port's answer state (R181, R182): BUSY with the code and tag of the request taken, and the response once it is
formed. It is not formed yet only for a RESTORE STATION whose CLEAR transaction has not ended (R136). -/
inductive Answer where
  | free
  | busy (code tag : Byte) (response : Option Response)
deriving DecidableEq, Repr

/-- What is held for one port: by the Port Unit (R181), its link by the Recipe Store (R12) and its read window by the
Trace Unit (R176). -/
structure PortState where
  receive : Receive
  answer : Answer
  flags : Word16
  mask : Word16
  attention : Bool
  link : Option Link
  window : TraceWindow
deriving DecidableEq, Repr

/-! ## Device-wide configuration (R38, R93, R98, R104, R146, R189) -/

/-- The device-wide configuration items. -/
structure Settings where
  noFlowSeconds : Nat
  settleTenths : Nat
  holdMinutes : Nat
  shareWaitSeconds : Nat
  overrunLimit : Nat
  strayThreshold : Nat
  laneEnable : Vector Bool 4
  gasolineTable : Vector Nat 17
  ethanolTable : Vector Nat 17
deriving DecidableEq, Repr

/-! ## The whole machine -/

/-- The state of the LBC-8 and the queue of commands waiting for it. `freeCount` is the model's own counter, to which
the free value of LIST AUTHORIZATIONS is applied (log 5). -/
structure State where
  mode : Mode
  ports : Vector PortState 6
  recipes : Vector RecipeSlot 32
  queues : Vector (List Authorization) 4
  authCounter : Nat
  arms : Vector Arm 8
  meters : Vector Meter 16
  probes : Vector Probe 16
  scan : Option Conversion
  settings : Settings
  header : Header
  stations : Vector Station 4
  bus : Bus
  trips : Trips
  delivered : List LoadRecord
  reservations : Nat
  loadCounter : Nat
  seconds : Nat
  pages : Vector TracePage 8
  freeCount : Nat
  pending : List Instr
deriving DecidableEq, Repr

/-- What a command answers. -/
abbrev Result := Host.Outcome State Fault Refusal

/-! ## Power-on values -/

/-- The notice flags a terminal port holds: all eleven of R186. -/
def terminalFlags : Word16 := 0x07FF#16

/-- The notice flags a lane port holds: the first six of R186. -/
def laneFlags : Word16 := 0x003F#16

/-- The read window of R176 at power-on and after a port break. -/
def TraceWindow.reset : TraceWindow :=
  { mode := .page, pageStart := 0, pageEnd := 7, columnStart := 0, columnEnd := 63, pointerPage := 0, pointerColumn := 0 }

/-- A port at power-on, with the mask of its class all enabled (R181). -/
def PortState.reset (mask : Word16) : PortState :=
  { receive := .hunting, answer := .free, flags := 0#16, mask := mask, attention := false, link := none,
    window := TraceWindow.reset }

/-- A recipe slot at power-on (R1). -/
def RecipeSlot.reset : RecipeSlot := { revision := 0, content := none }

/-- An arm controller at power-on (R36, R38). -/
def Arm.reset : Arm :=
  { enable := false, state := .idle, mainOpening := 0, ethanolOpening := 0, noFlow := .stopped, settle := .stopped,
    hold := .stopped, load := none }

/-- A meter at power-on (R86). -/
def Meter.reset : Meter := 
  { enable := false, kFactor := 1, divider := 1, stray := 0, remainder := 0, silent := false }

/-- A probe channel at power-on (R94). -/
def Probe.reset : Probe := { enable := false, reading := 0, condition := .off }

/-- The Header Allocator at power-on (R104). -/
def Header.reset : Header := { capacity := 0, inUse := 0, grants := [], wait := [] }

/-- A station at power-on (R116, R117). -/
def Station.reset : Station :=
  { state := .off, manifold := none, queue := [], request := false, shot := none, changeover := .stopped,
    poll := .stopped, shotTimer := .stopped, failures := 0, lowLevel := false, restore := none, reach := 0#8,
    changeoverMs := 500, shotTimeoutMs := 2000 }

/-- The arbiter at power-on: the pointer names station 3 (R138). -/
def Bus.reset : Bus := { pointer := 3, txn := none }

/-- A trace page at power-on (R171). -/
def TracePage.reset : TracePage := { records := [], nextSequence := 0 }

/-- The device-wide configuration at power-on (R38, R93, R98, R104, R146, R189). -/
def Settings.reset : Settings :=
  { noFlowSeconds := 10, settleTenths := 20, holdMinutes := 30, shareWaitSeconds := 0, overrunLimit := 50,
    strayThreshold := 20, laneEnable := Vector.replicate 4 false, gasolineTable := Vector.replicate 17 10000,
    ethanolTable := Vector.replicate 17 10000 }

/-- The six ports at power-on: all flags clear, all masks enabled (R181). -/
def resetPorts : Vector PortState 6 :=
  #v[PortState.reset terminalFlags, PortState.reset terminalFlags, PortState.reset laneFlags, PortState.reset laneFlags,
    PortState.reset laneFlags, PortState.reset laneFlags]

/-- Power-on (R188) with the trip states taken from their inputs (R153). -/
def State.powerOn (trips : Trips) : State :=
  { mode := .configure
    ports := resetPorts
    recipes := Vector.replicate 32 RecipeSlot.reset
    queues := Vector.replicate 4 []
    authCounter := 1
    arms := Vector.replicate 8 Arm.reset
    meters := Vector.replicate 16 Meter.reset
    probes := Vector.replicate 16 Probe.reset
    scan := none
    settings := Settings.reset
    header := Header.reset
    stations := Vector.replicate 4 Station.reset
    bus := Bus.reset
    trips := trips
    delivered := []
    reservations := 0
    loadCounter := 1
    seconds := 0
    pages := Vector.replicate 8 TracePage.reset
    freeCount := 0
    pending := [] }

/-- The machine right after reset: power-on with ESD clear and every permissive present. The spec takes these six
states from the inputs; the values here are the model's (DESIGN CHOICE, log 3). -/
def State.reset : State :=
  State.powerOn { esd := false, header := true, lanes := Vector.replicate 4 true }

end Sys2Proof.Machine
end

