-- ==== Sys2Proof/Machine/Ops.lean ====
section
/-! DEFINITION. The named operations over the blocks of the LBC-8: reading and updating one arm, load, line, station,
port or page; volume points; revisions; trace records; header shares. -/

namespace Sys2Proof.Machine

/-! ## Numbering (00_scope.md) -/

/-- The index of a port, in the order TA, TB, LP0 to LP3 (R181). -/
def portIndex : Port → Fin 6
  | .ta => 0
  | .tb => 1
  | .lp l => ⟨2 + l.val, by omega⟩

/-- Every port. -/
def allPorts : List Port := [.ta, .tb, .lp 0, .lp 1, .lp 2, .lp 3]

/-- Every arm, ascending. -/
def allArms : List (Fin 8) := [0, 1, 2, 3, 4, 5, 6, 7]

/-- Every lane, ascending. -/
def allLanes : List (Fin 4) := [0, 1, 2, 3]

/-- Every station, ascending. -/
def allStations : List (Fin 4) := [0, 1, 2, 3]

/-- The lane of an arm: lane l consists of arms 2l and 2l+1. -/
def laneOf (a : Fin 8) : Fin 4 := ⟨a.val / 2, by omega⟩

/-- The arms of a lane, ascending. -/
def armsOf (l : Fin 4) : List (Fin 8) := [⟨2 * l.val, by omega⟩, ⟨2 * l.val + 1, by omega⟩]

/-- Arm a's gasoline meter and probe channel, 2a. -/
def gasolineOf (a : Fin 8) : Fin 16 := ⟨2 * a.val, by omega⟩

/-- Arm a's ethanol meter and probe channel, 2a+1. -/
def ethanolOf (a : Fin 8) : Fin 16 := ⟨2 * a.val + 1, by omega⟩

/-- The arm of a meter. -/
def armOfMeter (m : Fin 16) : Fin 8 := ⟨m.val / 2, by omega⟩

/-- Whether a meter is a gasoline meter: the even ones. -/
def isGasoline (m : Fin 16) : Bool := m.val % 2 == 0

/-! ## One block's item -/

namespace State

/-- A port's items. -/
def port (s : State) (p : Port) : PortState := s.ports[(portIndex p).val]

/-- Change one port's items. -/
def modPort (s : State) (p : Port) (f : PortState → PortState) : State :=
  { s with ports := s.ports.set (portIndex p).val (f s.ports[(portIndex p).val]) }

/-- An arm controller. -/
def arm (s : State) (a : Fin 8) : Arm := s.arms[a.val]

/-- Change one arm controller. -/
def modArm (s : State) (a : Fin 8) (f : Arm → Arm) : State :=
  { s with arms := s.arms.set a.val (f s.arms[a.val]) }

/-- The active load of an arm. -/
def load? (s : State) (a : Fin 8) : Option Load := (s.arm a).load

/-- Change the active load of an arm; nothing where there is none. -/
def modLoad (s : State) (a : Fin 8) (f : Load → Load) : State :=
  s.modArm a fun x => { x with load := x.load.map f }

/-- An additive line of an arm's active load. -/
def line? (s : State) (a : Fin 8) (i : Nat) : Option Line :=
  match s.load? a with
  | none => none
  | some l => l.lines[i]?

/-- Change one additive line of an arm's active load. -/
def modLine (s : State) (a : Fin 8) (i : Nat) (f : Line → Line) : State :=
  s.modLoad a fun l => { l with lines := l.lines.modify i f }

/-- A meter. -/
def meter (s : State) (m : Fin 16) : Meter := s.meters[m.val]

/-- Change one meter. -/
def modMeter (s : State) (m : Fin 16) (f : Meter → Meter) : State :=
  { s with meters := s.meters.set m.val (f s.meters[m.val]) }

/-- A probe channel. -/
def probe (s : State) (c : Fin 16) : Probe := s.probes[c.val]

/-- Change one probe channel. -/
def modProbe (s : State) (c : Fin 16) (f : Probe → Probe) : State :=
  { s with probes := s.probes.set c.val (f s.probes[c.val]) }

/-- A station. -/
def station (s : State) (st : Fin 4) : Station := s.stations[st.val]

/-- Change one station. -/
def modStation (s : State) (st : Fin 4) (f : Station → Station) : State :=
  { s with stations := s.stations.set st.val (f s.stations[st.val]) }

/-- A lane queue. -/
def queue (s : State) (l : Fin 4) : List Authorization := s.queues[l.val]

/-- Replace one lane queue. -/
def setQueue (s : State) (l : Fin 4) (q : List Authorization) : State :=
  { s with queues := s.queues.set l.val q }

/-- A recipe slot. -/
def slot (s : State) (k : Fin 32) : RecipeSlot := s.recipes[k.val]

/-- Replace one recipe slot. -/
def setSlot (s : State) (k : Fin 32) (r : RecipeSlot) : State :=
  { s with recipes := s.recipes.set k.val r }

/-- A trace page. -/
def page (s : State) (a : Fin 8) : TracePage := s.pages[a.val]

/-- Change one trace page. -/
def modPage (s : State) (a : Fin 8) (f : TracePage → TracePage) : State :=
  { s with pages := s.pages.set a.val (f s.pages[a.val]) }

/-- Change the Header Allocator. -/
def modHeader (s : State) (f : Header → Header) : State := { s with header := f s.header }

/-- Change the transaction in progress; nothing where there is none. -/
def modTxn (s : State) (f : Txn → Txn) : State :=
  { s with bus := { s.bus with txn := s.bus.txn.map f } }

/-- Set a port's link, or clear it (R12). -/
def setLink (s : State) (p : Port) (l : Option Link) : State :=
  s.modPort p fun x => { x with link := l }

end State

/-! ## Arm states -/

/-- The blending phases: RAMP, FULL and TAPER (00_scope.md, Terms). -/
def ArmState.isBlending : ArmState → Bool
  | .ramp => true
  | .full => true
  | .taper => true
  | .idle => false
  | .prime => false
  | .flush => false
  | .shareWait => false
  | .held => false
  | .closing => false

/-- The flowing states: PRIME, the blending phases and FLUSH (R42). -/
def ArmState.isFlowing : ArmState → Bool
  | .prime => true
  | .ramp => true
  | .full => true
  | .taper => true
  | .flush => true
  | .idle => false
  | .shareWait => false
  | .held => false
  | .closing => false

/-- The resume phase that an arm entering HELD from this state gets; none from a state that a hold does not leave
(R58). -/
def ArmState.toResume : ArmState → Option ResumePhase
  | .prime => some .prime
  | .ramp => some .ramp
  | .full => some .full
  | .taper => some .taper
  | .flush => some .flush
  | .shareWait => some .shareWait
  | .idle => none
  | .held => none
  | .closing => none

/-- A resume phase as an arm state, by which it is coded (R192). -/
def ResumePhase.toArmState : ResumePhase → ArmState
  | .prime => .prime
  | .ramp => .ramp
  | .full => .full
  | .taper => .taper
  | .flush => .flush
  | .shareWait => .shareWait

/-! ## Hold causes (R141) -/

/-- Whether the set holds the cause. -/
def HoldCauses.has (h : HoldCauses) : HoldCause → Bool
  | .laneHold => h.laneHold
  | .terminalHold => h.terminalHold
  | .checkpoint0 => h.checkpoint0
  | .checkpoint1 => h.checkpoint1
  | .permissive => h.permissive

/-- The set with the cause present or absent. -/
def HoldCauses.put (h : HoldCauses) (b : Bool) : HoldCause → HoldCauses
  | .laneHold => { h with laneHold := b }
  | .terminalHold => { h with terminalHold := b }
  | .checkpoint0 => { h with checkpoint0 := b }
  | .checkpoint1 => { h with checkpoint1 := b }
  | .permissive => { h with permissive := b }

/-- The set of one cause. -/
def HoldCauses.only (c : HoldCause) : HoldCauses := HoldCauses.put {} true c

/-- The causes of either set. -/
def HoldCauses.union (h k : HoldCauses) : HoldCauses :=
  { laneHold := h.laneHold || k.laneHold
    terminalHold := h.terminalHold || k.terminalHold
    checkpoint0 := h.checkpoint0 || k.checkpoint0
    checkpoint1 := h.checkpoint1 || k.checkpoint1
    permissive := h.permissive || k.permissive }

/-- Whether the set is empty. -/
def HoldCauses.isEmpty (h : HoldCauses) : Bool :=
  !(h.laneHold || h.terminalHold || h.checkpoint0 || h.checkpoint1 || h.permissive)

/-- The hold cause of checkpoint n (R141). -/
def checkpointCause (n : Fin 2) : HoldCause := if n = 0 then .checkpoint0 else .checkpoint1

/-! ## Revisions (R2, R15) -/

/-- The revision after one change: from 65535 to 1 (R2, R15). -/
def nextRevision (r : Nat) : Nat := if 65535 ≤ r then 1 else r + 1

/-- Advance a load record's revision by one (R15). -/
def Load.bump (l : Load) : Load := { l with data := { l.data with revision := nextRevision l.data.revision } }

/-! ## Volume points (R40) -/

/-- The minimum preset of a recipe (R3). -/
def Recipe.minimumPreset (r : Recipe) : Nat :=
  r.primeVolume + r.rampSteps * r.rampStepVolume + r.taperVolume + r.flushVolume

/-- A record with a preset and the points derived from it (R40, R69): blend span, flush point, taper point, ethanol
target. -/
def LoadData.withPreset (d : LoadData) (r : Recipe) (p : Nat) : LoadData :=
  { d with
    preset := p
    blendSpan := p - r.flushVolume - r.primeVolume
    flushPoint := p - r.flushVolume
    taperPoint := p - r.flushVolume - r.taperVolume
    ethanolTarget := r.ratio * p / 1000 }

/-- Apply an amendment: the current preset becomes `p`, none is pending, the points are derived anew (R55, R57). -/
def Load.amend (l : Load) (p : Nat) : Load :=
  { l with data := { l.data.withPreset l.recipe p with pending := none } }

/-- Apply the pending amendment, if there is one (R57). -/
def Load.applyPending (l : Load) : Load :=
  match l.data.pending with
  | none => l
  | some p => l.amend p

/-- The flush end that applying an amendment leaves: the new P for an ordered flush, the lower of the flush end and
the new P for a cut one (R55, R57). -/
def Load.adjustFlushEnd (l : Load) : Load :=
  match l.flushKind, l.flushEnd with
  | some .ordered, some _ => { l with flushEnd := some l.data.preset }
  | some .cut, some e => { l with flushEnd := some (min e l.data.preset) }
  | none, _ => l
  | some _, none => l

/-- Set the end status due if none is due yet (R62). -/
def Load.setDue (l : Load) (e : EndStatus) : Load :=
  match l.endDue with
  | none => { l with endDue := some e }
  | some _ => l

/-- The smallest `base + k * step` above `v`, with k at least 1 (R71, R120). -/
def firstAbove (base step v : Nat) : Nat := base + ((v - base) / step + 1) * step

/-! ## Valve openings (R46, R48) -/

/-- The main opening of ramp step k (R46). -/
def Recipe.rampOpening (r : Recipe) (k : Nat) : Nat :=
  r.primeOpening + (r.fullOpening - r.primeOpening) * k / r.rampSteps

/-- The product volume of taper step j (R48). -/
def Recipe.taperStepVolume (r : Recipe) (taperPoint j : Nat) : Nat :=
  taperPoint + (j - 1) * r.taperVolume / r.taperSteps

/-- The main opening of taper step j (R48); the quotient is rounded down before it is taken off (DEDUCED, log 12). -/
def Recipe.taperOpening (r : Recipe) (j : Nat) : Nat :=
  r.fullOpening - (r.fullOpening - r.taperEndOpening) * j / r.taperSteps

/-- The highest taper step whose volume V has reached, 0 below step 1 (R48). -/
def Recipe.taperStepAt (r : Recipe) (taperPoint v : Nat) : Nat :=
  (List.range r.taperSteps).foldl (fun j k => if r.taperStepVolume taperPoint (k + 1) ≤ v then k + 1 else j) 0

/-! ## Additive counts (R119) -/

/-- A due shot that is queued: owed (R121). -/
def LineRecord.fallDue (c : LineRecord) : LineRecord := { c with due := c.due + 1, owed := c.owed + 1 }

/-- A due shot that is missed at once (R121, R122). -/
def LineRecord.fallMissed (c : LineRecord) : LineRecord := { c with due := c.due + 1, missed := c.missed + 1 }

/-- `n` owed shots become missed; never more than are owed (log 25). -/
def LineRecord.miss (c : LineRecord) (n : Nat) : LineRecord :=
  { c with missed := c.missed + min n c.owed, owed := c.owed - min n c.owed }

/-- One owed shot is delivered with its measured volume (R129). -/
def LineRecord.deliver (c : LineRecord) (volume : Nat) : LineRecord :=
  { c with delivered := c.delivered + min 1 c.owed, owed := c.owed - min 1 c.owed, volume := c.volume + volume }

/-- One owed shot becomes unconfirmed (R132, R134). -/
def LineRecord.unconfirm (c : LineRecord) : LineRecord :=
  { c with unconfirmed := c.unconfirmed + min 1 c.owed, owed := c.owed - min 1 c.owed }

/-- Change a line's part of the record. -/
def Line.modCounts (f : LineRecord → LineRecord) (l : Line) : Line := { l with counts := f l.counts }

/-! ## Header shares (R104 to R108) -/

/-- The free shares: the capacity less the shares in use (R104). -/
def Header.free (h : Header) : Nat := h.capacity - h.inUse

/-- The shares an arm holds (R104). -/
def Header.sharesOf (h : Header) (a : Fin 8) : Nat :=
  match h.grants.find? fun g => g.arm == a with
  | some g => g.shares
  | none => 0

/-- The arm leaves the grant set and the shares in use fall by what it held (R107). -/
def Header.release (h : Header) (a : Fin 8) : Header :=
  { h with inUse := h.inUse - h.sharesOf a, grants := h.grants.filter fun g => g.arm != a }

/-- The arm leaves the wait list; its share wait timer goes with the entry (R108). -/
def Header.leave (h : Header) (a : Fin 8) : Header :=
  { h with wait := h.wait.filter fun w => w.arm != a }

/-- The arm joins the grant set (R105, R106). -/
def Header.grant (h : Header) (a : Fin 8) (n : Nat) : Header :=
  { h with inUse := h.inUse + n, grants := h.grants ++ [{ arm := a, shares := n }] }

namespace State

/-- On entry to FLUSH, HELD or CLOSING the arm gives up its shares or its place on the wait list (R51, R58, R63).
The serving that follows is made at the end of the event (log 15). -/
def dropShares (s : State) (a : Fin 8) : State := s.modHeader fun h => (h.release a).leave a

/-! ## Timers started with the configured intervals -/

/-- A no-flow timer just started (R38, R61). -/
def noFlowStart (s : State) : Timer := .running (s.settings.noFlowSeconds * 1000)

/-- A settle timer just started (R38, R64). -/
def settleStart (s : State) : Timer := .running (s.settings.settleTenths * 100)

/-- A hold timer just started (R146). -/
def holdStart (s : State) : Timer := .running (s.settings.holdMinutes * 60000)

/-- A share wait timer at its entry's appending: not started with a share wait limit of 0 (R109). -/
def shareWaitStart (s : State) : Timer :=
  if s.settings.shareWaitSeconds = 0 then .stopped else .running (s.settings.shareWaitSeconds * 1000)

/-! ## Load records -/

/-- The whole record of an arm's active load (R159): the arm's and the allocator's items put in (log 23). -/
def recordOf (s : State) (a : Fin 8) (l : Load) : LoadRecord :=
  { data := l.data
    armState := (s.arm a).state
    resumePhase := l.resume
    mainOpening := (s.arm a).mainOpening
    ethanolOpening := (s.arm a).ethanolOpening
    sharesHeld := s.header.sharesOf a
    lines := l.lines.map Line.counts }

/-- The arm whose active load carries the number, if one does (R162). -/
def armOfLoad (s : State) (n : Nat) : Option (Fin 8) :=
  allArms.find? fun a =>
    match s.load? a with
    | some l => l.data.number == n
    | none => false

/-- The delivered record that carries the number, if one does (R162). -/
def deliveredWith (s : State) (n : Nat) : Option LoadRecord :=
  s.delivered.find? fun r => r.data.number == n

/-- The record that carries the number, active or delivered (R162). -/
def recordWith (s : State) (n : Nat) : Option LoadRecord :=
  match s.armOfLoad n with
  | some a =>
    match s.load? a with
    | some l => some (s.recordOf a l)
    | none => none
  | none => s.deliveredWith n

end State

/-! ## Trace records (R172, R174) -/

/-- A page takes a record: it carries the page's next sequence, the next sequence advances (65535 to 0), and a full
page loses its oldest record (R174). -/
def TracePage.append (g : TracePage) (r : TraceRecord) : TracePage :=
  let kept := if g.records.length < Config.traceDepth then g.records else g.records.drop 1
  { records := kept ++ [{ r with sequence := g.nextSequence }]
    nextSequence := if 65535 ≤ g.nextSequence then 0 else g.nextSequence + 1 }

namespace State

/-- The arm hands a trace record to the Trace Unit, filled from its own state and the active load record (R172); an arm
with no active load appends nothing (R173). -/
def appendTrace (s : State) (a : Fin 8) (cause : TraceCause) : State :=
  match s.load? a with
  | none => s
  | some l =>
    s.modPage a fun g => g.append
      { load := l.data.number
        sequence := 0
        cause := cause
        armState := (s.arm a).state
        product := l.data.product
        gasoline := l.data.gasoline
        ethanol := l.data.ethanol
        mainOpening := (s.arm a).mainOpening
        ethanolOpening := (s.arm a).ethanolOpening
        deviation := l.data.deviation
        sharesHeld := s.header.sharesOf a }

/-! ## The revision of a load record (R15) -/

/-- The five parts of R15 of an arm's active load: preset, pending amendment, hold-cause set, checkpoint flags, and arm
state with resume phase; with the number that tells one load from another. -/
def revisionParts (s : State) (a : Fin 8) :
    Option (Nat × Nat × Option Nat × HoldCauses × Bool × Bool × ArmState × Option ResumePhase) :=
  match s.load? a with
  | none => none
  | some l =>
    some (l.data.number, l.data.preset, l.data.pending, l.data.causes, l.data.flag0, l.data.flag1, (s.arm a).state,
      l.resume)

/-- Whether an event that led from `s0` to `s` changed one of the parts of R15 of the load that the arm has in both. -/
def partsChanged (s0 s : State) (a : Fin 8) : Bool :=
  match s0.revisionParts a, s.revisionParts a with
  | some x, some y => x.1 == y.1 && x != y
  | some _, none => false
  | none, _ => false

/-- At the end of an event: the revision of each load whose parts the event changed advances once (R15). -/
def bumpRevisions (s0 s : State) : State :=
  allArms.foldl (fun t a => if partsChanged s0 s a then t.modLoad a Load.bump else t) s

end State

end Sys2Proof.Machine
end

