-- ==== Sys2Proof/Machine/Flags.lean ====
section
/-! DEFINITION. The notice flags, masks and attention lines of the ports (R186, R187). -/

namespace Sys2Proof.Machine

/-- The notices, in the order of R186. -/
inductive Notice where
  | loadEnded
  | checkpoint
  | trip
  | authExpired
  | shareWaitLong
  | collision
  | station
  | strayFlow
  | probeFault
  | overrun
  | listNearlyFull
deriving DecidableEq, Repr

/-- A notice's bit: the flags are numbered in the order of R186, bit 0 first (R187). -/
def Notice.bit : Notice → Nat
  | .loadEnded => 0
  | .checkpoint => 1
  | .trip => 2
  | .authExpired => 3
  | .shareWaitLong => 4
  | .collision => 5
  | .station => 6
  | .strayFlow => 7
  | .probeFault => 8
  | .overrun => 9
  | .listNearlyFull => 10

/-- The set of one notice. -/
def Notice.set (n : Notice) : Word16 := 1#16 <<< n.bit

/-- The flags that a port's class holds: all eleven at a terminal port, six at a lane port (R186). -/
def classFlags (p : Port) : Word16 := if p.isTerminal then terminalFlags else laneFlags

/-- Whether a port with these flags and this mask asserts its attention line (R187). -/
def attentionOf (flags mask : Word16) : Bool := (flags &&& mask) != 0#16

/-- Give a port new flags; the attention line follows (R187). -/
def PortState.withFlags (x : PortState) (flags : Word16) : PortState :=
  { x with flags := flags, attention := attentionOf flags x.mask }

/-- Give a port a new mask; the attention line follows (R187). -/
def PortState.withMask (x : PortState) (mask : Word16) : PortState :=
  { x with mask := mask, attention := attentionOf x.flags mask }

/-- Raise a notice on a port: the flag is set; one already set stays set (R186). -/
def PortState.raise (n : Notice) (x : PortState) : PortState := x.withFlags (x.flags ||| n.set)

/-- The terminal ports. -/
def terminalPorts : List Port := [.ta, .tb]

/-- The terminal ports and the lane port of a lane. -/
def terminalsAndLane (l : Fin 4) : List Port := [.ta, .tb, .lp l]

/-- Raise a notice on the ports that its rule names (R186). -/
def State.raise (s : State) (n : Notice) (ports : List Port) : State :=
  ports.foldl (fun t p => t.modPort p (PortState.raise n)) s

end Sys2Proof.Machine
end

