-- ==== Sys2Proof/Machine/Operands.lean ====
section
/-! DEFINITION. The operands of the requests: the recipe content block and its validation (R3 to R8, R192), the arm
and load a request names (R142, R143), the link test (R13), and the forms of a refusal (R183). -/

namespace Sys2Proof.Machine

/-! ## Answers -/

/-- OK with its data. -/
def Response.okWith (d : ResponseData) : Response := { result := .ok, data := d }

/-- A refusal carries no data (R183). -/
def Response.refuse (c : ResultCode) : Response := { result := c, data := .none }

/-- BAD_FIELD names the field or parameter, and the element index where there is one (R8, R183). -/
def Response.badField (field : Nat) (index : Option Nat := none) : Response :=
  { result := .badField, data := .badField field index }

/-! ## Numbers from bytes (R192) -/

/-- A field's value, high byte first (R192). -/
def beNat (bs : List Byte) : Nat := bs.foldl (fun n b => n * 256 + b.toNat) 0

/-- The field of `w` bytes at an offset of a block. -/
def fieldAt (bs : List Byte) (offset w : Nat) : Nat := beNat ((bs.drop offset).take w)

/-- A yes-or-no byte, or an enable (R192); none when it is neither 0 nor 1. -/
def yesNo (b : Nat) : Option Bool :=
  match b with
  | 0 => some false
  | 1 => some true
  | _ => none

/-- Whether a value lies in a range, both ends included. -/
def inRange (lo hi x : Nat) : Bool := decide (lo ≤ x) && decide (x ≤ hi)

/-! ## Recipe content (R3 to R8) -/

/-- A line position of a content block, as its bytes give it. -/
structure RawLine where
  station : Nat
  spacing : Nat
  shotSize : Nat
  required : Nat
deriving DecidableEq, Repr

/-- A checkpoint position of a content block, as its bytes give it. -/
structure RawCheckpoint where
  kind : Nat
  volume : Nat
  mode : Nat
deriving DecidableEq, Repr

/-- A content block, as its bytes give it: the scalar fields by their numbers in R3, all positions of both lists. -/
structure RawContent where
  productCode : Nat
  ratio : Nat
  tolerance : Nat
  primeVolume : Nat
  primeOpening : Nat
  rampSteps : Nat
  rampStepVolume : Nat
  fullOpening : Nat
  taperVolume : Nat
  taperSteps : Nat
  taperEndOpening : Nat
  flushVolume : Nat
  ethanolStartOpening : Nat
  trimVolume : Nat
  trimStep : Nat
  deadband : Nat
  alarmLimit : Nat
  alarmCount : Nat
  shareCount : Nat
  lineCount : Nat
  checkpointCount : Nat
  lines : List RawLine
  checkpoints : List RawCheckpoint
deriving DecidableEq, Repr

/-- The line position at an offset (R192). -/
def rawLineAt (bs : List Byte) (o : Nat) : RawLine :=
  { station := fieldAt bs o 1, spacing := fieldAt bs (o + 1) 2, shotSize := fieldAt bs (o + 3) 2,
    required := fieldAt bs (o + 5) 1 }

/-- The checkpoint position at an offset (R192). -/
def rawCheckpointAt (bs : List Byte) (o : Nat) : RawCheckpoint :=
  { kind := fieldAt bs o 1, volume := fieldAt bs (o + 1) 4, mode := fieldAt bs (o + 5) 1 }

/-- The fields of a content block by the layout of R192. -/
def parseContent (bs : List Byte) : RawContent :=
  { productCode := fieldAt bs 0 2
    ratio := fieldAt bs 2 2
    tolerance := fieldAt bs 4 1
    primeVolume := fieldAt bs 5 2
    primeOpening := fieldAt bs 7 1
    rampSteps := fieldAt bs 8 1
    rampStepVolume := fieldAt bs 9 2
    fullOpening := fieldAt bs 11 1
    taperVolume := fieldAt bs 12 2
    taperSteps := fieldAt bs 14 1
    taperEndOpening := fieldAt bs 15 1
    flushVolume := fieldAt bs 16 2
    ethanolStartOpening := fieldAt bs 18 1
    trimVolume := fieldAt bs 19 1
    trimStep := fieldAt bs 20 1
    deadband := fieldAt bs 21 1
    alarmLimit := fieldAt bs 22 2
    alarmCount := fieldAt bs 24 1
    shareCount := fieldAt bs 25 1
    lineCount := fieldAt bs 26 1
    lines := [rawLineAt bs 27, rawLineAt bs 33, rawLineAt bs 39]
    checkpointCount := fieldAt bs 45 1
    checkpoints := [rawCheckpointAt bs 46, rawCheckpointAt bs 52] }

/-- One check of a commit's validation: whether it passes, and the field and element it is attributed to (R6, R7). -/
structure FieldCheck where
  ok : Bool
  field : Nat
  index : Option Nat
deriving DecidableEq, Repr

/-- The checks of the scalar fields 1 to 20, each with the cross-field condition attributed to it (R3, R6, R7). -/
def scalarChecks (c : RawContent) : List FieldCheck :=
  [ ⟨inRange 1 9999 c.productCode, 1, none⟩,
    ⟨inRange 0 850 c.ratio, 2, none⟩,
    ⟨inRange 1 20 c.tolerance, 3, none⟩,
    ⟨inRange 10 2000 c.primeVolume, 4, none⟩,
    ⟨inRange 1 255 c.primeOpening, 5, none⟩,
    ⟨inRange 1 8 c.rampSteps, 6, none⟩,
    ⟨inRange 5 500 c.rampStepVolume, 7, none⟩,
    ⟨inRange 1 255 c.fullOpening && decide (c.primeOpening ≤ c.fullOpening), 8, none⟩,
    ⟨inRange 10 3000 c.taperVolume, 9, none⟩,
    ⟨inRange 1 8 c.taperSteps, 10, none⟩,
    ⟨inRange 1 255 c.taperEndOpening && decide (c.taperEndOpening ≤ c.fullOpening), 11, none⟩,
    ⟨inRange 0 1000 c.flushVolume, 12, none⟩,
    ⟨inRange 0 255 c.ethanolStartOpening, 13, none⟩,
    ⟨inRange 5 100 c.trimVolume, 14, none⟩,
    ⟨inRange 1 32 c.trimStep, 15, none⟩,
    ⟨inRange 0 50 c.deadband, 16, none⟩,
    ⟨inRange 5 500 c.alarmLimit, 17, none⟩,
    ⟨inRange 1 20 c.alarmCount, 18, none⟩,
    ⟨inRange 0 4 c.shareCount && (decide (c.shareCount = 0) == decide (c.ratio = 0)), 19, none⟩,
    ⟨inRange 0 3 c.lineCount, 20, none⟩ ]

/-- The checks of line `i`, with the lower-indexed used lines before it (R4, R6). -/
def lineChecks (before : List RawLine) (i : Nat) (l : RawLine) : List FieldCheck :=
  [ ⟨inRange 0 3 l.station && !(before.any fun k => k.station == l.station), 21, some i⟩,
    ⟨inRange 10 5000 l.spacing, 22, some i⟩,
    ⟨inRange 1 4000 l.shotSize, 23, some i⟩,
    ⟨(yesNo l.required).isSome, 24, some i⟩ ]

/-- The absent marker of a checkpoint's four-byte volume (R192). -/
def absentVolume : Nat := 0xFFFFFFFF

/-- The index of AT_VOLUME among the event kinds of R5. -/
def atVolumeKind : Nat := 1

/-- The checks of checkpoint entry `i` (R5, R6): its volume is present exactly for AT_VOLUME. -/
def checkpointChecks (i : Nat) (k : RawCheckpoint) : List FieldCheck :=
  [ ⟨inRange 0 4 k.kind, 26, some i⟩,
    ⟨if k.kind = atVolumeKind then inRange 1 200000 k.volume else decide (k.volume = absentVolume), 27, some i⟩,
    ⟨inRange 0 1 k.mode, 28, some i⟩ ]

/-- The used line positions (R4). -/
def RawContent.usedLines (c : RawContent) : List RawLine := c.lines.take c.lineCount

/-- The used checkpoint positions (R5). -/
def RawContent.usedCheckpoints (c : RawContent) : List RawCheckpoint := c.checkpoints.take c.checkpointCount

/-- The checks of the used lines from index `i` on, line by line (R7). -/
def linesChecks : List RawLine → Nat → List RawLine → List FieldCheck
  | _, _, [] => []
  | before, i, l :: rest => lineChecks before i l ++ linesChecks (before ++ [l]) (i + 1) rest

/-- The checks of the used checkpoint entries from index `i` on (R7). -/
def checkpointsChecks : Nat → List RawCheckpoint → List FieldCheck
  | _, [] => []
  | i, k :: rest => checkpointChecks i k ++ checkpointsChecks (i + 1) rest

/-- Every check of a content in the order of R7: fields 1 to 20, the used lines, field 25, the used checkpoints. -/
def contentChecks (c : RawContent) : List FieldCheck :=
  scalarChecks c ++ linesChecks [] 0 c.usedLines ++ [⟨inRange 0 2 c.checkpointCount, 25, none⟩]
    ++ checkpointsChecks 0 c.usedCheckpoints

/-- The first field that offends, by the order of R7, if one does (R8). -/
def RawContent.offends (c : RawContent) : Option FieldCheck := (contentChecks c).find? fun k => !k.ok

/-- A station number that has passed its range. -/
def stationOf (n : Nat) : Fin 4 := ⟨n % 4, by omega⟩

/-- A used line position as the line that is kept (R4). -/
def RawLine.keep (l : RawLine) : RecipeLine :=
  { station := stationOf l.station, spacing := l.spacing, shotSize := l.shotSize, required := l.required == 1 }

/-- An event kind by its index in R5. -/
def eventKindOf (kind volume : Nat) : EventKind :=
  match kind with
  | 0 => .primeDone
  | 1 => .atVolume volume
  | 2 => .taperBegin
  | 3 => .shotMissed
  | _ => .shareWaitLong

/-- A used checkpoint position as the entry that is kept (R5). -/
def RawCheckpoint.keep (k : RawCheckpoint) : RecipeCheckpoint :=
  { event := eventKindOf k.kind k.volume, mode := if k.mode = 0 then .note else .halt }

/-- The content that a slot takes: the scalar fields and the used positions; the others are not kept (R4, R5). -/
def RawContent.keep (c : RawContent) : Recipe :=
  { productCode := c.productCode
    ratio := c.ratio
    tolerance := c.tolerance
    primeVolume := c.primeVolume
    primeOpening := c.primeOpening
    rampSteps := c.rampSteps
    rampStepVolume := c.rampStepVolume
    fullOpening := c.fullOpening
    taperVolume := c.taperVolume
    taperSteps := c.taperSteps
    taperEndOpening := c.taperEndOpening
    flushVolume := c.flushVolume
    ethanolStartOpening := c.ethanolStartOpening
    trimVolume := c.trimVolume
    trimStep := c.trimStep
    deadband := c.deadband
    alarmLimit := c.alarmLimit
    alarmCount := c.alarmCount
    shareCount := c.shareCount
    lines := c.usedLines.map RawLine.keep
    checkpoints := c.usedCheckpoints.map RawCheckpoint.keep }

/-! ## What a request names -/

/-- Check 1 of the requests on an arm: a terminal port may name arms 0-7, a lane port an arm of its lane (R52, R143). -/
def addressArm (p : Port) (arm : Byte) : Except Response (Fin 8) :=
  match p with
  | .lp l =>
    if h : arm.toNat < 8 then
      if laneOf ⟨arm.toNat, h⟩ = l then .ok ⟨arm.toNat, h⟩ else .error (.refuse .notPermitted)
    else .error (.refuse .notPermitted)
  | .ta => if h : arm.toNat < 8 then .ok ⟨arm.toNat, h⟩ else .error (.badField 1)
  | .tb => if h : arm.toNat < 8 then .ok ⟨arm.toNat, h⟩ else .error (.badField 1)

/-- Checks 1 and 2 of the requests on a load: the port may address the arm, and the arm has an active load that
parameter 2 names, by its number or by 0 (R52, R142, R143). -/
def addressLoad (s : State) (p : Port) (arm : Byte) (load : Word24) : Except Response (Fin 8 × Load) :=
  match addressArm p arm with
  | .error r => .error r
  | .ok a =>
    match s.load? a with
    | none => .error (.refuse .noSuch)
    | some l =>
      if load.toNat = 0 ∨ load.toNat = l.data.number then .ok (a, l) else .error (.refuse .noSuch)

/-- Checks 1 to 3: the arm is moreover not in CLOSING (R52, R143). -/
def addressOpenLoad (s : State) (p : Port) (arm : Byte) (load : Word24) : Except Response (Fin 8 × Load) :=
  match addressLoad s p arm load with
  | .error r => .error r
  | .ok (a, l) => if (s.arm a).state = .closing then .error (.refuse .tooLate) else .ok (a, l)

/-- The link test of R13 on a recipe slot: the port's link names the slot and carries its current revision. A slot
number above 31 is named by no link (R9). -/
def recipeLinked (s : State) (p : Port) (k : Byte) : Option (Fin 32) :=
  if h : k.toNat < 32 then
    if (s.port p).link = some (.recipe k.toNat (s.slot ⟨k.toNat, h⟩).revision) then some ⟨k.toNat, h⟩ else none
  else none

/-- The hold cause of a port's class (R143, R144). -/
def classCause (p : Port) : HoldCause := if p.isTerminal then .terminalHold else .laneHold

end Sys2Proof.Machine
end

