-- ==== Sys2Proof/Machine/Requests.lean ====
section
/-! DEFINITION. Taking a request and answering it (R12, R182, R185), shared by all 30 requests. -/

namespace Sys2Proof.Machine

/-- Whether an answer state is BUSY. -/
def Answer.isBusy : Answer → Bool
  | .free => false
  | .busy _ _ _ => true

/-- The response of a BUSY port is formed (R182); a FREE port has no request to answer. -/
def Answer.form (a : Answer) (r : Response) : Answer :=
  match a with
  | .free => .free
  | .busy code tag _ => .busy code tag (some r)

namespace State

/-- The response to the port's request is formed. -/
def respond (s : State) (p : Port) (r : Response) : State :=
  s.modPort p fun x => { x with answer := x.answer.form r }

/-- A complete frame reaches a BUSY port: it is discarded and COLLISION is raised on that port (R182). The frame being
complete, the port's receive state is HUNTING (R181). -/
def collide (s : State) (p : Port) : State :=
  (s.modPort p fun x => { x with receive := .hunting }).raise .collision [p]

/-- A complete frame is taken as a request: the port is BUSY with its code and tag (R182). -/
def accept (s : State) (p : Port) (code tag : Byte) : State :=
  s.modPort p fun x => { x with receive := .hunting, answer := .busy code tag none }

/-- A conditional request clears its port's link, whatever its result (R12). -/
def clearIfConditional (s : State) (p : Port) (rc : ReqCode) : State :=
  if rc.conditional then s.setLink p none else s

/-- A request whose code and length are right reaches a port (R182): a BUSY port discards it; otherwise it is taken,
check 3 judges the port's class, and the owning block's checks and effects follow; the response is formed unless
the request is answered later. -/
def takeRequest (s : State) (p : Port) (rc : ReqCode) (tag : Byte) (act : State → State × Option Response) : State :=
  if (s.port p).answer.isBusy then s.collide p
  else
    let t := s.accept p rc.toByte tag
    if p.mayIssue rc then
      let r := act t
      match r.2 with
      | some resp => ((r.1).clearIfConditional p rc).respond p resp
      | none => (r.1).clearIfConditional p rc
    else (t.clearIfConditional p rc).respond p (.refuse .notPermitted)

/-- A complete frame that fails check 1 or 2 of R182: a BUSY port discards it; otherwise it is taken and answered
BAD_REQUEST, and a conditional request code clears the link (R12, R182). -/
def takeBadRequest (s : State) (p : Port) (code tag : Byte) : State :=
  if (s.port p).answer.isBusy then s.collide p
  else
    let t := s.accept p code tag
    (match ReqCode.ofByte code with
     | some rc => t.clearIfConditional p rc
     | none => t).respond p (.refuse .badRequest)

end State

/-- An answer given at once, with the state it leaves. -/
def answer (s : State) (r : Response) : State × Option Response := (s, some r)

end Sys2Proof.Machine
end

