-- ==== Sys2Proof/Machine/Bus.lean ====
section
/-! DEFINITION. The Injector Bus Arbiter, the shot queues, and what leaving and entering the blending phases does at the
stations (R120, R124, R125, R131, R138, R139). -/

namespace Sys2Proof.Machine

/-- Whether a shot counts to the arm's load with this number: a DETACHED shot counts to none (R127). -/
def Shot.countsTo (sh : Shot) (a : Fin 8) (number : Nat) : Bool :=
  sh.arm == a && sh.load == number && sh.standing != .detached

namespace State

/-! ## Shots in flight -/

/-- The shot of a station: in flight, or on its way in the SHOT frame being sent (R127, log 17). -/
def shotOf (s : State) (st : Fin 4) : Option Shot :=
  match (s.station st).shot with
  | some sh => some sh
  | none =>
    match s.bus.txn with
    | some t => if t.station = st then t.shot else none
    | none => none

/-- Change the shot of a station, wherever it stands. -/
def modShot (s : State) (st : Fin 4) (f : Shot → Shot) : State :=
  (s.modStation st fun x => { x with shot := x.shot.map f }).modTxn fun t =>
    if t.station = st then { t with shot := t.shot.map f } else t

/-- The shot of a station becomes absent. -/
def dropShot (s : State) (st : Fin 4) : State :=
  (s.modStation st fun x => { x with shot := none }).modTxn fun t =>
    if t.station = st then { t with shot := none } else t

/-- Whether the arm's load with this number has a shot in flight at any station (R64). -/
def shotInFlight (s : State) (a : Fin 8) (number : Nat) : Bool :=
  allStations.any fun st =>
    match s.shotOf st with
    | some sh => sh.countsTo a number
    | none => false

/-! ## The arbiter (R138) -/

/-- The station that the round-robin search finds: the first with a request, from the one after the pointer (R138). -/
def nextRequester (s : State) : Option (Fin 4) :=
  [s.bus.pointer + 1, s.bus.pointer + 2, s.bus.pointer + 3, s.bus.pointer].find? fun st => (s.station st).request

/-- The shot size that an entry's line orders, from the load's snapshot (R125). -/
def entryShotSize (s : State) (e : QueueEntry) : Nat :=
  match s.load? e.arm with
  | none => 0
  | some l =>
    match l.recipe.lines[e.line]? with
    | none => 0
    | some k => k.shotSize

/-- The transaction a granted station begins: an IDLE one forms a SHOT or a SELECT from its head entry (R125), a
SHOOTING one a POLL (R128), one in FAULT the CLEAR of its restore (R136). -/
def formTxn (s : State) (st : Fin 4) : Option Txn :=
  match (s.station st).state with
  | .idle =>
    match (s.station st).queue with
    | [] => none
    | e :: _ =>
      if (s.station st).manifold = some e.arm then
        some
          { station := st, kind := .shot, arm := e.arm, size := s.entryShotSize e, phase := .sending, discarded := false,
            shot := some
              { load := e.load, arm := e.arm, line := e.line, size := s.entryShotSize e, standing := .inEntry } }
      else
        some
          { station := st, kind := .select, arm := e.arm, size := 0, phase := .sending, discarded := false,
            shot := none }
  | .shooting =>
    match (s.station st).shot with
    | none => none
    | some sh =>
      some
        { station := st, kind := .poll, arm := sh.arm, size := 0, phase := .sending, discarded := false, shot := none }
  | .fault =>
    if (s.station st).restore.isSome then
      some { station := st, kind := .clear, arm := 0, size := 0, phase := .sending, discarded := false, shot := none }
    else none
  | .off => none
  | .changeover => none

/-- The arbiter grants the free bus to a requesting station, whose transaction begins (R138, R139). -/
def arbitrate (s : State) : State :=
  if s.bus.txn.isSome then s
  else
    match s.nextRequester with
    | none => s
    | some st =>
      { s.modStation st fun x => { x with request := false } with
        bus := { pointer := st, txn := s.formTxn st } }

/-- A station gains a bus request; a free bus is granted at that moment (R138, log 16). -/
def gainRequest (s : State) (st : Fin 4) : State :=
  (s.modStation st fun x => { x with request := true }).arbitrate

/-! ## Queue entries (R124) -/

/-- The owed count of an arm's entry in a station's queue, 0 where it has none. -/
def entryOwed (s : State) (st : Fin 4) (a : Fin 8) : Nat :=
  match (s.station st).queue.find? fun e => e.arm == a with
  | some e => e.owed
  | none => 0

/-- An entry joins the tail; an IDLE station whose queue was empty gains a bus request (R121, R125). -/
def appendEntry (s : State) (st : Fin 4) (e : QueueEntry) : State :=
  let t := s.modStation st fun x => { x with queue := x.queue ++ [e] }
  if (s.station st).state = .idle ∧ (s.station st).queue = [] then t.gainRequest st else t

/-- An arm's entry is withdrawn from a station's queue: an IDLE station whose queue empties loses its request, and the
arm's shot in flight becomes WITHDRAWN (R125, R131). -/
def dropEntry (s : State) (st : Fin 4) (a : Fin 8) : State :=
  (s.modStation st fun x =>
    let q := x.queue.filter fun e => e.arm != a
    { x with queue := q, request := x.request && !(decide (x.state = .idle) && q.isEmpty) }).modShot st fun sh =>
      if sh.arm = a ∧ sh.standing = .inEntry then { sh with standing := .withdrawn } else sh

/-- The shots of a station's shot in flight that are counted in the arm's entry: 1 or 0 (R119, R127). -/
def inEntryShots (s : State) (st : Fin 4) (a : Fin 8) : Nat :=
  match s.shotOf st with
  | some sh => if sh.arm = a ∧ sh.standing = .inEntry then 1 else 0
  | none => 0

/-! ## Leaving the blending phases (R131) -/

/-- What is left of a withdrawn entry's owed shots is kept with the arm (R131, entry to HELD). -/
def keepShots (n : Nat) (l : Line) : Line := { l with kept := l.kept + n }

/-- The owed shots left, and the kept ones, become missed (R131, entry to FLUSH or CLOSING). -/
def missShots (n : Nat) (l : Line) : Line := { l with counts := l.counts.miss (n + l.kept), kept := 0 }

/-- One line's entry is withdrawn and its owed shots are settled: kept on entry to HELD, missed otherwise (R131). -/
def withdrawLine (s : State) (a : Fin 8) (keep : Bool) (i : Nat) : State :=
  match s.line? a i with
  | none => s
  | some l =>
    if l.counts.skipped then s
    else
      let n := s.entryOwed l.counts.station a - s.inEntryShots l.counts.station a
      (s.dropEntry l.counts.station a).modLine a i (if keep then keepShots n else missShots n)

/-- Every line's entry is withdrawn, line 0 first (R131). -/
def withdrawLines (s : State) (a : Fin 8) (keep : Bool) : State :=
  [0, 1, 2].foldl (fun t i => t.withdrawLine a keep i) s

/-! ## Entering a blending phase (R120) -/

/-- One line's next shot boundary is set above V, and its kept shots are queued again (R120). -/
def requeueLine (s : State) (a : Fin 8) (i : Nat) : State :=
  match s.load? a with
  | none => s
  | some ld =>
    match ld.lines[i]?, ld.recipe.lines[i]? with
    | some l, some k =>
      if l.counts.skipped then s
      else
        let t := s.modLine a i fun x =>
          { x with nextBoundary := some (firstAbove ld.recipe.primeVolume k.spacing ld.data.product), kept := 0 }
        if l.kept = 0 then t
        else t.appendEntry l.counts.station { arm := a, load := ld.data.number, line := i, owed := l.kept }
    | some _, none => s
    | none, _ => s

/-- Every line's boundary is set and its kept shots queued, line 0 first (R120). -/
def requeueLines (s : State) (a : Fin 8) : State :=
  [0, 1, 2].foldl (fun t i => t.requeueLine a i) s

end State

end Sys2Proof.Machine
end

