-- ==== Sys2Proof/Machine/Arms.lean ====
section
/-! DEFINITION. The transitions of an arm: entering and leaving each state, checkpoints firing, the header allocator's
answers and its serving, and completion (R43 to R66, R105 to R108, R149, R165). -/

namespace Sys2Proof.Machine

/-! ## The load's own part of each transition -/

/-- The flush end at entry to FLUSH: P for an ordered flush, the lower of V + F and P for a cut one (R49, R50). -/
def Load.flushEndAtEntry (l : Load) : FlushKind → Nat
  | .ordered => l.data.preset
  | .cut => min (l.data.product + l.recipe.flushVolume) l.data.preset

/-- A load whose arm enters FLUSH: flush end and kind set, a pending amendment applied to both (R49, R50, R51, R57). -/
def Load.flushed (l : Load) (k : FlushKind) : Load :=
  ({ l with flushEnd := some (l.flushEndAtEntry k), flushKind := some k, resume := none, waitTarget := none }
    : Load).applyPending.adjustFlushEnd

/-- A load whose arm enters CLOSING: what HELD, SHARE_WAIT and FLUSH held is dropped, the hold-cause set is emptied and
a pending amendment applied (R60, R63). -/
def Load.closed (l : Load) : Load :=
  ({ l with
      flushEnd := none, flushKind := none, resume := none, waitTarget := none
      data := { l.data with causes := {} } } : Load).applyPending

/-- A load whose arm enters HELD: the resume phase is set and a pending amendment applied (R58). -/
def Load.heldFrom (l : Load) (r : ResumePhase) : Load :=
  ({ l with resume := some r } : Load).applyPending

/-- The ethanol opening on entry to a blending phase: 0 for a ratio of 0, the start opening the first time, the opening
last used afterwards (R74, R81). -/
def Load.entryEthanol (l : Load) : Nat :=
  if l.recipe.ratio = 0 then 0
  else
    match l.ethanolLastUsed with
    | none => l.recipe.ethanolStartOpening
    | some e => e

/-- A load whose arm enters a blending phase from outside: the next trim point lies above V and the ethanol opening
last used is the one set (R71, R74, R81). -/
def Load.blended (l : Load) : Load :=
  { l with
    resume := none
    waitTarget := none
    nextTrim := some (firstAbove l.recipe.primeVolume l.recipe.trimVolume l.data.product)
    ethanolLastUsed := some l.entryEthanol }

/-- The taper ceiling that an entry to TAPER finds or sets (R47). -/
def Load.ceilingOr (l : Load) (opening : Nat) : Nat :=
  match l.taperCeiling with
  | none => opening
  | some c => c

/-- The taper step whose volume is V (R48). -/
def Load.taperStepDue (l : Load) : Option Nat :=
  ((List.range l.recipe.taperSteps).find? fun k =>
    decide (l.recipe.taperStepVolume l.data.taperPoint (k + 1) = l.data.product)).map (· + 1)

/-- The main opening that a tick leaves in TAPER: at a step's volume the lower of the step's opening and the present
one, elsewhere the present one (R48). -/
def Load.taperStepped (l : Load) (opening : Nat) : Nat :=
  match l.taperStepDue with
  | none => opening
  | some j => min (l.recipe.taperOpening j) opening

/-- The main opening on entry to TAPER from a state other than RAMP or FULL: that of the step that matches V, at most
the ceiling; the ceiling itself below step 1 (R48). -/
def Load.taperEntryOpening (l : Load) (ceiling : Nat) : Nat :=
  match l.recipe.taperStepAt l.data.taperPoint l.data.product with
  | 0 => ceiling
  | j + 1 => min (l.recipe.taperOpening (j + 1)) ceiling

/-- Whether recipe entry n matches the event and finds its flag clear (R149). -/
def Load.hit (l : Load) (ev : EventKind) (n : Fin 2) : Bool :=
  match l.recipe.checkpoints[n.val]? with
  | none => false
  | some e => decide (e.event = ev) && !(if n = 0 then l.data.flag0 else l.data.flag1)

/-- Whether recipe entry n is in mode HALT (R149). -/
def Load.halts (l : Load) (n : Fin 2) : Bool :=
  match l.recipe.checkpoints[n.val]? with
  | none => false
  | some e => decide (e.mode = .halt)

/-- The final ratio in tenths of a per mille, 0 when G + E is 0 (R82). -/
def finalRatioOf (gasoline ethanol : Nat) : Nat := ethanol * 10000 / (gasoline + ethanol)

/-- Whether a final ratio lies within the tolerance of the ratio (R83). -/
def inToleranceOf (final ratio tolerance : Nat) : Bool :=
  decide ((final - 10 * ratio) + (10 * ratio - final) ≤ 10 * tolerance)

/-- The record's own fields at completion (R65, R66): end status, end time, final ratio, in-tolerance; the revision
advances once more; the hold-cause set is empty and no amendment pends. -/
def LoadData.completed (d : LoadData) (status : EndStatus) (seconds : Nat) : LoadData :=
  { d with
    pending := none
    causes := {}
    revision := nextRevision d.revision
    endTime := some seconds
    endStatus := some status
    finalRatio := some (finalRatioOf d.gasoline d.ethanol)
    inTolerance := some (inToleranceOf (finalRatioOf d.gasoline d.ethanol) d.ratio d.tolerance) }

namespace State

/-- Add a fault to the fault set of an arm's load. -/
def addFault (s : State) (a : Fin 8) (f : FaultSet → FaultSet) : State :=
  s.modLoad a fun l => { l with data := { l.data with faults := f l.data.faults } }

/-- Set the end status due of an arm's load if none is due (R62). -/
def setDue (s : State) (a : Fin 8) (e : EndStatus) : State := s.modLoad a fun l => l.setDue e

/-! ## CLOSING, HELD, FLUSH -/

/-- Entry to CLOSING (R63): valves shut, shares and entries given up, owed shots missed, the settle timer started. -/
def enterClosing (s : State) (a : Fin 8) : State :=
  ((((s.modArm a fun x =>
      { x with state := .closing, mainOpening := 0, ethanolOpening := 0, noFlow := .stopped, hold := .stopped,
               settle := s.settleStart }).modLoad a Load.closed).dropShares a).withdrawLines a false).appendTrace a .phase

/-- Entry to HELD from a state that a hold leaves, with its resume phase (R58). -/
def enterHeld (s : State) (a : Fin 8) (r : ResumePhase) : State :=
  ((((s.modArm a fun x =>
      { x with state := .held, mainOpening := 0, ethanolOpening := 0, noFlow := .stopped, hold := s.holdStart }).modLoad a
        fun l => l.heldFrom r).dropShares a).withdrawLines a true).appendTrace a .hold

/-- Whether the flush of an arm's load is at its end: V has reached the flush end or P (R51). -/
def flushEnded (s : State) (a : Fin 8) : Bool :=
  match s.load? a with
  | none => false
  | some l =>
    decide (l.data.preset ≤ l.data.product) ||
      (match l.flushEnd with
       | none => false
       | some e => decide (e ≤ l.data.product))

/-- A flush that is at its end enters CLOSING as part of the same event (R50, R57). -/
def closeIfFlushed (s : State) (a : Fin 8) : State := if s.flushEnded a then s.enterClosing a else s

/-- Entry to FLUSH of either kind (R49, R50, R51). -/
def enterFlush (s : State) (a : Fin 8) (k : FlushKind) : State :=
  match s.load? a with
  | none => s
  | some l =>
    (((((s.modArm a fun x =>
        { x with state := .flush, mainOpening := l.recipe.taperEndOpening, ethanolOpening := 0,
                 noFlow := s.noFlowStart }).modLoad a fun l => l.flushed k).dropShares a).withdrawLines a
                   false).appendTrace a .phase).closeIfFlushed a

/-- A cut flush: the cause's end status becomes due if none is due yet (R50). -/
def cutFlush (s : State) (a : Fin 8) (e : EndStatus) : State := (s.setDue a e).enterFlush a .cut

/-- FLUSH resumed from HELD with its kept flush end and kind (R51, R59). -/
def resumeFlush (s : State) (a : Fin 8) : State :=
  match s.load? a with
  | none => s
  | some l =>
    (((s.modArm a fun x =>
        { x with state := .flush, mainOpening := l.recipe.taperEndOpening, ethanolOpening := 0,
                 noFlow := s.noFlowStart }).modLoad a fun l => { l with resume := none }).appendTrace a
                   .phase).closeIfFlushed a

/-! ## Hold causes and checkpoints -/

/-- Causes are added to the set of an arm's load: the first sends the arm to HELD; none is added in CLOSING (R58, R141). -/
def addCauses (s : State) (a : Fin 8) (c : HoldCauses) : State :=
  if c.isEmpty then s
  else
    let t := s.modLoad a fun l => { l with data := { l.data with causes := l.data.causes.union c } }
    match (s.arm a).state with
    | .held => t
    | .idle => s
    | .closing => s
    | .prime => t.enterHeld a .prime
    | .ramp => t.enterHeld a .ramp
    | .full => t.enterHeld a .full
    | .taper => t.enterHeld a .taper
    | .flush => t.enterHeld a .flush
    | .shareWait => t.enterHeld a .shareWait

/-- A checkpoint event fires for an arm's load (R149): each matching entry whose flag is clear sets it; one CHECKPOINT
notice stands for both; HALT entries add their causes unless the arm is in CLOSING. -/
def fireEvent (s : State) (a : Fin 8) (ev : EventKind) : State :=
  match s.load? a with
  | none => s
  | some l =>
    if l.hit ev 0 || l.hit ev 1 then
      ((s.modLoad a fun x =>
        { x with data := { x.data with flag0 := x.data.flag0 || l.hit ev 0, flag1 := x.data.flag1 || l.hit ev 1 } }).raise
          .checkpoint (terminalsAndLane (laneOf a))).addCauses a
            { checkpoint0 := l.hit ev 0 && l.halts 0, checkpoint1 := l.hit ev 1 && l.halts 1 }
    else s

/-! ## The blending phases -/

/-- Entry to RAMP from its beginning (R46, R71, R74, R120). -/
def enterRamp (s : State) (a : Fin 8) : State :=
  match s.load? a with
  | none => s
  | some l =>
    (((s.modArm a fun x =>
        { x with state := .ramp, mainOpening := l.recipe.primeOpening, ethanolOpening := l.entryEthanol,
                 noFlow := s.noFlowStart }).modLoad a fun l =>
          { l.blended with rampBase := some l.data.product }).requeueLines a).appendTrace a .phase

/-- TAPER_BEGIN fires at the load's first entry to TAPER (R47). -/
def fireIfFirst (s : State) (a : Fin 8) (first : Bool) : State := if first then s.fireEvent a .taperBegin else s

/-- Entry to TAPER from outside RAMP and FULL, at the step that matches V (R47, R48, R71, R74, R120). -/
def enterTaperAtStep (s : State) (a : Fin 8) : State :=
  match s.load? a with
  | none => s
  | some l =>
    ((((s.modArm a fun x =>
        { x with state := .taper, mainOpening := l.taperEntryOpening (l.ceilingOr l.recipe.fullOpening),
                 ethanolOpening := l.entryEthanol, noFlow := s.noFlowStart }).modLoad a fun l =>
          { l.blended with taperCeiling := some (l.ceilingOr l.recipe.fullOpening) }).requeueLines a).appendTrace a
            .phase).fireIfFirst a l.taperCeiling.isNone

/-- Entry to TAPER from RAMP or FULL, when V has reached the taper point (R47): the present opening is kept and becomes
the ceiling of a first entry, and a step is taken if this tick brings V to its volume, as step 1 is at the taper point
itself (R48). -/
def enterTaperFromRun (s : State) (a : Fin 8) : State :=
  match s.load? a with
  | none => s
  | some l =>
    (((s.modArm a fun x =>
        { x with state := .taper, mainOpening := l.taperStepped x.mainOpening,
                 noFlow := s.noFlowStart }).modLoad a fun l =>
          { l with taperCeiling := some (l.ceilingOr (s.arm a).mainOpening) }).appendTrace a .phase).fireIfFirst a
            l.taperCeiling.isNone

/-- The arm goes to its target (R44, R59). -/
def goToTarget (s : State) (a : Fin 8) : WaitTarget → State
  | .ramp => s.enterRamp a
  | .taper => s.enterTaperAtStep a

/-- Entry to SHARE_WAIT with a target, when the allocator has queued the request (R45, R105). -/
def enterShareWait (s : State) (a : Fin 8) (w : WaitTarget) (shares : Nat) : State :=
  (((s.modArm a fun x =>
      { x with state := .shareWait, mainOpening := 0, ethanolOpening := 0, noFlow := .stopped }).modLoad a fun l =>
        { l with resume := none, waitTarget := some w }).modHeader fun h =>
          { h with wait := h.wait ++ [{ arm := a, shares := shares, timer := s.shareWaitStart }] }).appendTrace a .phase

/-- ETHANOL_SUPPLY joins the fault set and becomes due if nothing is (R105, R111, R112). -/
def supplyFault (s : State) (a : Fin 8) : State :=
  (s.addFault a fun f => { f with ethanolSupply := true }).setDue a .ethanolSupply

/-- The arm asks for its share count and the allocator answers at once (R44, R59, R105): a share count of 0 needs
none; with the permissive lost the request is refused; with the list empty and enough free shares it is granted;
otherwise it is queued. -/
def requestShares (s : State) (a : Fin 8) (w : WaitTarget) : State :=
  match s.load? a with
  | none => s
  | some l =>
    if l.recipe.shareCount = 0 then s.goToTarget a w
    else if s.trips.header = false then (s.supplyFault a).enterClosing a
    else if s.header.wait = [] ∧ l.recipe.shareCount ≤ s.header.free then
      (s.modHeader fun h => h.grant a l.recipe.shareCount).goToTarget a w
    else s.enterShareWait a w l.recipe.shareCount

/-- The arm leaves PRIME with V at or past Vp: it goes on, then PRIME_DONE is offered to the checkpoints (R44). -/
def leavePrime (s : State) (a : Fin 8) : State :=
  match s.load? a with
  | none => s
  | some l =>
    (if l.data.preset ≤ l.data.product then s.enterClosing a
     else if l.data.flushPoint ≤ l.data.product then s.enterFlush a .ordered
     else if l.data.taperPoint ≤ l.data.product then s.requestShares a .taper
     else s.requestShares a .ramp).fireEvent a .primeDone

/-- Entry to PRIME, from HELD; V at or past Vp leaves it at once (R43, R59). -/
def resumePrime (s : State) (a : Fin 8) : State :=
  match s.load? a with
  | none => s
  | some l =>
    let t := ((s.modArm a fun x =>
      { x with state := .prime, mainOpening := l.recipe.primeOpening, ethanolOpening := 0,
               noFlow := s.noFlowStart }).modLoad a fun l => { l with resume := none }).appendTrace a .phase
    if l.recipe.primeVolume ≤ l.data.product then t.leavePrime a else t

/-- A load leaving HELD toward the blending phases: V is evaluated, then the shares are asked for (R59). -/
def resumeBlending (s : State) (a : Fin 8) (toTaper : Bool) : State :=
  match s.load? a with
  | none => s
  | some l =>
    if l.data.preset ≤ l.data.product then s.enterClosing a
    else if l.data.flushPoint ≤ l.data.product then s.enterFlush a .ordered
    else if toTaper || decide (l.data.taperPoint ≤ l.data.product) then s.requestShares a .taper
    else s.requestShares a .ramp

/-- The last cause has left the set: the hold timer stops and the arm goes on by its resume phase, or to CLOSING with
the supply-lost mark (R59, R112). -/
def leaveHeld (s : State) (a : Fin 8) : State :=
  match s.load? a with
  | none => s
  | some l =>
    let t := s.modArm a fun x => { x with hold := .stopped }
    if l.supplyLost then t.enterClosing a
    else
      match l.resume with
      | none => t
      | some .prime => t.resumePrime a
      | some .ramp => t.resumeBlending a false
      | some .full => t.resumeBlending a false
      | some .taper => t.resumeBlending a true
      | some .flush => t.resumeFlush a
      | some .shareWait => t.resumeBlending a (decide (l.waitTarget = some .taper))

/-- A cause is removed; when the last one leaves the set of a held load, the arm leaves HELD (R59, R144). -/
def removeCause (s : State) (a : Fin 8) (c : HoldCause) : State :=
  let t := s.modLoad a fun l => { l with data := { l.data with causes := l.data.causes.put false c } }
  match t.load? a with
  | none => t
  | some l => if (t.arm a).state = .held ∧ l.data.causes.isEmpty then t.leaveHeld a else t

/-! ## Serving the wait list (R45, R106) -/

/-- An arm that has just been granted its shares evaluates V and acts (R45). -/
def receiveGrant (s : State) (a : Fin 8) : State :=
  match s.load? a with
  | none => s
  | some l =>
    if l.data.preset ≤ l.data.product then s.enterClosing a
    else if l.data.flushPoint ≤ l.data.product then s.enterFlush a .ordered
    else if l.data.taperPoint ≤ l.data.product ∨ l.waitTarget = some .taper then s.enterTaperAtStep a
    else s.enterRamp a

/-- Serving: while the permissive is present and the head fits, the head is granted and its arm acts (R106). The first
argument bounds the grants; each takes one entry off the list. -/
def serveUpTo : Nat → State → State
  | 0, s => s
  | n + 1, s =>
    match s.header.wait with
    | [] => s
    | w :: rest =>
      if s.trips.header = true ∧ w.shares ≤ s.header.free then
        serveUpTo n
          ((s.modHeader fun h => ({ h with wait := rest } : Header).grant w.arm w.shares).receiveGrant w.arm)
      else s

/-- The allocator serves its wait list (R106). -/
def serve (s : State) : State := serveUpTo s.header.wait.length s

/-- The serving at the end of an event that led from `s0` to `s` (R106, log 15): where the event has changed nothing at
the allocator it has freed no shares and left the head, and nothing is served. -/
def serveAfter (s0 s : State) : State := if s.header = s0.header then s else s.serve

/-- The end of an event on the arms: the wait list is served, and the revision of every load whose parts the event
changed advances once (R15, R106, logs 15 and 20). -/
def endEvent (s0 s : State) : State := bumpRevisions s0 (serveAfter s0 s)

/-! ## Completion (R64, R65, R165) -/

/-- The arm finishes the load record and hands it over (R65, R66, R165): it is IDLE, appends END, the record joins the
tail of the delivered list and consumes its reservation, and the notices are raised. -/
def completeLoad (s : State) (a : Fin 8) (status : EndStatus) : State :=
  match s.load? a with
  | none => s
  | some l =>
    let t := ((s.modArm a fun x =>
      { x with state := .idle, mainOpening := 0, ethanolOpening := 0, noFlow := .stopped, settle := .stopped,
               hold := .stopped }).modLoad a fun x =>
        { x with data := x.data.completed status s.seconds, resume := none }).appendTrace a .finish
    let record : LoadRecord :=
      { data := l.data.completed status s.seconds, armState := .idle, resumePhase := none, mainOpening := 0,
        ethanolOpening := 0, sharesHeld := 0, lines := l.lines.map Line.counts }
    let u := ({ t.modArm a fun x => { x with load := none } with
      delivered := t.delivered ++ [record], reservations := t.reservations - 1 } : State).raise .loadEnded
        (terminalsAndLane (laneOf a))
    if u.delivered.length = Config.nearlyFull then u.raise .listNearlyFull terminalPorts else u

/-- A load in CLOSING completes when its settle timer has run out and it has no shot in flight (R64); its end status is
the one due, or COMPLETE (R62). -/
def completeIfSettled (s : State) (a : Fin 8) : State :=
  match s.load? a with
  | none => s
  | some l =>
    if (s.arm a).state = .closing ∧ (s.arm a).settle = .expired ∧ s.shotInFlight a l.data.number = false then
      s.completeLoad a (match l.endDue with
        | none => .complete
        | some e => e)
    else s

end State

end Sys2Proof.Machine
end

