-- ==== Sys2Proof/Machine/Ticks.lean ====
section
/-! DEFINITION. METER_PULSE and all that a volume tick does: counting, net volume, overrun, the steps of R42, the trim
work, the shot boundaries and the AT_VOLUME checkpoints (R39 to R42, R46, R48, R70 to R78, R87 to R92, R99, R100, R121
to R123, R150). -/

namespace Sys2Proof.Machine

/-! ## Correction (R98 to R100) -/

/-- The band of a reading (R98). -/
def bandOf (reading : Int) : Nat :=
  let b := (reading + 300) / 50
  if b < 0 then 0 else if 16 < b then 16 else b.toNat

/-- The bands of a table are 0 to 16. -/
theorem bandOf_lt (reading : Int) : bandOf reading < 17 := by
  unfold bandOf
  simp only
  split
  · omega
  · split
    · omega
    · omega

/-- The factor of a tick: that of the band of its line's latest reading when the channel is VALID, else the
substitute factor 10000 (R99). -/
def factorFor (s : State) (m : Fin 16) : Nat :=
  match (s.probe m).condition with
  | .valid =>
    if isGasoline m then s.settings.gasolineTable[bandOf (s.probe m).reading]'(bandOf_lt _)
    else s.settings.ethanolTable[bandOf (s.probe m).reading]'(bandOf_lt _)
  | .off => 10000
  | .fault => 10000

/-- Whether a tick of the meter is corrected with the substitute factor (R99). -/
def substituted (s : State) (m : Fin 16) : Bool := (s.probe m).condition != .valid

/-- A net volume that advances by `n` stops at the ceiling (R100). -/
def advanceNet (net n : Nat) : Nat := min (net + n) Config.maxVolume

/-! ## Counting a tick to the load (R39, R89, R92, R99, R100) -/

/-- One gross decilitre of the line: G or E and V advance, unless V stands at the ceiling (R39). -/
def LoadData.countGross (d : LoadData) (gas : Bool) : LoadData :=
  if Config.maxVolume ≤ d.product then d
  else if gas then { d with gasoline := d.gasoline + 1, product := d.product + 1 }
  else { d with ethanol := d.ethanol + 1, product := d.product + 1 }

/-- The net volume of the line advances by whole net decilitres, and TEMP_SUBSTITUTED is set by a substituted tick
(R99, R100). -/
def LoadData.countNet (d : LoadData) (gas : Bool) (n : Nat) (subst : Bool) : LoadData :=
  if gas then { d with gasolineNet := advanceNet d.gasolineNet n, tempSubstituted := d.tempSubstituted || subst }
  else { d with ethanolNet := advanceNet d.ethanolNet n, tempSubstituted := d.tempSubstituted || subst }

/-- A tick in CLOSING is overrun as well, unless V stands at the ceiling (R92). -/
def LoadData.countOverrun (d : LoadData) : LoadData :=
  if Config.maxVolume ≤ d.product then d else { d with overrun := d.overrun + 1 }

namespace State

/-- The Metering Unit adds the tick's factor to the meter's remainder; whole net decilitres reach the load (R100). -/
def countNetVolume (s : State) (a : Fin 8) (m : Fin 16) : State :=
  let sum := (s.meter m).remainder + factorFor s m
  (s.modMeter m fun x => { x with remainder := sum % 10000 }).modLoad a fun l =>
    { l with data := l.data.countNet (isGasoline m) (sum / 10000) (substituted s m) }

/-- The tick advances G or E and V of the load (R39). -/
def countGrossVolume (s : State) (a : Fin 8) (m : Fin 16) : State :=
  s.modLoad a fun l => { l with data := l.data.countGross (isGasoline m) }

/-- A stray tick (R90): the counter advances and saturates; where it meets the stray threshold STRAY_FLOW is raised, once
in a climb, and not where a lowered threshold has met or passed the counter since it was cleared (log 13). -/
def strayTick (s : State) (m : Fin 16) : State :=
  if Config.maxStray ≤ (s.meter m).stray then s
  else
    let met := decide ((s.meter m).stray + 1 = s.settings.strayThreshold)
    let t := s.modMeter m fun x => { x with stray := x.stray + 1, silent := x.silent || met }
    if met ∧ (s.meter m).silent = false then t.raise .strayFlow terminalPorts else t

/-- A tick in CLOSING (R41, R64, R92): it counts as overrun and restarts the settle timer; the overrun that first
exceeds the limit adds OVERRUN to the fault set and raises its notice. -/
def closingTick (s : State) (a : Fin 8) (m : Fin 16) : State :=
  let t := ((s.modLoad a fun l => { l with data := l.data.countOverrun }).countGrossVolume a m).modArm a fun x =>
    { x with settle := s.settleStart }
  match s.load? a, t.load? a with
  | some l0, some l =>
    if l0.data.overrun < l.data.overrun ∧ s.settings.overrunLimit < l.data.overrun ∧ l.data.faults.overrun = false then
      (t.addFault a fun f => { f with overrun := true }).raise .overrun terminalPorts
    else t
  | some _, none => t
  | none, _ => t

end State

/-! ## Steps of the main valve in RAMP (R46) -/

/-- The ramp step due: k with V - ramp base equal to k times the ramp step volume, k from 1 to the ramp steps (R46). -/
def Load.rampStepDue (l : Load) : Option Nat :=
  match l.rampBase with
  | none => none
  | some b =>
    let d := l.data.product - b
    let k := d / l.recipe.rampStepVolume
    if k * l.recipe.rampStepVolume = d ∧ 1 ≤ k ∧ k ≤ l.recipe.rampSteps then some k else none

/-! ## Ratio control (R70 to R78) -/

/-- The scaled deviation: E times B, less Et times (V - Vp) (R73). -/
def Load.scaledDeviation (l : Load) : Int :=
  (l.data.ethanol : Int) * l.data.blendSpan - (l.data.ethanolTarget : Int) * ((l.data.product : Int) - l.recipe.primeVolume)

/-- The reported deviation: the scaled one divided by B, rounded toward zero (R73). -/
def Load.reportedDeviation (l : Load) : Int := Int.tdiv l.scaledDeviation l.data.blendSpan

/-- The ethanol opening that trim work sets (R75). -/
def Load.trimmedOpening (l : Load) (opening : Nat) : Nat :=
  let threshold : Int := (l.recipe.deadband : Int) * l.data.blendSpan
  if l.scaledDeviation < -threshold then min 255 (opening + l.recipe.trimStep)
  else if threshold < l.scaledDeviation then opening - l.recipe.trimStep
  else opening

/-- The alarm run count that trim work leaves (R76). -/
def Load.alarmRunAfter (l : Load) : Nat :=
  if (l.recipe.alarmLimit : Int) * l.data.blendSpan < (l.scaledDeviation.natAbs : Int) then l.alarmRun + 1 else 0

/-- Items 1 to 3 of the trim work on the load (R78). -/
def Load.trimmed (l : Load) (opening : Nat) : Load :=
  { l with
    data := { l.data with deviation := l.reportedDeviation }
    ethanolLastUsed := some (l.trimmedOpening opening)
    alarmRun := l.alarmRunAfter }

/-- Step 1 of R42 at a trim point: a pending amendment is applied and the next trim point advances (R57, R70). -/
def Load.atTrimPoint (l : Load) : Load :=
  let m := l.applyPending
  { m with nextTrim := some (l.data.product + l.recipe.trimVolume) }

namespace State

/-- A ramp step, if one is due (R46): the last one enters FULL. -/
def rampStep (s : State) (a : Fin 8) : State :=
  match s.load? a with
  | none => s
  | some l =>
    match l.rampStepDue with
    | none => s
    | some k =>
      if k = l.recipe.rampSteps then
        (s.modArm a fun x =>
          { x with state := .full, mainOpening := l.recipe.fullOpening, noFlow := s.noFlowStart }).appendTrace a .phase
      else s.modArm a fun x => { x with mainOpening := l.recipe.rampOpening k }

/-- A taper step, if one is due: the lower of its opening and the present one (R48). -/
def taperStep (s : State) (a : Fin 8) : State :=
  match s.load? a with
  | none => s
  | some l => s.modArm a fun x => { x with mainOpening := l.taperStepped x.mainOpening }

/-- Whether a tick that leaves the load as it is makes a trim point: in a blending phase, V at the next trim point (R70). -/
def atTrim (s : State) (a : Fin 8) : Bool :=
  match s.load? a with
  | none => false
  | some l => (s.arm a).state.isBlending && decide (l.nextTrim = some l.data.product)

/-- The trim work of a trim point (R78): deviation, ethanol opening, alarm run, TRIM record, and the ratio fault when the
run has reached the alarm count (R77). -/
def trimWork (s : State) (a : Fin 8) : State :=
  match s.load? a with
  | none => s
  | some l =>
    let t := ((s.modArm a fun x => { x with ethanolOpening := l.trimmedOpening x.ethanolOpening }).modLoad a fun l =>
      l.trimmed (s.arm a).ethanolOpening).appendTrace a .trim
    if l.recipe.alarmCount ≤ l.alarmRunAfter then
      (t.addFault a fun f => { f with ratioFault := true }).cutFlush a .ratioFault
    else t

/-- Steps 2 to 6 of R42: at most one transition or step. -/
def evaluatePoints (s : State) (a : Fin 8) : State :=
  match s.load? a with
  | none => s
  | some l =>
    if l.data.preset ≤ l.data.product ∨ ((s.arm a).state = .flush ∧ s.flushEnded a = true) then s.enterClosing a
    else if (s.arm a).state.isBlending = true ∧ l.data.flushPoint ≤ l.data.product then s.enterFlush a .ordered
    else
      match (s.arm a).state with
      | .prime => if l.recipe.primeVolume ≤ l.data.product then s.leavePrime a else s
      | .ramp => if l.data.taperPoint ≤ l.data.product then s.enterTaperFromRun a else s.rampStep a
      | .full => if l.data.taperPoint ≤ l.data.product then s.enterTaperFromRun a else s
      | .taper => s.taperStep a
      | .idle => s
      | .flush => s
      | .shareWait => s
      | .held => s
      | .closing => s

/-- The steps of R42 on a tick in a flowing state. -/
def flowSteps (s : State) (a : Fin 8) : State :=
  if s.atTrim a then
    let t := (s.modLoad a Load.atTrimPoint).evaluatePoints a
    if (t.arm a).state.isBlending then t.trimWork a else t
  else s.evaluatePoints a

/-! ## Shot boundaries (R121 to R123) -/

/-- Whether a station is in service: IDLE, CHANGEOVER or SHOOTING (R118). -/
def inService (s : State) (st : Fin 4) : Bool :=
  match (s.station st).state with
  | .off => false
  | .idle => true
  | .changeover => true
  | .shooting => true
  | .fault => false

/-- The next boundary of a line advances by one spacing (R121). -/
def advanceBoundary (spacing : Nat) (l : Line) : Line := { l with nextBoundary := l.nextBoundary.map (· + spacing) }

/-- A due shot of line `i` at its station in service (R121): a new entry, one more in the entry in place, or missed.
The flag says that SHOT_MISSED is to fire. -/
def placeShot (s : State) (a : Fin 8) (i : Nat) (st : Fin 4) (number : Nat) : State × Bool :=
  let n := s.entryOwed st a
  if n = 0 then
    ((s.modLine a i (Line.modCounts LineRecord.fallDue)).appendEntry st { arm := a, load := number, line := i, owed := 1 },
      false)
  else if n < Config.owedLimit then
    ((s.modLine a i (Line.modCounts LineRecord.fallDue)).modStation st fun x =>
      { x with queue := x.queue.map fun e => if e.arm = a then { e with owed := e.owed + 1 } else e }, false)
  else (s.modLine a i (Line.modCounts LineRecord.fallMissed), true)

/-- A due shot of line `i` whose station is out of service is missed; a required line's load enters a cut flush (R122). -/
def missOutOfService (s : State) (a : Fin 8) (i : Nat) (required : Bool) : State :=
  let t := s.modLine a i (Line.modCounts LineRecord.fallMissed)
  if required then (t.addFault a fun f => { f with additiveFault := true }).cutFlush a .additiveFault else t

/-- The judgement of one line at a tick (R121, R122): nothing once the arm has left blending. -/
def judgeLine (x : State × Bool) (a : Fin 8) (i : Nat) : State × Bool :=
  match x.1.load? a with
  | none => x
  | some ld =>
    match ld.lines[i]?, ld.recipe.lines[i]? with
    | some l, some k =>
      match l.nextBoundary with
      | none => x
      | some b =>
        if (x.1.arm a).state.isBlending = true ∧ l.counts.skipped = false ∧ b ≤ ld.data.product then
          let t := x.1.modLine a i (advanceBoundary k.spacing)
          if t.inService l.counts.station then
            let r := t.placeShot a i l.counts.station ld.data.number
            (r.1, x.2 || r.2)
          else (t.missOutOfService a i k.required, x.2)
        else x
    | some _, none => x
    | none, _ => x

/-- The shot boundaries that a tick reaches, line 0 first; SHOT_MISSED is offered once, after every line (R123). -/
def judgeShots (s : State) (a : Fin 8) : State :=
  let r := [0, 1, 2].foldl (fun x i => judgeLine x a i) (s, false)
  if r.2 then r.1.fireEvent a .shotMissed else r.1

/-- The AT_VOLUME entries of the volume that the tick has brought V to, unless the arm is in CLOSING (R150). A volume
at or above P does not fire, wherever V reaches it (R5, R150, log 34). P is the one that the tick's work has left, a pending
amendment applied on entry to HELD at a HALT of the same tick included (log 34, the model's choice). -/
def judgeVolume (s : State) (a : Fin 8) : State :=
  match s.load? a with
  | none => s
  | some l =>
    if (s.arm a).state = .closing ∨ l.data.preset ≤ l.data.product then s
    else s.fireEvent a (.atVolume l.data.product)

/-! ## The tick (R41, R89) -/

/-- A tick in a flowing state (R41): it is counted, a gasoline tick restarts the no-flow timer, and the steps of R42
are taken. -/
def flowTick (s : State) (a : Fin 8) (m : Fin 16) : State :=
  let t := s.countGrossVolume a m
  (if isGasoline m then t.modArm a fun x => { x with noFlow := s.noFlowStart } else t).flowSteps a

/-- A tick counted to the active load of an arm (R41). -/
def loadTick (s : State) (a : Fin 8) (m : Fin 16) : State :=
  let t := s.countNetVolume a m
  match (s.arm a).state with
  | .closing => t.closingTick a m
  | .shareWait => (t.countGrossVolume a m).judgeVolume a
  | .held => (t.countGrossVolume a m).judgeVolume a
  | .prime => ((t.flowTick a m).judgeShots a).judgeVolume a
  | .ramp => ((t.flowTick a m).judgeShots a).judgeVolume a
  | .full => ((t.flowTick a m).judgeShots a).judgeVolume a
  | .taper => ((t.flowTick a m).judgeShots a).judgeVolume a
  | .flush => ((t.flowTick a m).judgeShots a).judgeVolume a
  | .idle => s

/-- A tick of a meter goes to the arm's load, or to the stray counter if the arm has none (R89). -/
def tick (s : State) (m : Fin 16) : State :=
  match s.load? (armOfMeter m) with
  | none => s.strayTick m
  | some _ => endEvent s (s.loadTick (armOfMeter m) m)

/-- A pulse on a meter's input (R87). -/
def pulse (s : State) (m : Fin 16) : State :=
  if (s.meter m).enable = false then s
  else if 1 < (s.meter m).divider then s.modMeter m fun x => { x with divider := x.divider - 1 }
  else (s.modMeter m fun x => { x with divider := x.kFactor }).tick m

end State

/-- METER_PULSE (R87). -/
def execMeterPulse (m : Fin 16) (s : State) : Result := .next (s.pulse m)

end Sys2Proof.Machine
end

