-- ==== Sys2Proof/Machine/Stations.lean ====
section
/-! DEFINITION. The additive stations: the outcomes of their transactions, shot reports, faults, their timers, RESTORE
STATION, and the injector bus events (R126 to R139, R194). -/

namespace Sys2Proof.Machine

/-! ## Bus frames (R194) -/

/-- A command or reply frame's check nibble: the XOR of the five nibbles before it (R194). -/
def checkNibble (n0 n1 n2 n3 n4 : BitVec 4) : BitVec 4 := n0 ^^^ n1 ^^^ n2 ^^^ n3 ^^^ n4

/-- A frame kind's number (R194). -/
def FrameKind.code : FrameKind → BitVec 2
  | .select => 0
  | .shot => 1
  | .poll => 2
  | .clear => 3

/-- The three bytes of a transaction's command frame (R194). -/
def Txn.frame (t : Txn) : List Byte :=
  let n0 : BitVec 4 := t.kind.code ++ BitVec.ofNat 2 t.station.val
  let n1 : BitVec 4 := BitVec.ofNat 4 t.arm.val
  let size : BitVec 12 := BitVec.ofNat 12 t.size
  let n2 : BitVec 4 := size.extractLsb' 8 4
  let n3 : BitVec 4 := size.extractLsb' 4 4
  let n4 : BitVec 4 := size.extractLsb' 0 4
  [n0 ++ n1, n2 ++ n3, n4 ++ checkNibble n0 n1 n2 n3 n4]

/-- A reply that passes the checks of R139, with its state, low-level flag and measured volume (R194). -/
structure Reply where
  state : ReplyState
  low : Bool
  volume : Nat
deriving DecidableEq, Repr

/-- The pump state that a reply's state nibble names; 6 and 7 name none (R194). -/
def replyStateOf (n : BitVec 3) : Option ReplyState :=
  match n.toNat with
  | 0 => some .ready
  | 1 => some .moving
  | 2 => some .pumping
  | 3 => some .done
  | 4 => some .refused
  | 5 => some .faulted
  | _ => none

/-- The reply states that the rules list for a frame kind (R126, R127, R128, R133, R136). -/
def FrameKind.lists : FrameKind → ReplyState → Bool
  | .select, .moving => true
  | .select, .ready => true
  | .select, .faulted => true
  | .select, .refused => true
  | .select, .pumping => false
  | .select, .done => false
  | .shot, .pumping => true
  | .shot, .done => true
  | .shot, .ready => true
  | .shot, .refused => true
  | .shot, .faulted => true
  | .shot, .moving => false
  | .poll, _ => true
  | .clear, _ => true

/-- The reply that three bytes are to a transaction, if it is accepted (R133, R139, R194): the check nibble holds, the
station and the kind are the command's, and the state is one listed for the frame sent. -/
def Txn.accepts (t : Txn) (b0 b1 b2 : Byte) : Option Reply :=
  let n0 : BitVec 4 := b0.extractLsb' 4 4
  let n1 : BitVec 4 := b0.extractLsb' 0 4
  let n2 : BitVec 4 := b1.extractLsb' 4 4
  let n3 : BitVec 4 := b1.extractLsb' 0 4
  let n4 : BitVec 4 := b2.extractLsb' 4 4
  let n5 : BitVec 4 := b2.extractLsb' 0 4
  if n5 = checkNibble n0 n1 n2 n3 n4 ∧ n0 = t.kind.code ++ BitVec.ofNat 2 t.station.val then
    match replyStateOf (n1.extractLsb' 1 3) with
    | none => none
    | some r =>
      if t.kind.lists r then
        some { state := r, low := n1.getLsbD 0, volume := (n2 ++ n3 ++ n4 : BitVec 12).toNat }
      else none
  else none

namespace State

/-! ## Station faults (R134) -/

/-- Item 1: the station is in FAULT, its request given up and its timers stopped; its transaction's reply will be
discarded. -/
def faultStation (s : State) (st : Fin 4) : State :=
  (s.modStation st fun x =>
    { x with state := .fault, request := false, changeover := .stopped, poll := .stopped, shotTimer := .stopped }).modTxn
    fun t => if t.station = st then { t with discarded := true } else t

/-- Item 2: the shot in flight becomes absent; unless it is DETACHED it is unconfirmed on its line. -/
def unconfirmShot (s : State) (st : Fin 4) : State :=
  match s.shotOf st with
  | none => s
  | some sh =>
    let t := s.dropShot st
    if sh.standing = .detached then t else t.modLine sh.arm sh.line (Line.modCounts LineRecord.unconfirm)

/-- Item 3 on one entry: the owed shots that remain after item 2 become missed. -/
def missEntry (inEntryArm : Option (Fin 8)) (s : State) (e : QueueEntry) : State :=
  s.modLine e.arm e.line
    (Line.modCounts fun c => c.miss (if inEntryArm = some e.arm then e.owed - 1 else e.owed))

/-- Item 3: the queue is emptied. -/
def missQueue (s : State) (st : Fin 4) (inEntryArm : Option (Fin 8)) : State :=
  (s.station st).queue.foldl (missEntry inEntryArm) (s.modStation st fun x => { x with queue := [] })

/-- Item 4 on one line of a load: a line on this station that is not SKIPPED has its kept owed become missed. -/
def missKeptAt (st : Fin 4) (l : Line) : Line :=
  if l.counts.station = st ∧ l.counts.skipped = false then
    { l with counts := l.counts.miss l.kept, kept := 0 }
  else l

/-- Whether a load has a required line on the station that is not SKIPPED (R134, item 5). -/
def requires (l : Load) (st : Fin 4) : Bool :=
  (l.lines.zip l.recipe.lines).any fun x =>
    decide (x.1.counts.station = st) && !x.1.counts.skipped && x.2.required

/-- Items 4 and 5 on one arm: the kept shots of its line are missed; a required line brings ADDITIVE_FAULT outside
CLOSING, and a cut flush in a blending phase. -/
def faultArm (st : Fin 4) (s : State) (a : Fin 8) : State :=
  match s.load? a with
  | none => s
  | some l =>
    let t := s.modLoad a fun x => { x with lines := x.lines.map (missKeptAt st) }
    if requires l st = true ∧ (s.arm a).state ≠ .closing then
      let u := t.addFault a fun f => { f with additiveFault := true }
      if (s.arm a).state.isBlending then u.cutFlush a .additiveFault else u
    else t

/-- The arm whose entry counts the station's shot in flight, if there is one (R127). -/
def inEntryArm (s : State) (st : Fin 4) : Option (Fin 8) :=
  match s.shotOf st with
  | some sh => if sh.standing = .inEntry then some sh.arm else none
  | none => none

/-- A station enters FAULT (R134): items 1 to 6, and a load in CLOSING that waited for the shot completes (R64). -/
def enterFault (s : State) (st : Fin 4) : State :=
  let t := allArms.foldl (faultArm st) (((s.faultStation st).unconfirmShot st).missQueue st (s.inEntryArm st))
  allArms.foldl completeIfSettled (t.raise .station terminalPorts)

/-! ## Shot outcomes (R129, R130) -/

/-- An outcome of an IN_ENTRY shot at the queue: the head entry's owed falls by one, and the entry leaves at 0 or moves
to the tail (R129). -/
def turnQueue (q : List QueueEntry) : List QueueEntry :=
  match q with
  | [] => []
  | e :: rest => if e.owed ≤ 1 then rest else rest ++ [{ e with owed := e.owed - 1 }]

/-- The station has its outcome: no shot in flight, timers stopped, IDLE; it gains a bus request if its queue is not
empty (R129). -/
def backToIdle (s : State) (st : Fin 4) : State :=
  let t := (s.dropShot st).modStation st fun x =>
    { x with state := .idle, poll := .stopped, shotTimer := .stopped, request := false }
  if (t.station st).queue = [] then t else t.gainRequest st

/-- The part of a shot's outcome at the queue, by its standing (R129, R130). -/
def settleQueue (s : State) (st : Fin 4) (sh : Shot) : State :=
  if sh.standing = .inEntry then s.modStation st fun x => { x with queue := turnQueue x.queue } else s

/-- The shot's report is taken (R129). -/
def shotReport (s : State) (st : Fin 4) (volume : Nat) : State :=
  match s.shotOf st with
  | none => s.backToIdle st
  | some sh =>
    let t := (s.settleQueue st sh).backToIdle st
    if sh.standing = .detached then t
    else (t.modLine sh.arm sh.line (Line.modCounts fun c => c.deliver volume)).completeIfSettled sh.arm

/-- The shot is taken as not taken (R130): missed, and SHOT_MISSED fires. -/
def shotNotTaken (s : State) (st : Fin 4) : State :=
  match s.shotOf st with
  | none => s.backToIdle st
  | some sh =>
    let t := (s.settleQueue st sh).backToIdle st
    if sh.standing = .detached then t
    else
      ((t.modLine sh.arm sh.line (Line.modCounts fun c => c.miss 1)).fireEvent sh.arm .shotMissed).completeIfSettled
        sh.arm

/-! ## Transaction outcomes (R126, R127, R128, R133, R136) -/

/-- A transaction with no reply advances the failures; the third puts the station in FAULT (R133); below that the
station goes on as `next` gives. -/
def noReply (s : State) (st : Fin 4) (next : Station → Station) : State :=
  let t := s.modStation st fun x => { x with failures := x.failures + 1 }
  if Config.failureLimit ≤ (t.station st).failures then t.enterFault st else t.modStation st next

/-- An IDLE station asks again after a SELECT with no reply, while its queue is not empty (R126). -/
def askAgain (x : Station) : Station := { x with request := !x.queue.isEmpty }

/-- The poll timer is started (R127, R128). -/
def startPoll (x : Station) : Station := { x with poll := .running Config.pollMs }

/-- An accepted reply returns the failures to 0 (R133) and carries the low-level flag, whose setting raises STATION
(R137). An accepted SELECT does so too (R126, R133), against the words of R133 that failures separated by accepted changeovers
still count as consecutive (log 37, the model's reading). -/
def acceptReply (s : State) (st : Fin 4) (low : Bool) : State :=
  let t := s.modStation st fun x => { x with failures := 0, lowLevel := low }
  if low && !(s.station st).lowLevel then t.raise .station terminalPorts else t

/-- A SELECT is accepted: the manifold is the named arm's and the changeover begins (R126). -/
def changeOver (s : State) (st : Fin 4) (arm : Fin 8) : State :=
  s.modStation st fun x =>
    { x with manifold := some arm, state := .changeover, changeover := .running x.changeoverMs, request := false }

/-- The outcome of a SELECT (R126). -/
def selectOutcome (s : State) (st : Fin 4) (arm : Fin 8) : Option Reply → State
  | none => s.noReply st askAgain
  | some r =>
    match r.state with
    | .moving => (s.acceptReply st r.low).changeOver st arm
    | .ready => (s.acceptReply st r.low).changeOver st arm
    | .faulted => (s.acceptReply st r.low).enterFault st
    | .refused => (s.acceptReply st r.low).enterFault st
    | .pumping => s
    | .done => s

/-- The outcome of a SHOT (R127). -/
def shotOutcome (s : State) (st : Fin 4) : Option Reply → State
  | none => s.noReply st startPoll
  | some r =>
    match r.state with
    | .pumping => (s.acceptReply st r.low).modStation st startPoll
    | .done => (s.acceptReply st r.low).shotReport st r.volume
    | .ready => (s.acceptReply st r.low).shotNotTaken st
    | .refused => (s.acceptReply st r.low).shotNotTaken st
    | .faulted => (s.acceptReply st r.low).enterFault st
    | .moving => s

/-- The outcome of a POLL (R128). -/
def pollOutcome (s : State) (st : Fin 4) : Option Reply → State
  | none => s.noReply st startPoll
  | some r =>
    match r.state with
    | .pumping => (s.acceptReply st r.low).modStation st startPoll
    | .moving => (s.acceptReply st r.low).modStation st startPoll
    | .done => (s.acceptReply st r.low).shotReport st r.volume
    | .ready => (s.acceptReply st r.low).shotNotTaken st
    | .refused => (s.acceptReply st r.low).shotNotTaken st
    | .faulted => (s.acceptReply st r.low).enterFault st

/-- The pending RESTORE STATION is answered with OK, the station's state and the reply state or none; restore pending
becomes no (R136). -/
def answerRestore (s : State) (st : Fin 4) (reply : Option ReplyState) : State :=
  match (s.station st).restore with
  | none => s
  | some p =>
    (s.modStation st fun x => { x with restore := none }).respond p
      (.okWith (.restored (s.station st).state reply))

/-- The outcome of a CLEAR (R136). -/
def clearOutcome (s : State) (st : Fin 4) : Option Reply → State
  | none => s.answerRestore st none
  | some r =>
    let t := s.acceptReply st r.low
    match r.state with
    | .ready => (t.modStation st fun x => { x with state := .idle, manifold := none }).answerRestore st (some .ready)
    | .moving => t.answerRestore st (some .moving)
    | .pumping => t.answerRestore st (some .pumping)
    | .done => t.answerRestore st (some .done)
    | .refused => t.answerRestore st (some .refused)
    | .faulted => t.answerRestore st (some .faulted)

/-- The outcome of a transaction is handed to its station; a discarded one touches nothing, but a RESTORE that waited
for a discarded CLEAR is answered (R117, R128, R134, R136, R139). A discarded SELECT, SHOT or POLL that ends with no
reply leaves the reply failures alone (log 33, the model's choice). -/
def outcome (s : State) (t : Txn) (reply : Option Reply) : State :=
  if t.discarded then
    match t.kind with
    | .clear => s.answerRestore t.station none
    | .select => s
    | .shot => s
    | .poll => s
  else
    match t.kind with
    | .select => s.selectOutcome t.station t.arm reply
    | .shot => s.shotOutcome t.station reply
    | .poll => s.pollOutcome t.station reply
    | .clear => s.clearOutcome t.station reply

/-- A transaction ends (R139): its outcome is handed over with all that follows from it, then the bus is free and the
arbiter makes its next grant (log 16). -/
def endTxn (s : State) (t : Txn) (reply : Option Reply) : State :=
  let u := endEvent s (s.outcome t reply)
  ({ u with bus := { u.bus with txn := none } } : State).arbitrate

/-! ## RESTORE STATION (R136) -/

/-- The checks of RESTORE STATION after the port's class, and its effect: restore pending, and a bus request for the
CLEAR. It has no response yet when it is accepted. -/
def restoreRequested (s : State) (p : Port) (station : Byte) : State × Option Response :=
  if h : station.toNat < 4 then
    let x := s.station ⟨station.toNat, h⟩
    if x.state = .off then (s, some (.refuse .noSuch))
    else if x.state ≠ .fault ∨ x.restore.isSome = true then (s, some (.refuse .inUse))
    else
      ((s.modStation ⟨station.toNat, h⟩ fun y => { y with restore := some p }).gainRequest ⟨station.toNat, h⟩, none)
  else (s, some (.badField 1))

/-! ## Bus and timer events -/

/-- A reply frame has arrived whole (R139): outside a reply window, or when it is not accepted, it is disregarded. -/
def busReplied (s : State) (b0 b1 b2 : Byte) : State :=
  match s.bus.txn with
  | none => s
  | some t =>
    match t.phase with
    | .sending => s
    | .window =>
      match t.accepts b0 b1 b2 with
      | none => s
      | some r => s.endTxn t (some r)

/-- The reply window closes without an accepted reply (R139). -/
def windowClosed (s : State) : State :=
  match s.bus.txn with
  | none => s
  | some t =>
    match t.phase with
    | .sending => s
    | .window => s.endTxn t none

/-- The last byte of the command frame leaves the bus (R139): the reply window opens; the shot of a SHOT frame becomes
a shot in flight, the station enters SHOOTING and its shot timeout is started (R127). -/
def frameSent (s : State) : State :=
  match s.bus.txn with
  | none => s
  | some t =>
    match t.phase with
    | .window => s
    | .sending =>
      let u := s.modTxn fun x => { x with phase := .window, shot := none }
      match t.shot with
      | none => u
      | some sh =>
        u.modStation t.station fun x =>
          { x with state := .shooting, shot := some sh, shotTimer := .running x.shotTimeoutMs, request := false }

/-- The changeover timer runs out (R126). -/
def changeoverOver (s : State) (st : Fin 4) : State :=
  if (s.station st).state = .changeover ∧ (s.station st).changeover.isRunning = true then
    let t := s.modStation st fun x => { x with state := .idle, changeover := .expired }
    if (s.station st).queue = [] then t else t.gainRequest st
  else s

/-- The poll timer runs out in SHOOTING (R128). -/
def pollDue (s : State) (st : Fin 4) : State :=
  if (s.station st).state = .shooting ∧ (s.station st).poll.isRunning = true then
    (s.modStation st fun x => { x with poll := .expired }).gainRequest st
  else s

/-- The shot timeout runs out in SHOOTING: the station enters FAULT (R128, R134). -/
def shotTimedOut (s : State) (st : Fin 4) : State :=
  if (s.station st).state = .shooting ∧ (s.station st).shotTimer.isRunning = true then endEvent s (s.enterFault st)
  else s

end State

/-! ## The commands -/

/-- BUS_REPLY (R139). -/
def execBusReply (b0 b1 b2 : Byte) (s : State) : Result := .next (s.busReplied b0 b1 b2)

/-- REPLY_WINDOW_CLOSE (R139). -/
def execReplyWindowClose (s : State) : Result := .next s.windowClosed

/-- COMMAND_FRAME_SENT (R139). -/
def execCommandFrameSent (s : State) : Result := .next s.frameSent

/-- CHANGEOVER_TIMEOUT (R126). -/
def execChangeoverTimeout (st : Fin 4) (s : State) : Result := .next (s.changeoverOver st)

/-- POLL_TIMER_EXPIRY (R128). -/
def execPollTimerExpiry (st : Fin 4) (s : State) : Result := .next (s.pollDue st)

/-- SHOT_TIMEOUT (R128). -/
def execShotTimeout (st : Fin 4) (s : State) : Result := .next (s.shotTimedOut st)

/-- RESTORE_STATION (R136): the request is answered when its CLEAR transaction ends. -/
def execRestoreStation (p : Port) (tag : Byte) (station : Byte) (s : State) : Result :=
  .next (s.takeRequest p .restoreStation tag fun t => t.restoreRequested p station)

end Sys2Proof.Machine
end

