-- ==== Sys2Proof/Machine/PortEvents.lean ====
section
/-! DEFINITION. Power-on, the second tick, and the events of a port that carry no request: discards, gaps, collisions,
the end of a response, breaks and bad requests (R153, R158, R181, R182, R184, R188). -/

namespace Sys2Proof.Machine

namespace State

/-- Power-on (R188): every item at its power-on value, the trip states from their inputs (R153). The commands still
waiting and the model's own counter are not the controller's and stay (log 1). -/
def poweredOn (s : State) (trips : Trips) : State :=
  { State.powerOn trips with pending := s.pending, freeCount := s.freeCount }

/-- Every authorization of a lane queue has run one second more (R26, log 29). -/
def ageQueue (s : State) (l : Fin 4) : State :=
  s.setQueue l ((s.queue l).map fun x => { x with elapsed := x.elapsed + 1 })

/-- A second passes (R158): the device seconds counter advances and saturates; the queued authorizations age. -/
def secondPassed (s : State) : State :=
  allLanes.foldl ageQueue { s with seconds := min (s.seconds + 1) Config.maxSeconds }

/-- The partial frame of a port is discarded: the port is HUNTING, nothing is answered and no notice raised (R181). -/
def discardFrame (s : State) (p : Port) : State := s.modPort p fun x => { x with receive := .hunting }

/-- A complete frame reaches the port while it is BUSY (R182); a port that is FREE has no collision (log 2). -/
def frameCollided (s : State) (p : Port) : State := if (s.port p).answer.isBusy then s.collide p else s

/-- The last byte of the port's response has been sent: it is FREE (R182). With no response formed there is nothing
that could have been sent (log 26). -/
def responseDone (s : State) (p : Port) : State :=
  match (s.port p).answer with
  | .busy _ _ (some _) => s.modPort p fun x => { x with answer := .free }
  | .busy _ _ none => s
  | .free => s

/-- A break on a port (R184): HUNTING, no link, the read window reset; flags, mask and answer state stay. -/
def breakTaken (s : State) (p : Port) : State :=
  s.modPort p fun x => { x with receive := .hunting, link := none, window := TraceWindow.reset }

/-- A complete frame that fails check 1 or 2 of R182. A body that is a request is none, and the command then stands for
nothing that can happen (log 8). -/
def badRequestTaken (s : State) (p : Port) (code tag : Byte) (params : List Byte) : State :=
  match decodeRequest p code tag params with
  | some _ => s
  | none => s.takeBadRequest p code tag

end State

/-- POWER_ON (R188): the operands are the six inputs as they stand. -/
def execPowerOn (esd header lane0 lane1 lane2 lane3 : Bool) (s : State) : Result :=
  .next (s.poweredOn { esd := esd, header := header, lanes := #v[lane0, lane1, lane2, lane3] })

/-- SECONDS_TICK (R158). -/
def execSecondsTick (s : State) : Result := .next s.secondPassed

/-- FRAME_DISCARD (R181). -/
def execFrameDiscard (p : Port) (s : State) : Result := .next (s.discardFrame p)

/-- FRAME_GAP_TIMEOUT (R181): more than 10 ms have passed since the last byte of a partial frame. -/
def execFrameGapTimeout (p : Port) (s : State) : Result := .next (s.discardFrame p)

/-- COLLISION (R182). -/
def execCollision (p : Port) (s : State) : Result := .next (s.frameCollided p)

/-- RESPONSE_SENT (R182). -/
def execResponseSent (p : Port) (s : State) : Result := .next (s.responseDone p)

/-- PORT_BREAK (R184). -/
def execPortBreak (p : Port) (s : State) : Result := .next (s.breakTaken p)

/-- BAD_REQUEST (R182). -/
def execBadRequest (p : Port) (code tag : Byte) (params : List Byte) (s : State) : Result :=
  .next (s.badRequestTaken p code tag params)

end Sys2Proof.Machine
end

