-- ==== Sys2Proof/Machine/Notices.lean ====
section
/-! DEFINITION. READ STATUS and the four requests on a port's own notice flags and mask (R187, R190). -/

namespace Sys2Proof.Machine

namespace State

/-- What READ STATUS shows of an arm (R190). -/
def armView (s : State) (a : Fin 8) : ArmView :=
  { enable := (s.arm a).enable, state := (s.arm a).state, load := (s.load? a).map fun l => l.data.number }

/-- What READ STATUS shows of a station (R190). -/
def stationView (x : Station) : StationView :=
  { state := x.state, queueLength := x.queue.length, lowLevel := x.lowLevel }

/-- The view of the whole controller (R190). -/
def statusView (s : State) : StatusView :=
  { mode := s.mode
    trips := s.trips
    arms := allArms.map s.armView
    capacity := s.header.capacity
    inUse := s.header.inUse
    wait := s.header.wait.map fun w => (w.arm, w.shares)
    stations := s.stations.toList.map stationView
    probes := s.probes.toList.map Probe.condition
    stray := s.meters.toList.map Meter.stray
    deliveredCount := s.delivered.length
    reservations := s.reservations
    seconds := s.seconds }

/-- READ STATUS changes nothing (R190). -/
def statusRead (s : State) : State × Option Response := answer s (.okWith (.status s.statusView))

/-- READ NOTICES returns the flags and the mask (R187). -/
def noticesRead (p : Port) (s : State) : State × Option Response :=
  answer s (.okWith (.notices (s.port p).flags (s.port p).mask))

/-- A set that names a flag the port's class does not hold is refused with BAD_FIELD 1 (R187, log 10). -/
def namesForeignFlag (p : Port) (w : Word16) : Bool := (w &&& ~~~(classFlags p)) != 0#16

/-- CLEAR NOTICES: each named flag becomes clear (R187). -/
def noticesCleared (p : Port) (w : Word16) (s : State) : State × Option Response :=
  if namesForeignFlag p w then answer s (.badField 1)
  else
    let t := s.modPort p fun x => x.withFlags (x.flags &&& ~~~w)
    answer t (.okWith (.noticeSet (t.port p).flags))

/-- SET NOTICES: each named flag becomes set (R187). -/
def noticesSet (p : Port) (w : Word16) (s : State) : State × Option Response :=
  if namesForeignFlag p w then answer s (.badField 1)
  else
    let t := s.modPort p fun x => x.withFlags (x.flags ||| w)
    answer t (.okWith (.noticeSet (t.port p).flags))

/-- SET NOTICE MASK: the mask becomes the set given (R187). -/
def maskSet (p : Port) (w : Word16) (s : State) : State × Option Response :=
  if namesForeignFlag p w then answer s (.badField 1)
  else
    let t := s.modPort p fun x => x.withMask w
    answer t (.okWith (.noticeSet (t.port p).mask))

end State

/-- READ_STATUS (R190). -/
def execReadStatus (p : Port) (tag : Byte) (s : State) : Result :=
  .next (s.takeRequest p .readStatus tag State.statusRead)

/-- READ_NOTICES (R187). -/
def execReadNotices (p : Port) (tag : Byte) (s : State) : Result :=
  .next (s.takeRequest p .readNotices tag (State.noticesRead p))

/-- CLEAR_NOTICES (R187). -/
def execClearNotices (p : Port) (tag : Byte) (flags : Word16) (s : State) : Result :=
  .next (s.takeRequest p .clearNotices tag (State.noticesCleared p flags))

/-- SET_NOTICES (R187). -/
def execSetNotices (p : Port) (tag : Byte) (flags : Word16) (s : State) : Result :=
  .next (s.takeRequest p .setNotices tag (State.noticesSet p flags))

/-- SET_NOTICE_MASK (R187). -/
def execSetNoticeMask (p : Port) (tag : Byte) (mask : Word16) (s : State) : Result :=
  .next (s.takeRequest p .setNoticeMask tag (State.maskSet p mask))

end Sys2Proof.Machine
end

