-- ==== Sys2Proof/Machine/Configuration.lean ====
section
/-! DEFINITION. CONFIGURE with its eight groups, and the two requests that change the device mode (R38, R88, R93, R95,
R97, R98, R109, R110, R117, R146, R188, R189, R193). -/

namespace Sys2Proof.Machine

/-- A meter after a change of the stray threshold: one lowered to or below its stray counter leaves the counter silent until
it is cleared (R90). -/
def Meter.withThreshold (before now : Nat) (x : Meter) : Meter :=
  { x with silent := x.silent || decide (now < before ∧ now ≤ x.stray) }

namespace State

/-- A CONFIGURE is accepted: OK, the group and the index (R189). -/
def configuredTo (t : State) (group index : Byte) : State × Option Response :=
  answer t (.okWith (.configured group.toNat index.toNat))

/-! ## Group 2, METER (R88, R93) -/

/-- A meter takes its enable and K-factor; a change of either reloads the divider (R88, R93). -/
def meterConfigured (x : Meter) (enable : Bool) (k : Nat) : Meter :=
  if x.enable = enable ∧ x.kFactor = k then x else { x with enable := enable, kFactor := k, divider := k }

/-! ## Group 3, PROBE (R95, R97) -/

/-- Whether a channel is enabled. -/
def probeEnabled (s : State) (c : Fin 16) : Bool := (s.probe c).enable

/-- Every channel, ascending. -/
def allChannels : List (Fin 16) := [0, 1, 2, 3, 4, 5, 6, 7, 8, 9, 10, 11, 12, 13, 14, 15]

/-- The conversion that begins at the lowest enabled channel; none if no channel is enabled (R95). -/
def lowestConversion (s : State) : Option Conversion :=
  (allChannels.find? s.probeEnabled).map fun c => { channel := c, discard := false }

/-- A channel is enabled (R95, R97): it is OFF with reading 0, and an idle scan begins. -/
def enableProbe (s : State) (c : Fin 16) : State :=
  if s.probeEnabled c then s
  else
    let t := s.modProbe c fun x => { x with enable := true, reading := 0, condition := .off }
    match t.scan with
    | none => { t with scan := t.lowestConversion }
    | some _ => t

/-- A channel is disabled (R97): it is OFF with reading 0, and its conversion in progress will be discarded. -/
def disableProbe (s : State) (c : Fin 16) : State :=
  if s.probeEnabled c then
    let t := s.modProbe c fun x => { x with enable := false, reading := 0, condition := .off }
    { t with scan := t.scan.map fun v => if v.channel = c then { v with discard := true } else v }
  else s

/-! ## Group 5, STATION (R117) -/

/-- A station that is OFF is enabled: IDLE, manifold none, failures 0, low-level clear (R117). -/
def enableStation (s : State) (st : Fin 4) : State :=
  s.modStation st fun x =>
    if x.state = .off then { x with state := .idle, manifold := none, failures := 0, lowLevel := false } else x

/-- Whether a CLEAR transaction of the station is on the bus. -/
def clearOnBus (s : State) (st : Fin 4) : Bool :=
  match s.bus.txn with
  | none => false
  | some t => decide (t.station = st) && decide (t.kind = .clear)

/-- A station is disabled (R117): OFF, its request, queue and shot discarded, its timers stopped, its transaction's
reply to be discarded. A pending restore whose CLEAR is not on the bus is answered at once (log 19). -/
def disableStation (s : State) (st : Fin 4) : State :=
  if (s.station st).state = .off then s
  else
    let t := ((s.dropShot st).modStation st fun x =>
      { x with state := .off, request := false, queue := [], changeover := .stopped, poll := .stopped,
               shotTimer := .stopped }).modTxn fun t => if t.station = st then { t with discarded := true } else t
    if s.clearOnBus st then t else t.answerRestore st none

/-! ## The groups (R189, R193) -/

/-- Group 0: an arm's enable (R38). -/
def configureArm (s : State) (group index : Byte) (values : List Byte) : State × Option Response :=
  if h : index.toNat < 8 then
    match yesNo (fieldAt values 0 1) with
    | none => answer s (.badField 3)
    | some e => (s.modArm ⟨index.toNat, h⟩ fun x => { x with enable := e }).configuredTo group index
  else answer s (.badField 2)

/-- Group 1: a lane's enable (R189). -/
def configureLane (s : State) (group index : Byte) (values : List Byte) : State × Option Response :=
  if h : index.toNat < 4 then
    match yesNo (fieldAt values 0 1) with
    | none => answer s (.badField 3)
    | some e =>
      ({ s with settings := { s.settings with laneEnable := s.settings.laneEnable.set index.toNat e } }
        : State).configuredTo group index
  else answer s (.badField 2)

/-- Group 2: a meter's enable and K-factor (R93). -/
def configureMeter (s : State) (group index : Byte) (values : List Byte) : State × Option Response :=
  if h : index.toNat < 16 then
    match yesNo (fieldAt values 0 1) with
    | none => answer s (.badField 3)
    | some e =>
      if inRange 1 250 (fieldAt values 1 1) then
        (s.modMeter ⟨index.toNat, h⟩ fun x => meterConfigured x e (fieldAt values 1 1)).configuredTo group index
      else answer s (.badField 4)
  else answer s (.badField 2)

/-- Group 3: a probe channel's enable (R95, R97). -/
def configureProbe (s : State) (group index : Byte) (values : List Byte) : State × Option Response :=
  if h : index.toNat < 16 then
    match yesNo (fieldAt values 0 1) with
    | none => answer s (.badField 3)
    | some true => (s.enableProbe ⟨index.toNat, h⟩).configuredTo group index
    | some false => (s.disableProbe ⟨index.toNat, h⟩).configuredTo group index
  else answer s (.badField 2)

/-- The factors of a table, band 0 first (R98). -/
def factorsOf (values : List Byte) : Vector Nat 17 :=
  ⟨((List.range 17).map fun i => fieldAt values (2 * i) 2).toArray, by simp⟩

/-- The first band whose factor lies outside 9000-11000; band i is parameter 3 + i (R93, R189). -/
def badBand (values : List Byte) : Option Nat :=
  (List.range 17).find? fun i => !(inRange 9000 11000 (fieldAt values (2 * i) 2))

/-- Group 4: a correction table (R98). -/
def configureTable (s : State) (group index : Byte) (values : List Byte) : State × Option Response :=
  match index.toNat with
  | 0 =>
    match badBand values with
    | some i => answer s (.badField (3 + i))
    | none =>
      ({ s with settings := { s.settings with gasolineTable := factorsOf values } } : State).configuredTo group index
  | 1 =>
    match badBand values with
    | some i => answer s (.badField (3 + i))
    | none =>
      ({ s with settings := { s.settings with ethanolTable := factorsOf values } } : State).configuredTo group index
  | _ => answer s (.badField 2)

/-- Group 5: a station's enable, reach set, changeover interval and shot timeout (R117). -/
def configureStation (s : State) (group index : Byte) (values : List Byte) : State × Option Response :=
  if h : index.toNat < 4 then
    match yesNo (fieldAt values 0 1) with
    | none => answer s (.badField 3)
    | some e =>
      if inRange 50 5000 (fieldAt values 2 2) = false then answer s (.badField 5)
      else if inRange 200 5000 (fieldAt values 4 2) = false then answer s (.badField 6)
      else
        let t := if e then s.enableStation ⟨index.toNat, h⟩ else s.disableStation ⟨index.toNat, h⟩
        (t.modStation ⟨index.toNat, h⟩ fun x =>
          { x with reach := BitVec.ofNat 8 (fieldAt values 1 1), changeoverMs := fieldAt values 2 2,
                   shotTimeoutMs := fieldAt values 4 2 }).configuredTo group index
  else answer s (.badField 2)

/-- Group 6: the device-wide intervals and limits (R38, R93, R109, R146). -/
def configureTimers (s : State) (group index : Byte) (values : List Byte) : State × Option Response :=
  if index.toNat ≠ 0 then answer s (.badField 2)
  else if inRange 1 60 (fieldAt values 0 1) = false then answer s (.badField 3)
  else if inRange 5 100 (fieldAt values 1 1) = false then answer s (.badField 4)
  else if inRange 1 120 (fieldAt values 2 1) = false then answer s (.badField 5)
  else if inRange 0 600 (fieldAt values 3 2) = false then answer s (.badField 6)
  else if inRange 10 500 (fieldAt values 5 2) = false then answer s (.badField 7)
  else if inRange 1 1000 (fieldAt values 7 2) = false then answer s (.badField 8)
  else
    ({ s with
        settings :=
          { s.settings with
            noFlowSeconds := fieldAt values 0 1
            settleTenths := fieldAt values 1 1
            holdMinutes := fieldAt values 2 1
            shareWaitSeconds := fieldAt values 3 2
            overrunLimit := fieldAt values 5 2
            strayThreshold := fieldAt values 7 2 }
        meters := s.meters.map (Meter.withThreshold s.settings.strayThreshold (fieldAt values 7 2)) } : State).configuredTo
      group index

/-- Group 7: the header capacity; in CONFIGURE mode no arm waits, so a raise grants nothing (R110). -/
def configureHeader (s : State) (group index : Byte) (values : List Byte) : State × Option Response :=
  if index.toNat ≠ 0 then answer s (.badField 2)
  else if inRange 0 16 (fieldAt values 0 1) = false then answer s (.badField 3)
  else (s.modHeader fun h => { h with capacity := fieldAt values 0 1 }).configuredTo group index

/-- CONFIGURE past the Port Unit: the mode, then the group, the index and the values in ascending number (R189, log 9). -/
def configured (group index : Byte) (values : List Byte) (s : State) : State × Option Response :=
  if s.mode ≠ .configure then answer s (.refuse .wrongMode)
  else
    match group.toNat with
    | 0 => s.configureArm group index values
    | 1 => s.configureLane group index values
    | 2 => s.configureMeter group index values
    | 3 => s.configureProbe group index values
    | 4 => s.configureTable group index values
    | 5 => s.configureStation group index values
    | 6 => s.configureTimers group index values
    | 7 => s.configureHeader group index values
    | _ => answer s (.badField 1)

/-! ## Device mode (R188) -/

/-- What an enabled arm lacks for BEGIN OPERATION: 0 its gasoline meter, 1 its ethanol meter, 2 its lane (R188). -/
def armLacks (s : State) (a : Fin 8) : Option Nat :=
  if (s.arm a).enable = false then none
  else if (s.meter (gasolineOf a)).enable = false then some 0
  else if (s.meter (ethanolOf a)).enable = false then some 1
  else if s.settings.laneEnable[(laneOf a).val] = false then some 2
  else none

/-- BEGIN OPERATION (R188). -/
def operationBegun (s : State) : State × Option Response :=
  if s.mode ≠ .configure then answer s (.refuse .wrongMode)
  else
    match allArms.find? fun a => (s.armLacks a).isSome with
    | some a => answer s (.badField a.val (s.armLacks a))
    | none => answer { s with mode := .operate } (.okWith .none)

/-- RETURN TO CONFIGURE (R188). -/
def returnedToConfigure (s : State) : State × Option Response :=
  if s.mode ≠ .operate then answer s (.refuse .wrongMode)
  else if allArms.any fun a => decide ((s.arm a).state ≠ .idle) then answer s (.refuse .inUse)
  else answer { s with mode := .configure } (.okWith .none)

end State

/-- CONFIGURE (R189). Values whose number is not that of the group are a wrong body length (R182, log 28). -/
def execConfigure (p : Port) (tag : Byte) (group index : Byte) (values : List Byte) (s : State) : Result :=
  if configureLengthOk group values then
    .next (s.takeRequest p .configure tag (State.configured group index values))
  else .next (s.takeBadRequest p ReqCode.configure.toByte tag)

/-- BEGIN_OPERATION (R188). -/
def execBeginOperation (p : Port) (tag : Byte) (s : State) : Result :=
  .next (s.takeRequest p .beginOperation tag State.operationBegun)

/-- RETURN_TO_CONFIGURE (R188). -/
def execReturnToConfigure (p : Port) (tag : Byte) (s : State) : Result :=
  .next (s.takeRequest p .returnToConfigure tag State.returnedToConfigure)

end Sys2Proof.Machine
end

