-- ==== Sys2Proof/Machine/Recipes.lean ====
section
/-! DEFINITION. READ RECIPE, COMMIT RECIPE and WITHDRAW RECIPE (R9 to R14, R192). -/

namespace Sys2Proof.Machine

namespace State

/-- READ RECIPE (R11): the slot as it stands; with the link option the port's link becomes a recipe link at the revision
returned. -/
def recipeRead (p : Port) (slot link : Byte) (s : State) : State × Option Response :=
  if h : slot.toNat < 32 then
    match yesNo link.toNat with
    | none => answer s (.badField 1)
    | some l =>
      let held := s.slot ⟨slot.toNat, h⟩
      answer (if l then s.setLink p (some (.recipe slot.toNat held.revision)) else s)
        (.okWith (.recipe slot.toNat held))
  else answer s (.badField 0)

/-- COMMIT RECIPE past the Port Unit (R9): the link test, then the content in the order of R7; the slot takes the content
and its revision advances (R2). -/
def recipeCommitted (p : Port) (slot : Byte) (content : List Byte) (s : State) : State × Option Response :=
  match recipeLinked s p slot with
  | none => answer s (.refuse .linkLost)
  | some k =>
    match (parseContent content).offends with
    | some c => answer s (.badField c.field c.index)
    | none =>
      let r := nextRevision (s.slot k).revision
      answer (s.setSlot k { revision := r, content := some (parseContent content).keep })
        (.okWith (.slotRevision k.val r))

/-- WITHDRAW RECIPE past the Port Unit (R10): the link test, then the slot must be READY; it is emptied and its revision
advances. -/
def recipeWithdrawn (p : Port) (slot : Byte) (s : State) : State × Option Response :=
  match recipeLinked s p slot with
  | none => answer s (.refuse .linkLost)
  | some k =>
    match (s.slot k).content with
    | none => answer s (.refuse .noSuch)
    | some _ =>
      let r := nextRevision (s.slot k).revision
      answer (s.setSlot k { revision := r, content := none }) (.okWith (.slotRevision k.val r))

end State

/-- READ_RECIPE (R11). -/
def execReadRecipe (p : Port) (tag : Byte) (slot link : Byte) (s : State) : Result :=
  .next (s.takeRequest p .readRecipe tag (State.recipeRead p slot link))

/-- COMMIT_RECIPE (R9). A content that has not 58 bytes is a wrong body length (R182, log 28). -/
def execCommitRecipe (p : Port) (tag : Byte) (slot : Byte) (content : List Byte) (s : State) : Result :=
  if content.length = contentBytes then
    .next (s.takeRequest p .commitRecipe tag (State.recipeCommitted p slot content))
  else .next (s.takeBadRequest p ReqCode.commitRecipe.toByte tag)

/-- WITHDRAW_RECIPE (R10). -/
def execWithdrawRecipe (p : Port) (tag : Byte) (slot : Byte) (s : State) : Result :=
  .next (s.takeRequest p .withdrawRecipe tag (State.recipeWithdrawn p slot))

end Sys2Proof.Machine
end

