-- ==== Sys2Proof/Machine/Authorizations.lean ====
section
/-! DEFINITION. The lane queues: ISSUE, REVOKE and LIST AUTHORIZATIONS, and expiry (R20 to R26). -/

namespace Sys2Proof.Machine

/-! ## Numbers drawn from a wrapping counter (R22, R163) -/

/-- The counter after `n`: from `top` to 1. -/
def counterAfter (top n : Nat) : Nat := if top ≤ n then 1 else n + 1

/-- The first number from the counter on that is not taken; the first argument bounds the search. -/
def firstFree (taken : Nat → Bool) (top : Nat) : Nat → Nat → Nat
  | 0, n => n
  | fuel + 1, n => if taken n then firstFree taken top fuel (counterAfter top n) else n

/-- Whether an arm set names an arm: bit a is arm a (log 22). -/
def armSetHas (set : Byte) (a : Fin 8) : Bool := set.getLsbD a.val

/-- The arm set of a lane's two arms (log 22). -/
def laneArmSet (l : Fin 4) : Byte := 3#8 <<< (2 * l.val)

/-- Whether an arm set is a non-empty subset of the lane's two arms (R20). -/
def armSetOk (set : Byte) (l : Fin 4) : Bool := set != 0#8 && (set &&& ~~~(laneArmSet l)) == 0#8

namespace State

/-- Whether a queued authorization carries the id (R22). -/
def idQueued (s : State) (id : Nat) : Bool := allLanes.any fun l => (s.queue l).any fun x => x.id == id

/-- The id that the next authorization receives: at most 24 are queued (R22). -/
def drawId (s : State) : Nat := firstFree s.idQueued 65535 24 s.authCounter

/-- The expiry of an authorization as an interval, in ms (R24). -/
def expiryMs (minutes : Nat) : Nat := minutes * 60000

/-- ISSUE AUTHORIZATION past its checks (R22, R23). -/
def issue (s : State) (p : Port) (lane : Fin 4) (armSet slot : Byte) (required : Word16) (limit : Word24)
    (customer : BitVec 64) (expiry : Byte) : State × Option Response :=
  let x : Authorization :=
    { id := s.drawId, lane := lane, armSet := armSet, slot := slot.toNat, requiredRevision := required.toNat,
      presetLimit := limit.toNat, customer := customer, expiry := expiry.toNat, issuer := p,
      timer := .running (expiryMs expiry.toNat), elapsed := 0 }
  answer ({ s with authCounter := counterAfter 65535 s.drawId } |>.setQueue lane (s.queue lane ++ [x]))
    (.okWith (.issued s.drawId ((s.queue lane).length + 1)))

/-- ISSUE AUTHORIZATION past the Port Unit (R23): parameters 1 to 7 in ascending number, then the place in the queue. -/
def authorizationIssued (p : Port) (lane armSet slot : Byte) (required : Word16) (limit : Word24) (customer : BitVec 64)
    (expiry : Byte) (s : State) : State × Option Response :=
  if h : lane.toNat < 4 then
    if armSetOk armSet ⟨lane.toNat, h⟩ = false then answer s (.badField 2)
    else if 31 < slot.toNat then answer s (.badField 3)
    else if inRange Config.minPreset Config.maxPresetLimit limit.toNat = false then answer s (.badField 5)
    else if inRange 1 240 expiry.toNat = false then answer s (.badField 7)
    else if Config.laneQueueLimit ≤ (s.queue ⟨lane.toNat, h⟩).length then answer s (.refuse .queueFull)
    else s.issue p ⟨lane.toNat, h⟩ armSet slot required limit customer expiry
  else answer s (.badField 1)

/-- The lane in whose queue the id stands, if it is queued. -/
def laneOfId (s : State) (id : Nat) : Option (Fin 4) :=
  allLanes.find? fun l => (s.queue l).any fun x => x.id == id

/-- The authorization with this id leaves the lane's queue, its timer with it; those behind close up (R21). -/
def removeId (s : State) (l : Fin 4) (id : Nat) : State := s.setQueue l ((s.queue l).filter fun x => x.id != id)

/-- REVOKE AUTHORIZATION past the Port Unit (R25). -/
def authorizationRevoked (id : Word16) (s : State) : State × Option Response :=
  match s.laneOfId id.toNat with
  | none => answer s (.refuse .noSuch)
  | some l => answer (s.removeId l id.toNat) (.okWith (.revoked id.toNat l))

/-- The time remaining of an authorization at reading `n`, in whole seconds rounded up (R26): what its second ticks
leave, and one more where the free value says that the last second has not passed in full (log 5). -/
def timeRemaining (x : Authorization) (n : Nat) : Nat :=
  max 1 (60 * x.expiry - x.elapsed + (if 0 < x.elapsed ∧ Config.subSecond n = true then 1 else 0))

/-- The entries of a queue, head first; entry `i` reads the free value at `n + i`. -/
def queueViews (n : Nat) : List Authorization → List AuthorizationView
  | [] => []
  | x :: rest => { authorization := x, remaining := timeRemaining x n } :: queueViews (n + 1) rest

/-- Whether a port may list a lane: a lane port its own, a terminal port each (R26). -/
def mayList (p : Port) (l : Fin 4) : Bool :=
  match p with
  | .ta => true
  | .tb => true
  | .lp k => decide (k = l)

/-- LIST AUTHORIZATIONS (R26): it changes nothing of the controller's. -/
def authorizationsListed (p : Port) (lane : Byte) (s : State) : State × Option Response :=
  if h : lane.toNat < 4 then
    if mayList p ⟨lane.toNat, h⟩ then
      answer { s with freeCount := s.freeCount + (s.queue ⟨lane.toNat, h⟩).length }
        (.okWith (.authorizations (queueViews s.freeCount (s.queue ⟨lane.toNat, h⟩))))
    else answer s (.refuse .notPermitted)
  else answer s (.badField 1)

/-- The expiry timer of the queued authorization with this id runs out (R24). An id that is not queued has no timer
(log 2). -/
def authorizationExpired (s : State) (id : Nat) : State :=
  match s.laneOfId id with
  | none => s
  | some l => (s.removeId l id).raise .authExpired (terminalsAndLane l)

end State

/-- ISSUE_AUTHORIZATION (R23). -/
def execIssueAuthorization (p : Port) (tag : Byte) (lane armSet slot : Byte) (requiredRevision : Word16)
    (presetLimit : Word24) (customer : BitVec 64) (expiry : Byte) (s : State) : Result :=
  .next (s.takeRequest p .issueAuthorization tag
    (State.authorizationIssued p lane armSet slot requiredRevision presetLimit customer expiry))

/-- REVOKE_AUTHORIZATION (R25). -/
def execRevokeAuthorization (p : Port) (tag : Byte) (id : Word16) (s : State) : Result :=
  .next (s.takeRequest p .revokeAuthorization tag (State.authorizationRevoked id))

/-- LIST_AUTHORIZATIONS (R26). -/
def execListAuthorizations (p : Port) (tag : Byte) (lane : Byte) (s : State) : Result :=
  .next (s.takeRequest p .listAuthorizations tag (State.authorizationsListed p lane))

/-- AUTH_EXPIRED (R24). -/
def execAuthExpired (id : Nat) (s : State) : Result := .next (s.authorizationExpired id)

end Sys2Proof.Machine
end

