-- ==== Sys2Proof/Machine/Loads.lean ====
section
/-! DEFINITION. START, STOP and AMEND LOAD, and the no-flow and settle timers (R17, R18, R27 to R33, R52 to R57, R61,
R64, R163, R164). -/

namespace Sys2Proof.Machine

/-! ## The load that a START creates (R33, R36) -/

/-- The record's own fields at START (R33); the points of R40 and R69 follow by `withPreset`. -/
def loadDataAtStart (number : Nat) (a : Fin 8) (x : Authorization) (revision : Nat) (r : Recipe) (preset seconds : Nat) :
    LoadData :=
  ({ number := number, arm := a, lane := laneOf a, authorization := x.id, customer := x.customer, issuer := x.issuer,
     slot := x.slot, recipeRevision := revision, productCode := r.productCode, ratio := r.ratio,
     tolerance := r.tolerance, originalPreset := preset, preset := preset, presetLimit := x.presetLimit,
     pending := none, revision := 1, gasoline := 0, ethanol := 0, product := 0, gasolineNet := 0, ethanolNet := 0,
     ethanolTarget := 0, blendSpan := 0, taperPoint := 0, flushPoint := 0, deviation := 0, causes := {},
     flag0 := false, flag1 := false, faults := {}, tempSubstituted := false, overrun := 0, startTime := seconds,
     endTime := none, endStatus := none, finalRatio := none, inTolerance := none } : LoadData).withPreset r preset

namespace State

/-- Whether a line's station is available to an arm: in service, and its reach set includes the arm (R30). -/
def lineAvailable (s : State) (a : Fin 8) (k : RecipeLine) : Bool :=
  s.inService k.station && (s.station k.station).reach.getLsbD a.val

/-- A line of a new load (R30, R33): SKIPPED when its station is not available. -/
def newLine (s : State) (a : Fin 8) (k : RecipeLine) : Line :=
  { counts := { station := k.station, skipped := !(s.lineAvailable a k) } }

/-- The load that a START creates (R32, R33). -/
def newLoad (s : State) (number : Nat) (a : Fin 8) (x : Authorization) (revision : Nat) (r : Recipe) (preset : Nat) :
    Load :=
  { data := loadDataAtStart number a x revision r preset s.seconds, recipe := r, resume := none, waitTarget := none,
    rampBase := none, taperCeiling := none, flushEnd := none, flushKind := none, endDue := none, supplyLost := false,
    alarmRun := 0, nextTrim := none, ethanolLastUsed := none, lines := r.lines.map (s.newLine a) }

/-- Whether an active load or a delivered record carries the number (R163). -/
def numberHeld (s : State) (n : Nat) : Bool := (s.recordWith n).isSome

/-- The number that the next load receives: at most 31 other records are held (R163). -/
def drawLoadNumber (s : State) : Nat := firstFree s.numberHeld Config.maxLoadNumber 32 s.loadCounter

/-- A meter at a START on its arm: divider reloaded, net remainder 0 (R88, R100). -/
def meterAtStart (x : Meter) : Meter := { x with divider := x.kFactor, remainder := 0 }

/-- A START that has passed every check is put into effect (R32). -/
def startEffect (s : State) (a : Fin 8) (x : Authorization) (revision : Nat) (r : Recipe) (preset : Nat) : State :=
  let t := ({ s.removeId (laneOf a) x.id with
    reservations := s.reservations + 1
    loadCounter := counterAfter Config.maxLoadNumber s.drawLoadNumber } : State)
  ((((t.modPage a fun _ => TracePage.reset).modMeter (gasolineOf a) meterAtStart).modMeter (ethanolOf a)
    meterAtStart).modArm a fun y =>
      { y with state := .prime, mainOpening := r.primeOpening, ethanolOpening := 0, noFlow := s.noFlowStart,
               load := some (s.newLoad s.drawLoadNumber a x revision r preset) })

/-- Check 4 of START (R28): by id, or with 0 the oldest whose arm set includes the arm. -/
def selectAuthorization (s : State) (a : Fin 8) (choice : Word16) : Option Authorization :=
  (s.queue (laneOf a)).find? fun x =>
    (decide (choice.toNat = 0) || decide (x.id = choice.toNat)) && armSetHas x.armSet a

/-- A recipe slot named by a queued authorization. -/
def slotNamed (s : State) (n : Nat) : RecipeSlot := s.slot ⟨n % 32, by omega⟩

/-- Check 5 of START (R18): the slot is READY and, with a required revision other than 0, at that revision. -/
def snapshot (s : State) (x : Authorization) : Option (Nat × Recipe) :=
  match (s.slotNamed x.slot).content with
  | none => none
  | some r =>
    if x.requiredRevision = 0 ∨ x.requiredRevision = (s.slotNamed x.slot).revision then
      some ((s.slotNamed x.slot).revision, r)
    else none

/-- Check 8 of START (R30). -/
def stationsAvailable (s : State) (a : Fin 8) (r : Recipe) : Bool :=
  r.lines.all fun k => !k.required || s.lineAvailable a k

/-- Checks 1 to 9 of START in the order of R27 and R29: the refusal, or the authorization, its slot's revision and the
snapshot. -/
def startChecks (s : State) (a : Fin 8) (choice : Word16) (preset : Nat) :
    Except Response (Authorization × Nat × Recipe) :=
  if s.mode ≠ .operate then .error (.refuse .wrongMode)
  else if (s.arm a).enable = false ∨ (s.arm a).state ≠ .idle then .error (.refuse .armBusy)
  else if s.trips.esd = true ∨ s.trips.lanes[(laneOf a).val] = false then .error (.refuse .tripped)
  else
    match s.selectAuthorization a choice with
    | none => .error (.refuse .noSuch)
    | some x =>
      match s.snapshot x with
      | none => .error (.refuse .recipeChanged)
      | some (revision, r) =>
        if 0 < r.ratio ∧ s.trips.header = false then .error (.refuse .tripped)
        else if inRange Config.minPreset x.presetLimit preset = false then .error (.badField 3)
        else if preset < r.minimumPreset then .error (.refuse .presetTooSmall)
        else if s.stationsAvailable a r = false then .error (.refuse .stationUnavailable)
        else if Config.deliveredLimit ≤ s.reservations + s.delivered.length then .error (.refuse .listFull)
        else .ok (x, revision, r)

/-- START LOAD past the Port Unit (R27, R31, R32). -/
def loadStarted (p : Port) (arm : Byte) (choice : Word16) (preset : Word24) (s : State) : State × Option Response :=
  match addressArm p arm with
  | .error r => answer s r
  | .ok a =>
    match s.startChecks a choice preset.toNat with
    | .error r => answer s r
    | .ok (x, revision, r) =>
      answer (s.startEffect a x revision r preset.toNat) (.okWith (.started s.drawLoadNumber x.id a))

/-! ## STOP LOAD (R52, R53) -/

/-- The flush end that a STOP in FLUSH leaves: the lower of the present one and V + F (R53). -/
def stoppedFlushEnd (l : Load) (e : Nat) : Nat := min e (l.data.product + l.recipe.flushVolume)

/-- A STOP in FLUSH (R53). -/
def stopFlush (s : State) (a : Fin 8) (l : Load) : State :=
  match l.flushEnd with
  | none => s
  | some e =>
    if stoppedFlushEnd l e < e then
      let t := (s.modLoad a fun x => { x with flushEnd := some (stoppedFlushEnd l e), flushKind := some .cut }).setDue a
        .stopped
      if stoppedFlushEnd l e ≤ l.data.product then t.enterClosing a else t
    else s

/-- A STOP that has passed its checks, by the arm state (R53). -/
def stopArm (s : State) (a : Fin 8) (l : Load) : State :=
  match (s.arm a).state with
  | .ramp => s.cutFlush a .stopped
  | .full => s.cutFlush a .stopped
  | .taper => s.cutFlush a .stopped
  | .prime => (s.setDue a .stopped).enterClosing a
  | .shareWait => (s.setDue a .stopped).enterClosing a
  | .held => (s.setDue a .stopped).enterClosing a
  | .flush => s.stopFlush a l
  | .closing => s
  | .idle => s

/-- STOP LOAD past the Port Unit (R52). -/
def loadStopped (p : Port) (arm : Byte) (load : Word24) (s : State) : State × Option Response :=
  match addressOpenLoad s p arm load with
  | .error r => answer s r
  | .ok (a, l) =>
    let t := endEvent s (s.stopArm a l)
    answer t (.okWith (.stopped l.data.number (t.arm a).state))

/-! ## AMEND LOAD (R17, R54 to R57) -/

/-- Check 1 of AMEND LOAD on the lane as the record shows it (R17). -/
def mayAmend (s : State) (p : Port) (number : Nat) : Bool :=
  match p with
  | .ta => true
  | .tb => true
  | .lp l =>
    match s.recordWith number with
    | none => true
    | some r => decide (r.data.lane = l)

/-- Check 2 of AMEND LOAD: a load link that names the load and carries its current revision (R13, R17). -/
def loadLinked (s : State) (p : Port) (number : Nat) : Bool :=
  match s.recordWith number with
  | none => false
  | some r => decide ((s.port p).link = some (.load number r.data.revision))

/-- Check 4c: a lane port may only lower the preset (R54). -/
def laneLowers (p : Port) (l : Load) (preset : Nat) : Bool :=
  p.isTerminal ||
    (decide (preset < l.data.preset) &&
      (match l.data.pending with
       | none => true
       | some q => decide (preset < q)))

/-- Checks 4a to 4e of an amendment (R54): the refusal, if one is due. -/
def amendRefusal (s : State) (p : Port) (a : Fin 8) (l : Load) (preset : Nat) : Option Response :=
  if (s.arm a).state = .closing then some (.refuse .tooLate)
  else if inRange Config.minPreset l.data.presetLimit preset = false then some (.badField 2)
  else if laneLowers p l preset = false then some (.badField 2)
  else if preset ≤ l.data.product then some (.refuse .tooLate)
  else if preset < l.recipe.minimumPreset then some (.refuse .presetTooSmall)
  else none

/-- An accepted amendment is staged in a blending phase (R56) and applied at once elsewhere (R55). -/
def amendArm (s : State) (a : Fin 8) (preset : Nat) : State :=
  match (s.arm a).state with
  | .ramp => s.modLoad a fun l => { l with data := { l.data with pending := some preset } }
  | .full => s.modLoad a fun l => { l with data := { l.data with pending := some preset } }
  | .taper => s.modLoad a fun l => { l with data := { l.data with pending := some preset } }
  | .prime => s.modLoad a fun l => l.amend preset
  | .shareWait =>
    let t := s.modLoad a fun l => l.amend preset
    match t.load? a with
    | none => t
    | some l => if l.data.flushPoint ≤ l.data.product then t.enterFlush a .ordered else t
  | .held => s.modLoad a fun l =>
    if l.resume = some .flush then (l.amend preset).adjustFlushEnd else l.amend preset
  | .flush => s.modLoad a fun l => (l.amend preset).adjustFlushEnd
  | .closing => s
  | .idle => s

/-- An accepted amendment advances the revision by one even where it changes none of the parts of R15: "Either way the
record revision advances by one" (R17, log 20). -/
def bumpIfSame (s : State) (a : Fin 8) (revision : Nat) : State :=
  s.modLoad a fun l => if l.data.revision = revision then l.bump else l

/-- The revision of an arm's active load, 0 where it has none. -/
def revisionOf (s : State) (a : Fin 8) : Nat :=
  match s.load? a with
  | none => 0
  | some l => l.data.revision

/-- The effect and the response of an accepted amendment (R17, R55, R56). -/
def amendEffect (s : State) (a : Fin 8) (l : Load) (preset : Nat) : State × Option Response :=
  let t := (endEvent s (s.amendArm a preset)).bumpIfSame a l.data.revision
  answer t (.okWith (.amended (t.revisionOf a) (s.arm a).state.isBlending))

/-- AMEND LOAD past the Port Unit (R17): the checks in order, then the effect. -/
def loadAmended (p : Port) (load preset : Word24) (s : State) : State × Option Response :=
  if s.mayAmend p load.toNat = false then answer s (.refuse .notPermitted)
  else if s.loadLinked p load.toNat = false then answer s (.refuse .linkLost)
  else
    match s.armOfLoad load.toNat with
    | none => answer s (.refuse .tooLate)
    | some a =>
      match s.load? a with
      | none => answer s (.refuse .tooLate)
      | some l =>
        match s.amendRefusal p a l preset.toNat with
        | some r => answer s r
        | none => s.amendEffect a l preset.toNat

/-! ## Timers of the load cycle -/

/-- The no-flow timer runs out (R61). -/
def noFlowElapsed (s : State) (a : Fin 8) : State :=
  if (s.arm a).noFlow.isRunning = true ∧ (s.arm a).state.isFlowing = true then
    endEvent s (((s.addFault a fun f => { f with noFlow := true }).setDue a .noFlow).enterClosing a)
  else s

/-- The settle timer runs out (R64): the load completes, or waits for its shot in flight. -/
def settleElapsed (s : State) (a : Fin 8) : State :=
  if (s.arm a).settle.isRunning = true ∧ (s.arm a).state = .closing then
    endEvent s ((s.modArm a fun x => { x with settle := .expired }).completeIfSettled a)
  else s

end State

/-- START_LOAD (R27). -/
def execStartLoad (p : Port) (tag : Byte) (arm : Byte) (authorization : Word16) (preset : Word24) (s : State) : Result :=
  .next (s.takeRequest p .startLoad tag (State.loadStarted p arm authorization preset))

/-- STOP_LOAD (R52). -/
def execStopLoad (p : Port) (tag : Byte) (arm : Byte) (load : Word24) (s : State) : Result :=
  .next (s.takeRequest p .stopLoad tag (State.loadStopped p arm load))

/-- AMEND_LOAD (R17). -/
def execAmendLoad (p : Port) (tag : Byte) (load preset : Word24) (s : State) : Result :=
  .next (s.takeRequest p .amendLoad tag (State.loadAmended p load preset))

/-- NO_FLOW_TIMEOUT (R61). -/
def execNoFlowTimeout (a : Fin 8) (s : State) : Result := .next (s.noFlowElapsed a)

/-- SETTLE_TIMEOUT (R64). -/
def execSettleTimeout (a : Fin 8) (s : State) : Result := .next (s.settleElapsed a)

end Sys2Proof.Machine
end

