-- ==== Sys2Proof/Machine/Holds.lean ====
section
/-! DEFINITION. HOLD LOAD, RELEASE HOLD, RESUME LOAD, MARK and CLEAR CHECKPOINT, the hold timer and the share wait timer
(R109, R141 to R152). -/

namespace Sys2Proof.Machine

/-- A checkpoint number: 0 or 1 (R151). -/
def checkpointOf (b : Byte) : Option (Fin 2) :=
  match b.toNat with
  | 0 => some 0
  | 1 => some 1
  | _ => none

/-- A checkpoint mode by its index (R193). -/
def checkpointModeOf (b : Byte) : Option CheckpointMode :=
  match b.toNat with
  | 0 => some .note
  | 1 => some .halt
  | _ => none

/-- A load's checkpoint flag (R148). -/
def LoadData.flag (d : LoadData) (n : Fin 2) : Bool := if n = 0 then d.flag0 else d.flag1

/-- Set or clear a load's checkpoint flag. -/
def LoadData.setFlag (d : LoadData) (n : Fin 2) (b : Bool) : LoadData :=
  if n = 0 then { d with flag0 := b } else { d with flag1 := b }

namespace State

/-- The response of the five requests of R142: the load number, the arm state and the hold-cause set afterwards. -/
def heldResponse (s : State) (a : Fin 8) : Response :=
  match s.load? a with
  | none => .refuse .noSuch
  | some l => .okWith (.held l.data.number (s.arm a).state l.data.causes)

/-- The end of such a request: the event is closed, then the response shows what it has left (R142). -/
def answerHeld (s0 t : State) (a : Fin 8) : State × Option Response :=
  answer (endEvent s0 t) ((endEvent s0 t).heldResponse a)

/-- HOLD LOAD past the Port Unit (R143). -/
def loadHeld (p : Port) (arm : Byte) (load : Word24) (s : State) : State × Option Response :=
  match addressOpenLoad s p arm load with
  | .error r => answer s r
  | .ok (a, _) => answerHeld s (s.addCauses a (.only (classCause p))) a

/-- RELEASE HOLD past the Port Unit (R144). -/
def holdReleased (p : Port) (arm : Byte) (load : Word24) (s : State) : State × Option Response :=
  match addressLoad s p arm load with
  | .error r => answer s r
  | .ok (a, l) =>
    if l.data.causes.has (classCause p) then answerHeld s (s.removeCause a (classCause p)) a
    else answer s (.refuse .notHeld)

/-- RESUME LOAD past the Port Unit (R145). -/
def loadResumed (p : Port) (arm : Byte) (load : Word24) (s : State) : State × Option Response :=
  match addressLoad s p arm load with
  | .error r => answer s r
  | .ok (a, l) =>
    if s.trips.lanes[(laneOf a).val] = false then answer s (.refuse .tripped)
    else if l.data.causes.permissive then answerHeld s (s.removeCause a .permissive) a
    else answer s (.refuse .notHeld)

/-- The flag of a checkpoint is set by MARK, and its notice raised, where it was clear (R151). -/
def markFlag (s : State) (a : Fin 8) (l : Load) (n : Fin 2) : State :=
  if l.data.flag n then s
  else (s.modLoad a fun x => { x with data := x.data.setFlag n true }).raise .checkpoint (terminalsAndLane (laneOf a))

/-- MARK CHECKPOINT past the Port Unit (R151). -/
def checkpointMarked (p : Port) (arm : Byte) (load : Word24) (checkpoint mode : Byte) (s : State) :
    State × Option Response :=
  match addressOpenLoad s p arm load with
  | .error r => answer s r
  | .ok (a, l) =>
    match checkpointOf checkpoint with
    | none => answer s (.badField 3)
    | some n =>
      match checkpointModeOf mode with
      | none => answer s (.badField 4)
      | some .note => answerHeld s (s.markFlag a l n) a
      | some .halt => answerHeld s ((s.markFlag a l n).addCauses a (.only (checkpointCause n))) a

/-- CLEAR CHECKPOINT past the Port Unit (R152). -/
def checkpointCleared (p : Port) (arm : Byte) (load : Word24) (checkpoint : Byte) (s : State) :
    State × Option Response :=
  match addressLoad s p arm load with
  | .error r => answer s r
  | .ok (a, l) =>
    match checkpointOf checkpoint with
    | none => answer s (.badField 3)
    | some n =>
      if l.data.flag n then
        answerHeld s
          ((s.modLoad a fun x => { x with data := x.data.setFlag n false }).removeCause a (checkpointCause n)) a
      else answer s (.refuse .notHeld)

/-- The hold timer runs out (R147). -/
def holdElapsed (s : State) (a : Fin 8) : State :=
  if (s.arm a).hold.isRunning = true ∧ (s.arm a).state = .held then
    endEvent s ((s.setDue a .holdTimeout).enterClosing a)
  else s

/-- Whether the share wait timer of an arm's entry runs. -/
def shareTimerRuns (s : State) (a : Fin 8) : Bool := s.header.wait.any fun w => w.arm == a && w.timer.isRunning

/-- The share wait timer of an arm's entry has run out; the entry keeps its place (R109). -/
def shareTimerExpired (s : State) (a : Fin 8) : State :=
  s.modHeader fun h => { h with wait := h.wait.map fun w => if w.arm = a then { w with timer := .expired } else w }

/-- The share wait timer runs out (R109): the notice is raised and the event offered to the load's checkpoints. -/
def shareWaitElapsed (s : State) (a : Fin 8) : State :=
  if s.shareTimerRuns a then
    let t := s.shareTimerExpired a
    endEvent t ((t.raise .shareWaitLong (terminalsAndLane (laneOf a))).fireEvent a .shareWaitLong)
  else s

end State

/-- HOLD_LOAD (R143). -/
def execHoldLoad (p : Port) (tag : Byte) (arm : Byte) (load : Word24) (s : State) : Result :=
  .next (s.takeRequest p .holdLoad tag (State.loadHeld p arm load))

/-- RELEASE_HOLD (R144). -/
def execReleaseHold (p : Port) (tag : Byte) (arm : Byte) (load : Word24) (s : State) : Result :=
  .next (s.takeRequest p .releaseHold tag (State.holdReleased p arm load))

/-- RESUME_LOAD (R145). -/
def execResumeLoad (p : Port) (tag : Byte) (arm : Byte) (load : Word24) (s : State) : Result :=
  .next (s.takeRequest p .resumeLoad tag (State.loadResumed p arm load))

/-- MARK_CHECKPOINT (R151). -/
def execMarkCheckpoint (p : Port) (tag : Byte) (arm : Byte) (load : Word24) (checkpoint mode : Byte) (s : State) :
    Result :=
  .next (s.takeRequest p .markCheckpoint tag (State.checkpointMarked p arm load checkpoint mode))

/-- CLEAR_CHECKPOINT (R152). -/
def execClearCheckpoint (p : Port) (tag : Byte) (arm : Byte) (load : Word24) (checkpoint : Byte) (s : State) : Result :=
  .next (s.takeRequest p .clearCheckpoint tag (State.checkpointCleared p arm load checkpoint))

/-- HOLD_TIMEOUT (R147). -/
def execHoldTimeout (a : Fin 8) (s : State) : Result := .next (s.holdElapsed a)

/-- SHARE_WAIT_LONG (R109). -/
def execShareWaitLong (a : Fin 8) (s : State) : Result := .next (s.shareWaitElapsed a)

end Sys2Proof.Machine
end

