-- ==== Sys2Proof/Machine/Records.lean ====
section
/-! DEFINITION. READ LOAD, READ DELIVERED and CLEAR DELIVERED (R16, R162, R167 to R169); CLEAR STRAY (R91); the completion
of a probe conversion (R95 to R97); SET HEADER CAPACITY (R110). -/

namespace Sys2Proof.Machine

namespace State

/-! ## READ LOAD (R16, R167) -/

/-- Check 4 of READ LOAD, then the link option (R167, R193), then the record with the seconds counter. -/
def loadReadOf (s : State) (p : Port) (r : LoadRecord) (link : Byte) : State × Option Response :=
  if State.mayList p r.data.lane then
    match yesNo link.toNat with
    | none => answer s (.badField 3)
    | some l =>
      answer (if l then s.setLink p (some (.load r.data.number r.data.revision)) else s)
        (.okWith (.load s.seconds r))
  else answer s (.refuse .notPermitted)

/-- READ LOAD BY_NUMBER (R167). -/
def loadReadByNumber (p : Port) (value : Word24) (link : Byte) (s : State) : State × Option Response :=
  if inRange 1 Config.maxLoadNumber value.toNat = false then answer s (.badField 2)
  else
    match s.recordWith value.toNat with
    | none => answer s (.refuse .noSuch)
    | some r => s.loadReadOf p r link

/-- READ LOAD BY_ARM (R167): the active load alone. -/
def loadReadByArm (p : Port) (value : Word24) (link : Byte) (s : State) : State × Option Response :=
  if h : value.toNat < 8 then
    if State.mayList p (laneOf ⟨value.toNat, h⟩) = false then answer s (.refuse .notPermitted)
    else
      match s.load? ⟨value.toNat, h⟩ with
      | none => answer s (.refuse .noSuch)
      | some l => s.loadReadOf p (s.recordOf ⟨value.toNat, h⟩ l) link
  else answer s (.badField 2)

/-- READ LOAD past the Port Unit (R167); the selector is judged first, since the range of the value depends on it
(log 24). -/
def loadRead (p : Port) (selector : Byte) (value : Word24) (link : Byte) (s : State) : State × Option Response :=
  match selector.toNat with
  | 0 => s.loadReadByNumber p value link
  | 1 => s.loadReadByArm p value link
  | _ => answer s (.badField 1)

/-! ## The delivered list (R168, R169) -/

/-- The response of READ DELIVERED for the record at a place of the list (R168). -/
def deliveredAt (s : State) (i : Nat) (r : LoadRecord) : State × Option Response :=
  answer s (.okWith (.delivered s.seconds (i + 1) s.delivered.length s.reservations r))

/-- The place of the delivered record that carries the number. -/
def deliveredPlace (s : State) (n : Nat) : Nat := s.delivered.findIdx fun r => r.data.number == n

/-- READ DELIVERED past the Port Unit (R168). -/
def deliveredRead (load : Word24) (s : State) : State × Option Response :=
  if Config.maxLoadNumber < load.toNat then answer s (.badField 1)
  else if load.toNat = 0 then
    match s.delivered with
    | [] => answer s (.refuse .noSuch)
    | r :: _ => s.deliveredAt 0 r
  else if (s.armOfLoad load.toNat).isSome then answer s (.refuse .inUse)
  else
    match s.deliveredWith load.toNat with
    | none => answer s (.refuse .noSuch)
    | some r => s.deliveredAt (s.deliveredPlace load.toNat) r

/-- The record with the number leaves the delivered list; those behind close up (R169). -/
def removeDelivered (s : State) (n : Nat) : State :=
  { s with delivered := s.delivered.filter fun r => r.data.number != n }

/-- CLEAR DELIVERED past the Port Unit (R169). -/
def deliveredCleared (load : Word24) (s : State) : State × Option Response :=
  if inRange 1 Config.maxLoadNumber load.toNat = false then answer s (.badField 1)
  else if (s.armOfLoad load.toNat).isSome then answer s (.refuse .inUse)
  else
    match s.deliveredWith load.toNat with
    | none => answer s (.refuse .noSuch)
    | some _ =>
      answer (s.removeDelivered load.toNat)
        (.okWith (.cleared load.toNat (s.removeDelivered load.toNat).delivered.length))

/-! ## CLEAR STRAY (R91) -/

/-- CLEAR STRAY past the Port Unit (R91): the response carries the count that the clear takes away, and
the counter is no longer silent (R90). -/
def strayCleared (meter : Byte) (s : State) : State × Option Response :=
  if h : meter.toNat < 16 then
    answer (s.modMeter ⟨meter.toNat, h⟩ fun x => { x with stray := 0, silent := false })
      (.okWith (.stray meter.toNat (s.meter ⟨meter.toNat, h⟩).stray))
  else answer s (.badField 1)

/-! ## The probe scan (R95 to R97) -/

/-- A conversion result within the converter's span (R96). -/
def clipReading (x : Int) : Int := if x < -400 then -400 else if 700 < x then 700 else x

/-- The condition that a reading gives (R96). -/
def conditionOf (x : Int) : ProbeCondition := if -300 ≤ x ∧ x ≤ 550 then .valid else .fault

/-- The conversion that follows one of channel `c` (R95): the next enabled channel above, else the lowest enabled one,
else none. -/
def nextConversion (s : State) (c : Fin 16) : Option Conversion :=
  match allChannels.find? fun k => decide (c < k) && s.probeEnabled k with
  | some k => some { channel := k, discard := false }
  | none => s.lowestConversion

/-- An enabled channel takes its result (R96): the reading, the condition, and PROBE_FAULT where it becomes FAULT. -/
def takeReading (s : State) (c : Fin 16) (x : Int) : State :=
  let t := s.modProbe c fun q => { q with reading := clipReading x, condition := conditionOf (clipReading x) }
  if conditionOf (clipReading x) = .fault ∧ (s.probe c).condition ≠ .fault then t.raise .probeFault terminalPorts else t

/-- The conversion in progress completes (R95 to R97). An idle scan has none (log 2). -/
def conversionDone (s : State) (x : Int) : State :=
  match s.scan with
  | none => s
  | some v =>
    let t := if v.discard = false ∧ s.probeEnabled v.channel = true then s.takeReading v.channel x else s
    { t with scan := t.nextConversion v.channel }

/-! ## SET HEADER CAPACITY (R110) -/

/-- SET HEADER CAPACITY past the Port Unit (R110): a raise serves the wait list. -/
def capacitySet (capacity : Byte) (s : State) : State × Option Response :=
  if 16 < capacity.toNat then answer s (.badField 1)
  else if capacity.toNat < s.header.inUse then answer s (.refuse .inUse)
  else
    let t := s.modHeader fun h => { h with capacity := capacity.toNat }
    let u := if s.header.capacity < capacity.toNat then endEvent s t else t
    answer u (.okWith (.capacity u.header.capacity u.header.inUse u.header.wait.length))

end State

/-- READ_LOAD (R167). -/
def execReadLoad (p : Port) (tag : Byte) (selector : Byte) (value : Word24) (link : Byte) (s : State) : Result :=
  .next (s.takeRequest p .readLoad tag (State.loadRead p selector value link))

/-- READ_DELIVERED (R168). -/
def execReadDelivered (p : Port) (tag : Byte) (load : Word24) (s : State) : Result :=
  .next (s.takeRequest p .readDelivered tag (State.deliveredRead load))

/-- CLEAR_DELIVERED (R169). -/
def execClearDelivered (p : Port) (tag : Byte) (load : Word24) (s : State) : Result :=
  .next (s.takeRequest p .clearDelivered tag (State.deliveredCleared load))

/-- CLEAR_STRAY (R91). -/
def execClearStray (p : Port) (tag : Byte) (meter : Byte) (s : State) : Result :=
  .next (s.takeRequest p .clearStray tag (State.strayCleared meter))

/-- CONVERSION_COMPLETE (R96). -/
def execConversionComplete (result : Int) (s : State) : Result := .next (s.conversionDone result)

/-- SET_HEADER_CAPACITY (R110). -/
def execSetHeaderCapacity (p : Port) (tag : Byte) (capacity : Byte) (s : State) : Result :=
  .next (s.takeRequest p .setHeaderCapacity tag (State.capacitySet capacity))

end Sys2Proof.Machine
end

