-- ==== Sys2Proof/Machine/TripEvents.lean ====
section
/-! DEFINITION. The trip inputs: ESD, the header permissive and the lane permissives (R66, R111 to R114, R132, R153 to
R156). A change to the state already held does not occur: it changes nothing (R111, log 2). -/

namespace Sys2Proof.Machine

namespace State

/-! ## ESD (R66, R114, R132, R154) -/

/-- Whether the arm's load with this number has its shot of line `i` in flight at a station. -/
def lineShotInFlight (s : State) (a : Fin 8) (number i : Nat) : Bool :=
  allStations.any fun st =>
    match s.shotOf st with
    | some sh => sh.countsTo a number && sh.line == i
    | none => false

/-- A line of an ended load is settled (R132): its shot in flight is unconfirmed and all it still owes is missed. -/
def settledLine (inFlight : Bool) (l : Line) : Line :=
  let c := if inFlight then l.counts.unconfirm else l.counts
  { l with counts := c.miss c.owed, kept := 0 }

/-- Every line of an arm's load is settled (R132). -/
def settleLines (s : State) (a : Fin 8) (number : Nat) : State :=
  s.modLoad a fun l => { l with lines := l.lines.mapIdx fun i x => settledLine (s.lineShotInFlight a number i) x }

/-- The shots in flight of an ended load are DETACHED (R132). -/
def detachShots (s : State) (a : Fin 8) (number : Nat) : State :=
  allStations.foldl
    (fun t st => t.modShot st fun sh => if sh.countsTo a number then { sh with standing := .detached } else sh) s

/-- The load of an arm is settled for an ESD (R132); an arm without one is left. -/
def settleForEsd (s : State) (a : Fin 8) : State :=
  match s.load? a with
  | none => s
  | some l => (s.settleLines a l.data.number).detachShots a l.data.number

/-- The stations empty their queues; an IDLE one loses its bus request. The request of a SHOOTING station for its POLL, and
that of one in FAULT for its CLEAR, stays (R125, R132, log 36, the model's reading). -/
def emptyQueue (s : State) (st : Fin 4) : State :=
  s.modStation st fun x => { x with queue := [], request := x.request && !(decide (x.state = .idle)) }

/-- The allocator at an ESD (R114): grants, wait list and share wait timers go, no share is in use. -/
def headerEmptied (s : State) : State := s.modHeader fun h => { h with inUse := 0, grants := [], wait := [] }

/-- ESD is asserted (R154): every active load ends with ESD, in ascending arm number. -/
def esdAsserted (s : State) : State :=
  if s.trips.esd then s
  else
    let t := ({ s with trips := { s.trips with esd := true } } : State).raise .trip allPorts
    let u := allStations.foldl emptyQueue (allArms.foldl settleForEsd t.headerEmptied)
    allArms.foldl (fun v a => v.completeLoad a .esd) u

/-- ESD clears: TRIP is raised and nothing is resumed (R154). -/
def esdCleared (s : State) : State :=
  if s.trips.esd then ({ s with trips := { s.trips with esd := false } } : State).raise .trip allPorts else s

/-! ## The header permissive (R111 to R113) -/

/-- A held load that was to blend again is marked (R112). -/
def markSupplyLost (s : State) (a : Fin 8) : State := (s.supplyFault a).modLoad a fun l => { l with supplyLost := true }

end State

/-- No tick has been counted to the load since its last trim point: the next one lies a whole trim volume above V (R70). -/
def Load.atLastTrim (l : Load) : Bool := decide (l.nextTrim = some (l.data.product + l.recipe.trimVolume))

namespace State

/-- The loss of the header permissive at one arm (R111). A load in FLUSH is not acted on. Where it races with the tick of a
trim point that has ended in a ratio fault, no tick of the load lying between, R85 gives the outcome: it adds only its fault
to the fault set (log 35). -/
def supplyLostArm (s : State) (a : Fin 8) : State :=
  match s.load? a with
  | none => s
  | some l =>
    if l.recipe.shareCount = 0 then s
    else
      match (s.arm a).state with
      | .ramp => (s.supplyFault a).enterFlush a .cut
      | .full => (s.supplyFault a).enterFlush a .cut
      | .taper => (s.supplyFault a).enterFlush a .cut
      | .shareWait => (s.supplyFault a).enterClosing a
      | .held =>
        match l.resume with
        | some .ramp => s.markSupplyLost a
        | some .full => s.markSupplyLost a
        | some .taper => s.markSupplyLost a
        | some .shareWait => s.markSupplyLost a
        | some .prime => s
        | some .flush => s
        | none => s
      | .flush =>
        if l.data.faults.ratioFault && l.atLastTrim then s.addFault a fun f => { f with ethanolSupply := true } else s
      | .idle => s
      | .prime => s
      | .closing => s

/-- The header permissive is lost (R111, R153). -/
def headerLost (s : State) : State :=
  if s.trips.header then
    let t := ({ s with trips := { s.trips with header := false } } : State).raise .trip allPorts
    endEvent s (allArms.foldl supplyLostArm t)
  else s

/-- The header permissive is restored: nothing is resumed and no grant made (R113). -/
def headerRestored (s : State) : State :=
  if s.trips.header then s else ({ s with trips := { s.trips with header := true } } : State).raise .trip allPorts

/-! ## The lane permissives (R155, R156) -/

/-- The state of a lane permissive is taken, and TRIP raised on the terminals and the lane's port (R153). -/
def setLanePermissive (s : State) (l : Fin 4) (present : Bool) : State :=
  ({ s with trips := { s.trips with lanes := s.trips.lanes.set l.val present } } : State).raise .trip
    (terminalsAndLane l)

/-- A lane permissive is lost: PERMISSIVE joins the set of each load of the lane outside CLOSING; the serving is made
once, at the end (R155). -/
def laneLost (s : State) (l : Fin 4) : State :=
  if s.trips.lanes[l.val] then
    endEvent s ((armsOf l).foldl (fun t a => t.addCauses a (.only .permissive)) (s.setLanePermissive l false))
  else s

/-- A lane permissive is restored: the loads keep PERMISSIVE (R156). -/
def laneRestored (s : State) (l : Fin 4) : State := if s.trips.lanes[l.val] then s else s.setLanePermissive l true

end State

/-- ESD_ASSERT (R154). -/
def execEsdAssert (s : State) : Result := .next s.esdAsserted

/-- ESD_CLEAR (R154). -/
def execEsdClear (s : State) : Result := .next s.esdCleared

/-- HEADER_PERMISSIVE_LOSS (R111). -/
def execHeaderPermissiveLoss (s : State) : Result := .next s.headerLost

/-- HEADER_PERMISSIVE_RESTORE (R113). -/
def execHeaderPermissiveRestore (s : State) : Result := .next s.headerRestored

/-- LANE_PERMISSIVE_LOSS (R155). -/
def execLanePermissiveLoss (lane : Fin 4) (s : State) : Result := .next (s.laneLost lane)

/-- LANE_PERMISSIVE_RESTORE (R156). -/
def execLanePermissiveRestore (lane : Fin 4) (s : State) : Result := .next (s.laneRestored lane)

end Sys2Proof.Machine
end

