-- ==== Sys2Proof/Machine/TraceReads.lean ====
section
/-! DEFINITION. TRACE WINDOW and TRACE READ (R175 to R179). -/

namespace Sys2Proof.Machine

/-- A trace mode by its index (R193). -/
def traceModeOf (b : Byte) : Option TraceMode :=
  match b.toNat with
  | 0 => some .page
  | 1 => some .across
  | 2 => some .down
  | _ => none

/-- The page after the pointer's, round the window's range (R179). -/
def TraceWindow.nextPage (w : TraceWindow) : Nat := if w.pageEnd ≤ w.pointerPage then w.pageStart else w.pointerPage + 1

/-- The column after the pointer's, round the window's range (R179). -/
def TraceWindow.nextColumn (w : TraceWindow) : Nat :=
  if w.columnEnd ≤ w.pointerColumn then w.columnStart else w.pointerColumn + 1

/-- The pointer advances by the window's mode (R179). -/
def TraceWindow.advance (w : TraceWindow) : TraceWindow :=
  match w.mode with
  | .page => { w with pointerColumn := w.nextColumn }
  | .across =>
    { w with pointerColumn := w.nextColumn
             pointerPage := if w.columnEnd ≤ w.pointerColumn then w.nextPage else w.pointerPage }
  | .down =>
    { w with pointerPage := w.nextPage
             pointerColumn := if w.pageEnd ≤ w.pointerPage then w.nextColumn else w.pointerColumn }

/-- Whether a port may read a page: a terminal every one, a lane port those of its lane (R178). -/
def mayReadPage (p : Port) (page : Fin 8) : Bool :=
  match p with
  | .ta => true
  | .tb => true
  | .lp l => decide (laneOf page = l)

/-- A pointer's page as one of the eight. -/
def pageOf (n : Nat) : Fin 8 := ⟨n % 8, by omega⟩

namespace State

/-- TRACE WINDOW past the Port Unit (R177). -/
def windowSet (p : Port) (mode pageStart pageEnd columnStart columnEnd : Byte) (s : State) : State × Option Response :=
  match traceModeOf mode with
  | none => answer s (.badField 1)
  | some m =>
    if inRange 0 7 pageStart.toNat = false then answer s (.badField 2)
    else if inRange pageStart.toNat 7 pageEnd.toNat = false then answer s (.badField 3)
    else if inRange 0 63 columnStart.toNat = false then answer s (.badField 4)
    else if inRange columnStart.toNat 63 columnEnd.toNat = false then answer s (.badField 5)
    else
      let w : TraceWindow :=
        { mode := m, pageStart := pageStart.toNat, pageEnd := pageEnd.toNat, columnStart := columnStart.toNat,
          columnEnd := columnEnd.toNat, pointerPage := pageStart.toNat, pointerColumn := columnStart.toNat }
      answer (s.modPort p fun x => { x with window := w }) (.okWith (.window w))

/-- The entry that the pointer names (R175, R178). -/
def entryAt (s : State) (p : Port) (w : TraceWindow) : TraceEntry :=
  let g := s.page (pageOf w.pointerPage)
  if mayReadPage p (pageOf w.pointerPage) then
    match g.records[w.pointerColumn]? with
    | some r => .present w.pointerPage w.pointerColumn g.records.length r
    | none => .empty w.pointerPage w.pointerColumn g.records.length
  else .withheld w.pointerPage w.pointerColumn

/-- So many entries from a window on, and the window after the last advance (R178). -/
def entriesFrom (s : State) (p : Port) : Nat → TraceWindow → List TraceEntry × TraceWindow
  | 0, w => ([], w)
  | n + 1, w =>
    let r := s.entriesFrom p n w.advance
    (s.entryAt p w :: r.1, r.2)

/-- TRACE READ past the Port Unit (R178). -/
def traceTaken (p : Port) (count : Byte) (s : State) : State × Option Response :=
  if inRange 1 8 count.toNat = false then answer s (.badField 1)
  else
    let r := s.entriesFrom p count.toNat (s.port p).window
    answer (s.modPort p fun x => { x with window := r.2 }) (.okWith (.trace r.1 r.2.pointerPage r.2.pointerColumn))

end State

/-- TRACE_WINDOW (R177). -/
def execTraceWindow (p : Port) (tag : Byte) (mode pageStart pageEnd columnStart columnEnd : Byte) (s : State) : Result :=
  .next (s.takeRequest p .traceWindow tag (State.windowSet p mode pageStart pageEnd columnStart columnEnd))

/-- TRACE_READ (R178). -/
def execTraceRead (p : Port) (tag : Byte) (count : Byte) (s : State) : Result :=
  .next (s.takeRequest p .traceRead tag (State.traceTaken p count))

end Sys2Proof.Machine
end

