-- ==== Sys2Proof/Machine/Encode.lean ====
section
/-! DEFINITION. The bytes on a port's line: the frame check, the layouts of R192, and the segments of a response (R181,
R183, R192). The widths of response data that R192 and R193 do not lay out are the model's (log 11). -/

namespace Sys2Proof.Machine

/-! ## The frame (R181, R192) -/

/-- The SYNC byte (R181). -/
def syncByte : Byte := 0xC3#8

/-- One bit of the check: most significant first, polynomial 0x1021 (R181). -/
def crcBit (c : BitVec 16) : BitVec 16 := if c.getLsbD 15 then (c <<< 1) ^^^ 0x1021#16 else c <<< 1

/-- One byte of the check (R181). -/
def crcByte (c : BitVec 16) (b : Byte) : BitVec 16 :=
  crcBit (crcBit (crcBit (crcBit (crcBit (crcBit (crcBit (crcBit (c ^^^ (b ++ 0#8)))))))))

/-- The check over the LEN byte and the body: initial value 0xFFFF, no final inversion (R181). -/
def crcOf (bs : List Byte) : BitVec 16 := bs.foldl crcByte 0xFFFF#16

/-- The frame of a body (R192). -/
def frameOf (body : List Byte) : List Byte :=
  let covered := BitVec.ofNat 8 body.length :: body
  syncByte :: covered ++ bytes16 (crcOf covered)

/-! ## Fields (R192) -/

/-- A value in `w` bytes, high byte first (R192). -/
def natBytes : Nat → Nat → List Byte
  | 0, _ => []
  | w + 1, n => natBytes w (n / 256) ++ [BitVec.ofNat 8 n]

/-- The absent marker: every bit set in the field's width (R192). -/
def absentBytes (w : Nat) : List Byte := List.replicate w 0xFF#8

/-- A field that may hold no value. -/
def optBytes (w : Nat) : Option Nat → List Byte
  | none => absentBytes w
  | some n => natBytes w n

/-- A signed three-byte field, two's complement (R192). -/
def signedBytes24 (x : Int) : List Byte := bytes24 (BitVec.ofInt 24 x)

/-- A yes-or-no field (R192). -/
def boolByte (b : Bool) : List Byte := [if b then 1#8 else 0#8]

/-- A set of up to eight members: bit 0 for the first listed (R192). -/
def setByte (members : List Bool) : List Byte :=
  [members.foldr (fun b (x : Byte) => (x <<< 1) ||| (if b then 1#8 else 0#8)) 0#8]

/-- An arm state's index in R36 (R192). -/
def ArmState.index : ArmState → Nat
  | .idle => 0
  | .prime => 1
  | .ramp => 2
  | .full => 3
  | .taper => 4
  | .flush => 5
  | .shareWait => 6
  | .held => 7
  | .closing => 8

/-- A result code's value (R183). -/
def ResultCode.value : ResultCode → Nat
  | .ok => 0
  | .notPermitted => 1
  | .badRequest => 2
  | .badField => 3
  | .wrongMode => 4
  | .noSuch => 5
  | .inUse => 6
  | .tooLate => 7
  | .linkLost => 8
  | .listFull => 9
  | .queueFull => 10
  | .recipeChanged => 11
  | .presetTooSmall => 12
  | .stationUnavailable => 13
  | .tripped => 14
  | .notHeld => 15
  | .armBusy => 16

/-- An end status's index (R192). -/
def EndStatus.index : EndStatus → Nat
  | .complete => 0
  | .stopped => 1
  | .ratioFault => 2
  | .noFlow => 3
  | .ethanolSupply => 4
  | .additiveFault => 5
  | .holdTimeout => 6
  | .esd => 7

/-- A station state's index in R116 (R192). -/
def StationState.index : StationState → Nat
  | .off => 0
  | .idle => 1
  | .changeover => 2
  | .shooting => 3
  | .fault => 4

/-- A probe condition's index in R94 (R192). -/
def ProbeCondition.index : ProbeCondition → Nat
  | .off => 0
  | .fault => 1
  | .valid => 2

/-- A pump state's number in a reply (R194). -/
def ReplyState.index : ReplyState → Nat
  | .ready => 0
  | .moving => 1
  | .pumping => 2
  | .done => 3
  | .refused => 4
  | .faulted => 5

/-- A trace cause's index in R172 (R192). -/
def TraceCause.index : TraceCause → Nat
  | .trim => 0
  | .phase => 1
  | .hold => 2
  | .finish => 3

/-- A trace mode's index (R193). -/
def TraceMode.index : TraceMode → Nat
  | .page => 0
  | .across => 1
  | .down => 2

/-- A device mode's index in R188. -/
def Mode.index : Mode → Nat
  | .configure => 0
  | .operate => 1

/-- An issuing port: 0 for TA, 1 for TB (R192). -/
def issuerIndex (p : Port) : Nat := (portIndex p).val

/-- The hold-cause set, in the order of R141 (R192). -/
def HoldCauses.bytes (h : HoldCauses) : List Byte :=
  setByte [h.laneHold, h.terminalHold, h.checkpoint0, h.checkpoint1, h.permissive]

/-- The fault set, in the order of R192. -/
def FaultSet.bytes (f : FaultSet) : List Byte :=
  setByte [f.noFlow, f.ratioFault, f.overrun, f.ethanolSupply, f.additiveFault]

/-! ## Recipe content (R192) -/

/-- An event kind's index in R5. -/
def EventKind.index : EventKind → Nat
  | .primeDone => 0
  | .atVolume _ => 1
  | .taperBegin => 2
  | .shotMissed => 3
  | .shareWaitLong => 4

/-- An event kind's volume field (R5). -/
def EventKind.volumeBytes : EventKind → List Byte
  | .atVolume v => natBytes 4 v
  | .primeDone => absentBytes 4
  | .taperBegin => absentBytes 4
  | .shotMissed => absentBytes 4
  | .shareWaitLong => absentBytes 4

/-- A line position; one not used carries the absent marker (R192). -/
def linePosition (ls : List RecipeLine) (i : Nat) : List Byte :=
  match ls[i]? with
  | none => absentBytes 6
  | some l => natBytes 1 l.station.val ++ natBytes 2 l.spacing ++ natBytes 2 l.shotSize ++ boolByte l.required

/-- A checkpoint position; one not used carries the absent marker (R192). -/
def checkpointPosition (cs : List RecipeCheckpoint) (i : Nat) : List Byte :=
  match cs[i]? with
  | none => absentBytes 6
  | some c => natBytes 1 c.event.index ++ c.event.volumeBytes ++ boolByte (decide (c.mode = .halt))

/-- The 58 bytes of a recipe content (R192). -/
def Recipe.bytes (r : Recipe) : List Byte :=
  natBytes 2 r.productCode ++ natBytes 2 r.ratio ++ natBytes 1 r.tolerance
    ++ natBytes 2 r.primeVolume ++ natBytes 1 r.primeOpening ++ natBytes 1 r.rampSteps ++ natBytes 2 r.rampStepVolume
    ++ natBytes 1 r.fullOpening
    ++ natBytes 2 r.taperVolume ++ natBytes 1 r.taperSteps ++ natBytes 1 r.taperEndOpening ++ natBytes 2 r.flushVolume
    ++ natBytes 1 r.ethanolStartOpening ++ natBytes 1 r.trimVolume ++ natBytes 1 r.trimStep ++ natBytes 1 r.deadband
    ++ natBytes 2 r.alarmLimit ++ natBytes 1 r.alarmCount
    ++ natBytes 1 r.shareCount ++ natBytes 1 r.lines.length
    ++ linePosition r.lines 0 ++ linePosition r.lines 1 ++ linePosition r.lines 2
    ++ natBytes 1 r.checkpoints.length ++ checkpointPosition r.checkpoints 0 ++ checkpointPosition r.checkpoints 1

/-- READ RECIPE's state, revision, minimum preset and content (R11, R192). -/
def RecipeSlot.bytes (k : RecipeSlot) : List Byte :=
  match k.content with
  | none => natBytes 1 0 ++ natBytes 2 k.revision ++ absentBytes 3 ++ absentBytes 58
  | some r => natBytes 1 1 ++ natBytes 2 k.revision ++ natBytes 3 r.minimumPreset ++ r.bytes

/-! ## The load record (R192) -/

/-- An additive line of a load record: 14 bytes (R192). -/
def LineRecord.bytes (c : LineRecord) : List Byte :=
  [BitVec.ofNat 8 c.station.val ||| (if c.skipped then 0x80#8 else 0#8)]
    ++ natBytes 2 c.due ++ natBytes 2 c.delivered ++ natBytes 1 c.owed ++ natBytes 2 c.missed
    ++ natBytes 2 c.unconfirmed ++ natBytes 4 c.volume

/-- Offsets 0 to 39 of a load record (R192). -/
def LoadRecord.identityBytes (r : LoadRecord) : List Byte :=
  natBytes 3 r.data.number ++ natBytes 1 r.data.arm.val ++ natBytes 1 r.data.lane.val
    ++ natBytes 2 r.data.authorization ++ bytes64 r.data.customer ++ natBytes 1 (issuerIndex r.data.issuer)
    ++ natBytes 1 r.data.slot ++ natBytes 2 r.data.recipeRevision ++ natBytes 2 r.data.productCode
    ++ natBytes 2 r.data.ratio ++ natBytes 1 r.data.tolerance
    ++ natBytes 3 r.data.originalPreset ++ natBytes 3 r.data.preset ++ natBytes 3 r.data.presetLimit
    ++ optBytes 3 r.data.pending
    ++ natBytes 2 r.data.revision ++ natBytes 1 r.armState.index
    ++ optBytes 1 (r.resumePhase.map fun x => x.toArmState.index)

/-- Offsets 40 to 72 of a load record (R192). -/
def LoadRecord.volumeBytes (r : LoadRecord) : List Byte :=
  natBytes 3 r.data.gasoline ++ natBytes 3 r.data.ethanol ++ natBytes 3 r.data.product
    ++ natBytes 3 r.data.gasolineNet ++ natBytes 3 r.data.ethanolNet
    ++ natBytes 3 r.data.ethanolTarget ++ natBytes 3 r.data.blendSpan ++ natBytes 3 r.data.taperPoint
    ++ natBytes 3 r.data.flushPoint
    ++ signedBytes24 r.data.deviation
    ++ natBytes 1 r.mainOpening ++ natBytes 1 r.ethanolOpening ++ natBytes 1 r.sharesHeld

/-- Offsets 73 to 91 of a load record (R192). -/
def LoadRecord.statusBytes (r : LoadRecord) : List Byte :=
  r.data.causes.bytes ++ setByte [r.data.flag0, r.data.flag1, r.data.tempSubstituted] ++ r.data.faults.bytes
    ++ natBytes 3 r.data.overrun
    ++ natBytes 4 r.data.startTime ++ optBytes 4 r.data.endTime
    ++ optBytes 1 (r.data.endStatus.map EndStatus.index) ++ optBytes 2 r.data.finalRatio
    ++ (match r.data.inTolerance with
        | none => absentBytes 1
        | some b => boolByte b)
    ++ natBytes 1 r.lines.length

/-- A whole load record: 92 bytes and 14 for each line (R192). -/
def LoadRecord.bytes (r : LoadRecord) : List Byte :=
  r.identityBytes ++ r.volumeBytes ++ r.statusBytes ++ r.lines.flatMap LineRecord.bytes

/-! ## Other response data (log 11) -/

/-- An authorization as LIST AUTHORIZATIONS shows it (R26). -/
def AuthorizationView.bytes (v : AuthorizationView) : List Byte :=
  natBytes 2 v.authorization.id ++ [v.authorization.armSet] ++ natBytes 1 v.authorization.slot
    ++ natBytes 2 v.authorization.requiredRevision ++ natBytes 3 v.authorization.presetLimit
    ++ bytes64 v.authorization.customer ++ natBytes 1 v.authorization.expiry
    ++ natBytes 1 (issuerIndex v.authorization.issuer) ++ natBytes 2 v.remaining

/-- What READ STATUS returns (R190). The trip states and the low-level flag are sent as 1 for asserted, present and set,
and 0 for clear and lost (log 11, the model's choice). -/
def StatusView.bytes (v : StatusView) : List Byte :=
  natBytes 1 v.mode.index ++ boolByte v.trips.esd ++ boolByte v.trips.header ++ v.trips.lanes.toList.flatMap boolByte
    ++ v.arms.flatMap (fun x => boolByte x.enable ++ natBytes 1 x.state.index ++ optBytes 3 x.load)
    ++ natBytes 1 v.capacity ++ natBytes 1 v.inUse ++ natBytes 1 v.wait.length
    ++ v.wait.flatMap (fun x => natBytes 1 x.1.val ++ natBytes 1 x.2)
    ++ v.stations.flatMap (fun x => natBytes 1 x.state.index ++ natBytes 1 x.queueLength ++ boolByte x.lowLevel)
    ++ v.probes.flatMap (fun c => natBytes 1 c.index) ++ v.stray.flatMap (natBytes 2)
    ++ natBytes 1 v.deliveredCount ++ natBytes 1 v.reservations ++ natBytes 4 v.seconds

/-- A trace record (R172). -/
def TraceRecord.bytes (r : TraceRecord) : List Byte :=
  natBytes 3 r.load ++ natBytes 2 r.sequence ++ natBytes 1 r.cause.index ++ natBytes 1 r.armState.index
    ++ natBytes 3 r.product ++ natBytes 3 r.gasoline ++ natBytes 3 r.ethanol
    ++ natBytes 1 r.mainOpening ++ natBytes 1 r.ethanolOpening ++ signedBytes24 r.deviation ++ natBytes 1 r.sharesHeld

/-- An entry of TRACE READ: its kind in the order of R178, then what it carries. -/
def TraceEntry.bytes : TraceEntry → List Byte
  | .present page column count r =>
    natBytes 1 0 ++ natBytes 1 page ++ natBytes 1 column ++ natBytes 1 count ++ r.bytes
  | .empty page column count => natBytes 1 1 ++ natBytes 1 page ++ natBytes 1 column ++ natBytes 1 count
  | .withheld page column => natBytes 1 2 ++ natBytes 1 page ++ natBytes 1 column

/-- A read window with its pointer (R177). -/
def TraceWindow.bytes (w : TraceWindow) : List Byte :=
  natBytes 1 w.mode.index ++ natBytes 1 w.pageStart ++ natBytes 1 w.pageEnd ++ natBytes 1 w.columnStart
    ++ natBytes 1 w.columnEnd ++ natBytes 1 w.pointerPage ++ natBytes 1 w.pointerColumn

/-- The data bytes of a response, in the order in which its rule lists them. The no-reply marker of R136 is sent as the
absent marker (log 11, the model's choice). -/
def ResponseData.bytes : ResponseData → List Byte
  | .none => []
  | .badField field index => natBytes 1 field ++ optBytes 1 index
  | .status view => view.bytes
  | .notices flags mask => bytes16 flags ++ bytes16 mask
  | .noticeSet w => bytes16 w
  | .configured group index => natBytes 1 group ++ natBytes 1 index
  | .recipe slot k => natBytes 1 slot ++ k.bytes
  | .slotRevision slot revision => natBytes 1 slot ++ natBytes 2 revision
  | .issued id position => natBytes 2 id ++ natBytes 1 position
  | .revoked id lane => natBytes 2 id ++ natBytes 1 lane.val
  | .authorizations entries => natBytes 1 entries.length ++ entries.flatMap AuthorizationView.bytes
  | .started number authorization arm => natBytes 3 number ++ natBytes 2 authorization ++ natBytes 1 arm.val
  | .stopped number state => natBytes 3 number ++ natBytes 1 state.index
  | .amended revision staged => natBytes 2 revision ++ natBytes 1 (if staged then 0 else 1)
  | .held number state causes => natBytes 3 number ++ natBytes 1 state.index ++ causes.bytes
  | .load seconds record => natBytes 4 seconds ++ record.bytes
  | .delivered seconds position count reservations record =>
    natBytes 4 seconds ++ natBytes 1 position ++ natBytes 1 count ++ natBytes 1 reservations ++ record.bytes
  | .cleared number left => natBytes 3 number ++ natBytes 1 left
  | .stray meter count => natBytes 1 meter ++ natBytes 2 count
  | .capacity total inUse waiting => natBytes 1 total ++ natBytes 1 inUse ++ natBytes 1 waiting
  | .restored state reply => natBytes 1 state.index ++ optBytes 1 (reply.map ReplyState.index)
  | .window w => w.bytes
  | .trace entries page column =>
    natBytes 1 entries.length ++ entries.flatMap TraceEntry.bytes ++ natBytes 1 page ++ natBytes 1 column

/-! ## Segments (R183) -/

/-- The number of segments of so many data bytes: at least one (R183). -/
def segmentCount (n : Nat) : Nat := max 1 ((n + Config.segmentBytes - 1) / Config.segmentBytes)

/-- The segment byte: the index in the lower seven bits, the top bit in the last segment (R183). -/
def segmentByte (i n : Nat) : Byte := BitVec.ofNat 8 i ||| (if i + 1 = n then 0x80#8 else 0#8)

/-- The body of segment `i` of a response: code, tag, result, segment byte and its data (R183). -/
def segmentBody (code tag : Byte) (r : Response) (i : Nat) : List Byte :=
  let data := r.data.bytes
  [code, tag, BitVec.ofNat 8 r.result.value, segmentByte i (segmentCount data.length)]
    ++ (data.drop (Config.segmentBytes * i)).take Config.segmentBytes

/-- The frames of a response, sent back to back (R183). -/
def responseFrames (code tag : Byte) (r : Response) : List (List Byte) :=
  (List.range (segmentCount r.data.bytes.length)).map fun i => frameOf (segmentBody code tag r i)

end Sys2Proof.Machine
end

