-- ==== Sys2Proof/Machine/Frames.lean ====
section
/-! DEFINITION. FRAME_BYTE_RECEIVED: assembling a frame byte by byte, and taking the complete one (R181, R182). -/

namespace Sys2Proof.Machine

/-- What a byte makes of a port's receive state (R181): it goes on receiving, or a frame with a good check is complete,
with this body. -/
inductive Received where
  | receiving (next : Receive)
  | complete (body : List Byte)
deriving DecidableEq, Repr

/-- The LEN of a partial frame: its second byte (R181). -/
def lenOf (bs : List Byte) : Option Nat :=
  match bs with
  | _ :: len :: _ => some len.toNat
  | _ => none

/-- The check of a whole frame of LEN `n`: over the LEN byte and the body (R181). -/
def checkGood (bs : List Byte) (n : Nat) : Bool :=
  let covered := (bs.drop 1).take (n + 1)
  (bs.drop (n + 2)).take 2 == bytes16 (crcOf covered)

/-- The partial frame `bs`, SYNC first and the new byte last, is judged (R181). -/
def judgeFrame (bs : List Byte) : Received :=
  match lenOf bs with
  | none => .receiving (.assembling bs)
  | some n =>
    if inRange 2 120 n = false then .receiving .hunting
    else if bs.length < n + 4 then .receiving (.assembling bs)
    else if checkGood bs n then .complete ((bs.drop 2).take n)
    else .receiving .hunting

/-- A byte reaches a port in its receive state (R181). -/
def Receive.take (r : Receive) (b : Byte) : Received :=
  match r with
  | .hunting => if b = syncByte then .receiving (.assembling [b]) else .receiving .hunting
  | .assembling bs => judgeFrame (bs ++ [b])

/-- The effect of the request that a complete frame carries: that of the request's own command (log 6). A command that
is no request comes in no frame. -/
def runRequest (i : Instr) (s : State) : Result :=
  match i with
  | .readStatus p tag => execReadStatus p tag s
  | .readNotices p tag => execReadNotices p tag s
  | .clearNotices p tag flags => execClearNotices p tag flags s
  | .setNotices p tag flags => execSetNotices p tag flags s
  | .setNoticeMask p tag mask => execSetNoticeMask p tag mask s
  | .configure p tag group index values => execConfigure p tag group index values s
  | .beginOperation p tag => execBeginOperation p tag s
  | .returnToConfigure p tag => execReturnToConfigure p tag s
  | .readRecipe p tag slot link => execReadRecipe p tag slot link s
  | .commitRecipe p tag slot content => execCommitRecipe p tag slot content s
  | .withdrawRecipe p tag slot => execWithdrawRecipe p tag slot s
  | .issueAuthorization p tag lane armSet slot revision limit customer expiry =>
    execIssueAuthorization p tag lane armSet slot revision limit customer expiry s
  | .revokeAuthorization p tag id => execRevokeAuthorization p tag id s
  | .listAuthorizations p tag lane => execListAuthorizations p tag lane s
  | .startLoad p tag arm authorization preset => execStartLoad p tag arm authorization preset s
  | .stopLoad p tag arm load => execStopLoad p tag arm load s
  | .amendLoad p tag load preset => execAmendLoad p tag load preset s
  | .holdLoad p tag arm load => execHoldLoad p tag arm load s
  | .releaseHold p tag arm load => execReleaseHold p tag arm load s
  | .resumeLoad p tag arm load => execResumeLoad p tag arm load s
  | .markCheckpoint p tag arm load checkpoint mode => execMarkCheckpoint p tag arm load checkpoint mode s
  | .clearCheckpoint p tag arm load checkpoint => execClearCheckpoint p tag arm load checkpoint s
  | .readLoad p tag selector value link => execReadLoad p tag selector value link s
  | .readDelivered p tag load => execReadDelivered p tag load s
  | .clearDelivered p tag load => execClearDelivered p tag load s
  | .clearStray p tag meter => execClearStray p tag meter s
  | .setHeaderCapacity p tag capacity => execSetHeaderCapacity p tag capacity s
  | .restoreStation p tag station => execRestoreStation p tag station s
  | .traceWindow p tag mode pageStart pageEnd columnStart columnEnd =>
    execTraceWindow p tag mode pageStart pageEnd columnStart columnEnd s
  | .traceRead p tag count => execTraceRead p tag count s
  | .powerOn _ _ _ _ _ _ => .next s
  | .secondsTick => .next s
  | .frameDiscard _ => .next s
  | .frameGapTimeout _ => .next s
  | .collision _ => .next s
  | .responseSent _ => .next s
  | .portBreak _ => .next s
  | .authExpired _ => .next s
  | .meterPulse _ => .next s
  | .noFlowTimeout _ => .next s
  | .settleTimeout _ => .next s
  | .holdTimeout _ => .next s
  | .shareWaitLong _ => .next s
  | .conversionComplete _ => .next s
  | .changeoverTimeout _ => .next s
  | .pollTimerExpiry _ => .next s
  | .shotTimeout _ => .next s
  | .busReply _ _ _ => .next s
  | .replyWindowClose => .next s
  | .esdAssert => .next s
  | .esdClear => .next s
  | .headerPermissiveLoss => .next s
  | .headerPermissiveRestore => .next s
  | .lanePermissiveLoss _ => .next s
  | .lanePermissiveRestore _ => .next s
  | .frameByteReceived _ _ => .next s
  | .badRequest _ _ _ _ => .next s
  | .commandFrameSent => .next s

/-- A complete frame is examined (R182): its first byte is the request code, its second the tag. -/
def takeFrame (p : Port) (body : List Byte) (s : State) : Result :=
  match body with
  | code :: tag :: params =>
    match decodeRequest p code tag params with
    | some i => runRequest i s
    | none => .next (s.takeBadRequest p code tag)
  | _ => .next s

/-- FRAME_BYTE_RECEIVED (R181): the byte joins the frame, and the frame that it completes is taken (R182, log 6). -/
def execFrameByteReceived (p : Port) (b : Byte) (s : State) : Result :=
  match (s.port p).receive.take b with
  | .receiving r => .next (s.modPort p fun x => { x with receive := r })
  | .complete body => takeFrame p body (s.discardFrame p)

end Sys2Proof.Machine
end

