-- ==== Sys2Proof/Machine/Dispatch.lean ====
section
/-! DEFINITION. One arm for each command: its meaning. -/

namespace Sys2Proof.Machine

/-- The effect of a command on everything but the queue. -/
def exec (i : Instr) (s : State) : Host.Outcome State Fault Refusal :=
  match i with
  | .powerOn esd header lane0 lane1 lane2 lane3 => Sys2Proof.Machine.execPowerOn esd header lane0 lane1 lane2 lane3 s
  | .secondsTick => Sys2Proof.Machine.execSecondsTick s
  | .frameDiscard p => Sys2Proof.Machine.execFrameDiscard p s
  | .frameGapTimeout p => Sys2Proof.Machine.execFrameGapTimeout p s
  | .collision p => Sys2Proof.Machine.execCollision p s
  | .responseSent p => Sys2Proof.Machine.execResponseSent p s
  | .portBreak p => Sys2Proof.Machine.execPortBreak p s
  | .readStatus p tag => Sys2Proof.Machine.execReadStatus p tag s
  | .readNotices p tag => Sys2Proof.Machine.execReadNotices p tag s
  | .clearNotices p tag flags => Sys2Proof.Machine.execClearNotices p tag flags s
  | .setNotices p tag flags => Sys2Proof.Machine.execSetNotices p tag flags s
  | .setNoticeMask p tag mask => Sys2Proof.Machine.execSetNoticeMask p tag mask s
  | .configure p tag group index values => Sys2Proof.Machine.execConfigure p tag group index values s
  | .beginOperation p tag => Sys2Proof.Machine.execBeginOperation p tag s
  | .returnToConfigure p tag => Sys2Proof.Machine.execReturnToConfigure p tag s
  | .readRecipe p tag slot link => Sys2Proof.Machine.execReadRecipe p tag slot link s
  | .commitRecipe p tag slot content => Sys2Proof.Machine.execCommitRecipe p tag slot content s
  | .withdrawRecipe p tag slot => Sys2Proof.Machine.execWithdrawRecipe p tag slot s
  | .issueAuthorization p tag lane armSet slot requiredRevision presetLimit customer expiry => Sys2Proof.Machine.execIssueAuthorization p tag lane armSet slot requiredRevision presetLimit customer expiry s
  | .revokeAuthorization p tag id => Sys2Proof.Machine.execRevokeAuthorization p tag id s
  | .listAuthorizations p tag lane => Sys2Proof.Machine.execListAuthorizations p tag lane s
  | .authExpired id => Sys2Proof.Machine.execAuthExpired id s
  | .startLoad p tag arm authorization preset => Sys2Proof.Machine.execStartLoad p tag arm authorization preset s
  | .stopLoad p tag arm load => Sys2Proof.Machine.execStopLoad p tag arm load s
  | .amendLoad p tag load preset => Sys2Proof.Machine.execAmendLoad p tag load preset s
  | .holdLoad p tag arm load => Sys2Proof.Machine.execHoldLoad p tag arm load s
  | .releaseHold p tag arm load => Sys2Proof.Machine.execReleaseHold p tag arm load s
  | .resumeLoad p tag arm load => Sys2Proof.Machine.execResumeLoad p tag arm load s
  | .markCheckpoint p tag arm load checkpoint mode => Sys2Proof.Machine.execMarkCheckpoint p tag arm load checkpoint mode s
  | .clearCheckpoint p tag arm load checkpoint => Sys2Proof.Machine.execClearCheckpoint p tag arm load checkpoint s
  | .readLoad p tag selector value link => Sys2Proof.Machine.execReadLoad p tag selector value link s
  | .readDelivered p tag load => Sys2Proof.Machine.execReadDelivered p tag load s
  | .clearDelivered p tag load => Sys2Proof.Machine.execClearDelivered p tag load s
  | .clearStray p tag meter => Sys2Proof.Machine.execClearStray p tag meter s
  | .setHeaderCapacity p tag capacity => Sys2Proof.Machine.execSetHeaderCapacity p tag capacity s
  | .restoreStation p tag station => Sys2Proof.Machine.execRestoreStation p tag station s
  | .traceWindow p tag mode pageStart pageEnd columnStart columnEnd => Sys2Proof.Machine.execTraceWindow p tag mode pageStart pageEnd columnStart columnEnd s
  | .traceRead p tag count => Sys2Proof.Machine.execTraceRead p tag count s
  | .meterPulse m => Sys2Proof.Machine.execMeterPulse m s
  | .noFlowTimeout a => Sys2Proof.Machine.execNoFlowTimeout a s
  | .settleTimeout a => Sys2Proof.Machine.execSettleTimeout a s
  | .holdTimeout a => Sys2Proof.Machine.execHoldTimeout a s
  | .shareWaitLong a => Sys2Proof.Machine.execShareWaitLong a s
  | .conversionComplete result => Sys2Proof.Machine.execConversionComplete result s
  | .changeoverTimeout st => Sys2Proof.Machine.execChangeoverTimeout st s
  | .pollTimerExpiry st => Sys2Proof.Machine.execPollTimerExpiry st s
  | .shotTimeout st => Sys2Proof.Machine.execShotTimeout st s
  | .busReply b0 b1 b2 => Sys2Proof.Machine.execBusReply b0 b1 b2 s
  | .replyWindowClose => Sys2Proof.Machine.execReplyWindowClose s
  | .esdAssert => Sys2Proof.Machine.execEsdAssert s
  | .esdClear => Sys2Proof.Machine.execEsdClear s
  | .headerPermissiveLoss => Sys2Proof.Machine.execHeaderPermissiveLoss s
  | .headerPermissiveRestore => Sys2Proof.Machine.execHeaderPermissiveRestore s
  | .lanePermissiveLoss lane => Sys2Proof.Machine.execLanePermissiveLoss lane s
  | .lanePermissiveRestore lane => Sys2Proof.Machine.execLanePermissiveRestore lane s
  | .frameByteReceived p b => Sys2Proof.Machine.execFrameByteReceived p b s
  | .badRequest p code tag params => Sys2Proof.Machine.execBadRequest p code tag params s
  | .commandFrameSent => Sys2Proof.Machine.execCommandFrameSent s

end Sys2Proof.Machine
end

