-- ==== Sys2Proof/Safety.lean ====
section
/-! DEFINITION. What the statements are about: the words of the statements (a request taken and answered, the frame of a
port, notices raised) and the invariants that every step keeps. -/

namespace Sys2Proof.Machine

/-! ## Words of the statements -/

/-- The port has no request to answer (R182). -/
def State.free (s : State) (p : Port) : Bool := !(s.port p).answer.isBusy

/-- The port has taken a request and its response is formed (R182): the rest of the port is as it was. -/
def State.answered (s : State) (p : Port) (rc : ReqCode) (tag : Byte) (r : Response) : State :=
  s.modPort p fun x => { x with receive := .hunting, answer := .busy rc.toByte tag (some r) }

/-- The port has taken a request that is answered later (R136, R182). -/
def State.taken (s : State) (p : Port) (rc : ReqCode) (tag : Byte) : State :=
  s.modPort p fun x => { x with receive := .hunting, answer := .busy rc.toByte tag none }

/-- The response that stands formed at a port, if one does. -/
def State.response? (s : State) (p : Port) : Option Response :=
  match (s.port p).answer with
  | .busy _ _ r => r
  | .free => none

/-- Whether a port's flag for the notice is set. -/
def State.flagged (s : State) (p : Port) (n : Notice) : Bool := (s.port p).flags.getLsbD n.bit

/-- The state after a complete frame has met a BUSY port: its COLLISION flag, bit 5 of R186, is set, its line follows,
and nothing else has changed (R182, R187). -/
def State.collided (s : State) (p : Port) : State :=
  s.modPort p fun x =>
    { x with
      receive := .hunting
      flags := x.flags ||| 0x0020#16
      attention := ((x.flags ||| 0x0020#16) &&& x.mask) != 0#16 }

/-- OK with its data. -/
def okay (d : ResponseData) : Response := { result := .ok, data := d }

/-- A refusal without data. -/
def refused (c : ResultCode) : Response := { result := c, data := .none }

/-- BAD_FIELD with a field or parameter number and the absent marker as index. -/
def badFieldAt (n : Nat) : Response := { result := .badField, data := .badField n none }

/-- The two states agree on all that the progress of loads does not reach: everything but arms, header, stations, bus,
trace pages, delivered list, reservations, meters and the ports' notices and answers. -/
structure State.SameOutsideLoads (s t : State) : Prop where
  mode : t.mode = s.mode
  recipes : t.recipes = s.recipes
  queues : t.queues = s.queues
  authCounter : t.authCounter = s.authCounter
  probes : t.probes = s.probes
  scan : t.scan = s.scan
  settings : t.settings = s.settings
  loadCounter : t.loadCounter = s.loadCounter
  seconds : t.seconds = s.seconds
  freeCount : t.freeCount = s.freeCount
  pending : t.pending = s.pending

/-- The two states moreover agree on the meters, the delivered list and the reservations. -/
structure State.SameOutsideArms (s t : State) : Prop extends s.SameOutsideLoads t where
  meters : t.meters = s.meters
  delivered : t.delivered = s.delivered
  reservations : t.reservations = s.reservations

/-- The load of an arm is the one that a port names: the arm is one of the port's, and the number is the load's or 0
(R52, R142, R143). -/
def State.names (s : State) (p : Port) (a : Fin 8) (n : Word24) (l : Load) : Prop :=
  (p.isTerminal = true ∨ p = .lp (laneOf a)) ∧ s.load? a = some l ∧ (n.toNat = 0 ∨ n.toNat = l.data.number)

/-- An arm's number as the byte of a parameter. -/
def armByte (a : Fin 8) : Byte := BitVec.ofNat 8 a.val

/-- The set of the notices' ports: both terminals and the lane's own port (R186). -/
def lanePorts (l : Fin 4) : List Port := [.ta, .tb, .lp l]

/-- The flag of a notice is set on some ports, and on every other port it is as it was (R186). -/
def State.raisedOn (s t : State) (n : Notice) (ps : List Port) : Prop :=
  (∀ p ∈ ps, t.flagged p n = true) ∧ ∀ p, p ∉ ps → t.flagged p n = s.flagged p n

/-- The ports after a notice has been raised on some of them: there its flag is set and the line follows, and nothing else
of any port has changed (R186, R187). -/
def State.portsRaised (s t : State) (n : Notice) (ps : List Port) : Prop :=
  (∀ p ∈ ps, t.port p =
    { s.port p with
      flags := (s.port p).flags ||| n.set
      attention := (((s.port p).flags ||| n.set) &&& (s.port p).mask) != 0#16 }) ∧
  ∀ p, p ∉ ps → t.port p = s.port p

/-- A load has left HELD between two states since its last cause has left the set (R59): the arm is in state `x` with its
hold timer stopped, the load holds no cause and no resume phase, its checkpoint flags are the ones given, its revision has
advanced by one, and the port's response says so (R142). -/
structure State.leftHeld (s t : State) (p : Port) (a : Fin 8) (l m : Load) (f0 f1 : Bool) (x : ArmState) : Prop where
  load : t.load? a = some m
  state : (t.arm a).state = x
  hold : (t.arm a).hold = .stopped
  causes : m.data.causes = {}
  resume : m.resume = none
  flags : m.data.flag0 = f0 ∧ m.data.flag1 = f1
  revision : m.data.revision = if 65535 ≤ l.data.revision then 1 else l.data.revision + 1
  response : t.response? p = some (okay (.held l.data.number x {}))
  elsewhere : s.SameOutsideArms t

/-- An arm that has just entered CLOSING: both valves shut, the settle timer started in full and no shares held (R63). -/
structure State.closingBegun (t : State) (a : Fin 8) : Prop where
  main : (t.arm a).mainOpening = 0
  ethanol : (t.arm a).ethanolOpening = 0
  settle : (t.arm a).settle = .running (t.settings.settleTenths * 100)
  shares : t.header.sharesOf a = 0

/-! ## Words about a load in its cycle -/

/-- The data of a load with its pending amendment applied, if it has one: its preset is the pending one, with the points of
R40 derived from it (R57). -/
def Load.amendedData (l : Load) : LoadData :=
  match l.data.pending with
  | none => l.data
  | some q =>
    { l.data with
      preset := q
      pending := none
      blendSpan := q - l.recipe.flushVolume - l.recipe.primeVolume
      flushPoint := q - l.recipe.flushVolume
      taperPoint := q - l.recipe.flushVolume - l.recipe.taperVolume
      ethanolTarget := l.recipe.ratio * q / 1000 }

/-- A pending amendment of the first load is applied in the second, and without one the points have stayed (R57). -/
structure Load.amendmentApplied (l m : Load) : Prop where
  pending : m.data.pending = none
  preset : m.data.preset = l.amendedData.preset
  blendSpan : m.data.blendSpan = l.amendedData.blendSpan
  flushPoint : m.data.flushPoint = l.amendedData.flushPoint
  taperPoint : m.data.taperPoint = l.amendedData.taperPoint
  ethanolTarget : m.data.ethanolTarget = l.amendedData.ethanolTarget

/-- An arm whose load has been sent into a cut flush at volume `v` with flush end `e` (R50, R51): it flushes exactly where
the end lies above `v`, and has passed through FLUSH into CLOSING where it does not. -/
structure State.cutFlushed (t : State) (a : Fin 8) (l m : Load) (v e : Nat) : Prop where
  flush : v < e → (t.arm a).state = .flush ∧ (t.arm a).mainOpening = l.recipe.taperEndOpening ∧
    (t.arm a).noFlow = .running (t.settings.noFlowSeconds * 1000) ∧ m.flushEnd = some e ∧ m.flushKind = some .cut
  closing : e ≤ v → (t.arm a).state = .closing ∧ (t.arm a).mainOpening = 0 ∧
    (t.arm a).settle = .running (t.settings.settleTenths * 100)
  ethanol : (t.arm a).ethanolOpening = 0
  shares : t.header.sharesOf a = 0

/-- The flush end of a cut flush of a load at volume `v`: the lower of V + F and P, and of a pending P applied on entry (R50,
R57). -/
def Load.cutEnd (l : Load) (v : Nat) : Nat :=
  min (min (v + l.recipe.flushVolume) l.data.preset) (l.data.pending.getD l.data.preset)

/-- The main opening, `x` before and `y` after a tick that brings V to `v` in TAPER: at a step's volume the lower of the
step's opening and the present one, elsewhere the present one (R48). -/
def Recipe.taperStepTaken (r : Recipe) (taperPoint v x y : Nat) : Prop :=
  (∀ j, 1 ≤ j → j ≤ r.taperSteps → v = taperPoint + (j - 1) * r.taperVolume / r.taperSteps →
    (∀ i, 1 ≤ i → i < j → v ≠ taperPoint + (i - 1) * r.taperVolume / r.taperSteps) →
    y = min (r.fullOpening - (r.fullOpening - r.taperEndOpening) * j / r.taperSteps) x) ∧
  ((∀ j, 1 ≤ j → j ≤ r.taperSteps → v ≠ taperPoint + (j - 1) * r.taperVolume / r.taperSteps) → y = x)

/-- A tick of a blending load meets nothing but its volume: V stays below the preset's points to come, at no trim point and
below every shot boundary. -/
def State.quietBlending (s : State) (a : Fin 8) (l : Load) : Prop :=
  (s.arm a).state.isBlending = true ∧ l.data.product + 1 < l.data.flushPoint ∧
  l.nextTrim ≠ some (l.data.product + 1) ∧
  ∀ x ∈ l.lines, ∀ b, x.nextBoundary = some b → l.data.product + 1 < b

/-! ## Words about the checkpoints of a load -/

/-- What recipe entry `n` does at an event (R149): `hit` says that it matches with its flag clear, `halts` that it moreover is
in mode HALT. -/
def Load.entryAnswers (l : Load) (ev : EventKind) (n : Nat) (flag hit halts : Bool) : Prop :=
  (hit = true ↔ ∃ e, l.recipe.checkpoints[n]? = some e ∧ e.event = ev ∧ flag = false) ∧
  (halts = true ↔ ∃ e, l.recipe.checkpoints[n]? = some e ∧ e.event = ev ∧ flag = false ∧ e.mode = .halt)

/-- A checkpoint event has fired for the load of an arm that it finds in state `x` (R149): the flags of the entries hit are
set and CHECKPOINT is raised; with a HALT entry its cause joins the set, and an arm not in HELD enters HELD with resume phase
`x` (R58). The revision has advanced once if anything of R15 has changed. -/
structure State.eventFired (s t : State) (a : Fin 8) (l k : Load) (x : ArmState) (hit0 hit1 halt0 halt1 : Bool) : Prop where
  load : t.load? a = some k
  flags : k.data.flag0 = (l.data.flag0 || hit0) ∧ k.data.flag1 = (l.data.flag1 || hit1)
  notice : (hit0 || hit1) = true → ∀ q ∈ lanePorts (laneOf a), t.flagged q .checkpoint = true
  causes : k.data.causes =
    { l.data.causes with
      checkpoint0 := l.data.causes.checkpoint0 || halt0, checkpoint1 := l.data.causes.checkpoint1 || halt1 }
  revision : k.data.revision =
    if (hit0 || hit1) = true ∨ x ≠ (s.arm a).state then (if 65535 ≤ l.data.revision then 1 else l.data.revision + 1)
    else l.data.revision
  stays : (halt0 || halt1) = false → (t.arm a).state = x ∧ k.data.pending = l.data.pending ∧
    s.portsRaised t .checkpoint (if (hit0 || hit1) = true then lanePorts (laneOf a) else [])
  halts : (halt0 || halt1) = true → (t.arm a).state = .held
  entered : (halt0 || halt1) = true → x ≠ .held → (t.arm a).mainOpening = 0 ∧ (t.arm a).ethanolOpening = 0 ∧
    (t.arm a).noFlow = .stopped ∧ (t.arm a).hold = .running (s.settings.holdMinutes * 60000) ∧ k.resume = x.toResume ∧
    t.header.sharesOf a = 0 ∧ l.amendmentApplied k

/-! ## Words about the additive line of a load -/

/-- What a line of an arm's load owes is what R119 sums up: the arm's one entry at the line's station, which names the line,
the kept shots, and a shot in flight whose entry has been withdrawn. -/
structure State.owedSums (s : State) (a : Fin 8) (i : Nat) (y : Line) : Prop where
  entryOnce : ((s.station y.counts.station).queue.filter fun e => e.arm == a).length ≤ 1
  entryLine : ∀ e ∈ (s.station y.counts.station).queue, e.arm = a → e.line = i
  shotLine : ∀ sh, s.shotOf y.counts.station = some sh → sh.arm = a →
    sh.line = i ∧ (sh.standing = .inEntry → 1 ≤ s.entryOwed y.counts.station a)
  sum : y.counts.owed = s.entryOwed y.counts.station a + y.kept +
    match s.shotOf y.counts.station with
    | some sh => if sh.arm = a ∧ sh.standing = .withdrawn then 1 else 0
    | none => 0

/-- How many shots of an arm's load a station fault leaves unconfirmed: its shot in flight there, unless it is DETACHED
(R134). -/
def State.unconfirmedBy (s : State) (st : Fin 4) (a : Fin 8) : Nat :=
  match s.shotOf st with
  | some sh => if sh.arm = a ∧ sh.standing ≠ .detached then 1 else 0
  | none => 0

/-- A load has a required line on a station that is not SKIPPED (R134). -/
def Load.hasRequired (l : Load) (st : Fin 4) : Prop :=
  ∃ (i : Nat) (y : Line) (k : RecipeLine), l.lines[i]? = some y ∧ l.recipe.lines[i]? = some k ∧ y.counts.station = st ∧
    y.counts.skipped = false ∧ k.required = true

/-- An arm waits for no shares. -/
def State.notListed (s : State) (a : Fin 8) : Prop := ∀ w ∈ s.header.wait, w.arm ≠ a

/-- A station has entered FAULT between two states (R134, R135): its own items 1 to 3; item 4 and the counts of each line
whose owed shots stand as R119 says; item 5 on the loads with a required line; nothing in the arms of the others; the
end of the wait of R64; item 6. -/
structure State.stationFaulted (s t : State) (st : Fin 4) : Prop where
  state : (t.station st).state = .fault
  queue : (t.station st).queue = []
  request : (t.station st).request = false
  shot : (t.station st).shot = none
  timers : (t.station st).changeover = .stopped ∧ (t.station st).poll = .stopped ∧ (t.station st).shotTimer = .stopped
  manifold : (t.station st).manifold = (s.station st).manifold
  notice : t.flagged .ta .station = true ∧ t.flagged .tb .station = true
  counts : ∀ a l i y m, s.load? a = some l → l.lines[i]? = some y → y.counts.station = st → y.counts.skipped = false →
    s.owedSums a i y → t.load? a = some m →
      ∃ z, m.lines[i]? = some z ∧ z.kept = 0 ∧
        z.counts =
          { y.counts with
            unconfirmed := y.counts.unconfirmed + s.unconfirmedBy st a
            missed := y.counts.missed + (y.counts.owed - s.unconfirmedBy st a)
            owed := 0 }
  blending : ∀ a l, s.load? a = some l → l.hasRequired st → (s.arm a).state.isBlending = true →
    ∃ m, t.load? a = some m ∧ t.cutFlushed a l m l.data.product (l.cutEnd l.data.product) ∧ l.amendmentApplied m ∧
      m.data.faults.additiveFault = true ∧ m.endDue = some (l.endDue.getD .additiveFault)
  required : ∀ a l, s.load? a = some l → l.hasRequired st → (s.arm a).state.isBlending = false →
    (s.arm a).state ≠ .closing →
      ∃ m, t.load? a = some m ∧ m.data.faults.additiveFault = true ∧ (s.notListed a → m.endDue = l.endDue ∧
        (t.arm a).state = (s.arm a).state ∧ t.header.sharesOf a = s.header.sharesOf a)
  optional : ∀ a l, s.load? a = some l → ¬ l.hasRequired st → (s.arm a).state ≠ .closing → s.notListed a →
    (t.arm a).state = (s.arm a).state ∧ (t.arm a).mainOpening = (s.arm a).mainOpening ∧
      (t.arm a).ethanolOpening = (s.arm a).ethanolOpening ∧ t.header.sharesOf a = s.header.sharesOf a ∧
      ∃ m, t.load? a = some m ∧ m.data.faults = l.data.faults ∧ m.endDue = l.endDue
  completed : ∀ a l, s.load? a = some l → (s.arm a).state = .closing → (s.arm a).settle = .expired →
    (∀ k, k ≠ st → ∀ sh, s.shotOf k = some sh → sh.countsTo a l.data.number = false) → t.load? a = none
  elsewhere : s.SameOutsideLoads t

/-! ## Words about the injector bus -/

/-- The station that the arbiter finds among those asking: the first from the one after the pointer, from station 3 round
to station 0 (R138). -/
def firstAsking (pointer : Fin 4) (asks : Fin 4 → Bool) (d : Fin 4) : Prop :=
  asks d = true ∧ ∀ e, asks e = true → d - (pointer + 1) ≤ e - (pointer + 1)

/-- The frame that a station granted the bus has formed: SHOT or SELECT for its head entry when it is IDLE (R125), POLL in
SHOOTING (R128), the CLEAR of its restore in FAULT (R136). -/
structure State.frameFormed (t : State) (d : Fin 4) : Prop where
  own : ∀ y, t.bus.txn = some y → y.station = d ∧ y.phase = .sending ∧ y.discarded = false
  head : ∀ e rest, (t.station d).state = .idle → (t.station d).queue = e :: rest →
    ∃ y, t.bus.txn = some y ∧ y.arm = e.arm ∧ y.kind = if (t.station d).manifold = some e.arm then .shot else .select
  poll : ∀ sh, (t.station d).state = .shooting → (t.station d).shot = some sh →
    ∃ y, t.bus.txn = some y ∧ y.kind = .poll ∧ y.arm = sh.arm
  clear : (t.station d).state = .fault → (t.station d).restore ≠ none → ∃ y, t.bus.txn = some y ∧ y.kind = .clear

/-- The bus after a transaction has ended while these stations ask (R138, R139): it is free where none asks; otherwise the
first asking one after the pointer is granted and its frame formed, and the others go on asking. -/
def State.busHandedOn (s t : State) (asks : Fin 4 → Bool) : Prop :=
  ((∀ k, asks k = false) → t.bus = { pointer := s.bus.pointer, txn := none }) ∧
  ∀ d, firstAsking s.bus.pointer asks d →
    t.bus.pointer = d ∧ t.frameFormed d ∧ ∀ k, (t.station k).request = (decide (k ≠ d) && asks k)

/-- The stations that ask, one of them standing anew. -/
def State.asksWith (s : State) (st : Fin 4) (b : Bool) (k : Fin 4) : Bool :=
  if k = st then b else (s.station k).request

/-! ## Invariants -/

/-- Every attention line is as R187 says. -/
def State.attentionRight (s : State) : Prop :=
  ∀ p : Port, (s.port p).attention = attentionOf (s.port p).flags (s.port p).mask

/-- No port holds or enables a flag that its class does not hold (R186). -/
def State.flagsInClass (s : State) : Prop :=
  ∀ p : Port, (s.port p).flags &&& ~~~(classFlags p) = 0#16 ∧ (s.port p).mask &&& ~~~(classFlags p) = 0#16

/-- A read window's pointer lies within its ranges (R176, R179). -/
def TraceWindow.inside (w : TraceWindow) : Prop :=
  w.pageStart ≤ w.pointerPage ∧ w.pointerPage ≤ w.pageEnd ∧ w.columnStart ≤ w.pointerColumn ∧
    w.pointerColumn ≤ w.columnEnd

/-- Every port's pointer lies within its window (R179). -/
def State.pointersInside (s : State) : Prop := ∀ p : Port, (s.port p).window.inside

/-- V is G plus E (R39, R160). -/
def LoadData.volumesAdd (d : LoadData) : Prop := d.product = d.gasoline + d.ethanol

/-- V is G plus E in every active and every delivered record. -/
def State.volumesAdd (s : State) : Prop :=
  (∀ a l, s.load? a = some l → l.data.volumesAdd) ∧ ∀ r ∈ s.delivered, r.data.volumesAdd

/-- The due shots of a line are the delivered, owed, missed and unconfirmed ones together (R119, R160). -/
def LineRecord.balanced (c : LineRecord) : Prop := c.due = c.delivered + c.owed + c.missed + c.unconfirmed

/-- Every line of every active and every delivered record is balanced. -/
def State.linesBalanced (s : State) : Prop :=
  (∀ a l, s.load? a = some l → ∀ x ∈ l.lines, x.counts.balanced) ∧
    ∀ r ∈ s.delivered, ∀ c ∈ r.lines, c.balanced

/-- The valves are shut as R37 says: ethanol outside the blending phases, the main valve outside the flowing states. -/
def Arm.valvesRight (x : Arm) : Prop :=
  (x.state.isBlending = false → x.ethanolOpening = 0) ∧ (x.state.isFlowing = false → x.mainOpening = 0)

/-- The valves of every arm are shut as R37 says. -/
def State.valvesRight (s : State) : Prop := ∀ a, (s.arm a).valvesRight

/-- An arm has an active load exactly while it is not IDLE (R36). -/
def State.loadsRight (s : State) : Prop := ∀ a, (s.load? a).isSome = true ↔ (s.arm a).state ≠ .idle

/-- In CONFIGURE mode every arm is IDLE (R188), an arm without a load being IDLE and one with a load not (R36). -/
def State.configureIdle (s : State) : Prop :=
  s.loadsRight ∧ (s.mode = .configure → ∀ a, (s.arm a).state = .idle)

/-- The Header Allocator is as R104 says. The shares in use are the sum of the grants and at most the capacity; an arm
holds at most one grant and one place on the wait list; exactly the arms in a blending phase whose load has a share count
hold a grant, of that count, and exactly the arms in SHARE_WAIT are on the list, asking for theirs. Between two commands the
head does not fit the free shares, or it would have been served (R106), and with the permissive lost there is no grant and
no one waits (R113). -/
structure State.headerRight (s : State) : Prop where
  inUse : s.header.inUse = (s.header.grants.map Grant.shares).sum
  fits : s.header.inUse ≤ s.header.capacity
  grantedOnce : (s.header.grants.map Grant.arm).Nodup
  listedOnce : (s.header.wait.map Waiter.arm).Nodup
  granted : ∀ g ∈ s.header.grants, (s.arm g.arm).state.isBlending = true ∧
    ∃ l, s.load? g.arm = some l ∧ g.shares = l.recipe.shareCount ∧ 0 < g.shares
  blending : ∀ a l, s.load? a = some l → (s.arm a).state.isBlending = true → 0 < l.recipe.shareCount →
    ∃ g ∈ s.header.grants, g.arm = a
  listed : ∀ w ∈ s.header.wait, (s.arm w.arm).state = .shareWait ∧
    ∃ l, s.load? w.arm = some l ∧ w.shares = l.recipe.shareCount ∧ 0 < w.shares
  waiting : ∀ a, (s.arm a).state = .shareWait → ∃ w ∈ s.header.wait, w.arm = a
  headBlocked : ∀ w rest, s.header.wait = w :: rest → s.header.capacity < s.header.inUse + w.shares
  lost : s.trips.header = false → s.header.grants = [] ∧ s.header.wait = []

/-- No trace page holds more than 64 records (R174). -/
def State.pagesBounded (s : State) : Prop := ∀ a, (s.page a).records.length ≤ Config.traceDepth

/-- No lane queue holds more than six authorizations (R21). -/
def State.queuesBounded (s : State) : Prop := ∀ l, (s.queue l).length ≤ Config.laneQueueLimit

/-- A divider lies from 1 to the K-factor, and a net remainder below 10000 (R86). -/
def Meter.right (x : Meter) : Prop := 1 ≤ x.divider ∧ x.divider ≤ x.kFactor ∧ x.remainder < 10000

/-- Every meter is as R86 says. -/
def State.metersRight (s : State) : Prop := ∀ m, (s.meter m).right

/-- A stray counter at or past the threshold is silent: it has raised its notice, or a lowered threshold has met or passed it
(R90, log 13). The threshold is at least 1 (R93). -/
def State.straySilent (s : State) : Prop :=
  1 ≤ s.settings.strayThreshold ∧ ∀ m, s.settings.strayThreshold ≤ (s.meter m).stray → (s.meter m).silent = true

end Sys2Proof.Machine
end

