-- ==== Sys2Proof/WellFormed.lean ====
section
/-! DEFINITION. The commands that stand for something the LBC-8 can meet. The types of the operands already bound
arms, meters, stations and lanes; what is left is the lengths of bodies and the meaning of a bad body. -/

namespace Sys2Proof

/-- A command is well formed when its operands can occur: a content block has 58 bytes (R192), a CONFIGURE has the
values of its group and fits a frame body of 120 bytes (R181, R193), a BAD_REQUEST is not a request (R182) and fits a
frame, and an authorization id fits its field (R20). -/
def Instr.wellFormed : Instr → Bool
  | .commitRecipe _ _ _ content => content.length == contentBytes
  | .configure _ _ group _ values => configureLengthOk group values && decide (values.length ≤ 116)
  | .badRequest p code tag params => (decodeRequest p code tag params).isNone && decide (params.length ≤ 118)
  | .authExpired id => decide (1 ≤ id) && decide (id ≤ 65535)
  | .powerOn _ _ _ _ _ _ => true
  | .secondsTick => true
  | .frameDiscard _ => true
  | .frameGapTimeout _ => true
  | .collision _ => true
  | .responseSent _ => true
  | .portBreak _ => true
  | .readStatus _ _ => true
  | .readNotices _ _ => true
  | .clearNotices _ _ _ => true
  | .setNotices _ _ _ => true
  | .setNoticeMask _ _ _ => true
  | .beginOperation _ _ => true
  | .returnToConfigure _ _ => true
  | .readRecipe _ _ _ _ => true
  | .withdrawRecipe _ _ _ => true
  | .issueAuthorization _ _ _ _ _ _ _ _ _ => true
  | .revokeAuthorization _ _ _ => true
  | .listAuthorizations _ _ _ => true
  | .startLoad _ _ _ _ _ => true
  | .stopLoad _ _ _ _ => true
  | .amendLoad _ _ _ _ => true
  | .holdLoad _ _ _ _ => true
  | .releaseHold _ _ _ _ => true
  | .resumeLoad _ _ _ _ => true
  | .markCheckpoint _ _ _ _ _ _ => true
  | .clearCheckpoint _ _ _ _ _ => true
  | .readLoad _ _ _ _ _ => true
  | .readDelivered _ _ _ => true
  | .clearDelivered _ _ _ => true
  | .clearStray _ _ _ => true
  | .setHeaderCapacity _ _ _ => true
  | .restoreStation _ _ _ => true
  | .traceWindow _ _ _ _ _ _ _ => true
  | .traceRead _ _ _ => true
  | .meterPulse _ => true
  | .noFlowTimeout _ => true
  | .settleTimeout _ => true
  | .holdTimeout _ => true
  | .shareWaitLong _ => true
  | .conversionComplete _ => true
  | .changeoverTimeout _ => true
  | .pollTimerExpiry _ => true
  | .shotTimeout _ => true
  | .busReply _ _ _ => true
  | .replyWindowClose => true
  | .esdAssert => true
  | .esdClear => true
  | .headerPermissiveLoss => true
  | .headerPermissiveRestore => true
  | .lanePermissiveLoss _ => true
  | .lanePermissiveRestore _ => true
  | .frameByteReceived _ _ => true
  | .commandFrameSent => true

end Sys2Proof
end

