-- ==== Sys2Proof/Certificates/Slice0/Obligations.lean ====
section
/-! DEFINITION. The statements for the provers. -/

open Sys2Proof Sys2Proof.Machine

/-! ## The step, reset, power-on and time -/

/-- A step takes the command at the front of the queue and runs exec on the queue's rest; with an empty queue it idles
(the queue and the idling are the model's choice, log 1). -/
def Obligations.StepRunsFrontCommand : Prop :=
  (∀ (s : State) (c : Instr) (rest : List Instr), s.pending = c :: rest → step s = exec c { s with pending := rest }) ∧
  ∀ s : State, s.pending = [] → step s = .next s

/-- POWER_ON sets every item to its value at reset and takes the six trip states from the inputs; the waiting commands
and the model's own counter stay (log 1, the model's choice). Reset leaves CONFIGURE mode, every arm disabled and IDLE,
every meter, probe channel and station disabled, no counter silent (log 13), the scan idle, the configuration items at their power-on values, every
recipe slot EMPTY at revision 0, every list empty, no port BUSY, no flag set, no link and every read window at its power-on
value. -/
def Obligations.PowerOnLeavesResetValues : Prop :=
  (∀ (esd header l0 l1 l2 l3 : Bool) (s : State),
    exec (.powerOn esd header l0 l1 l2 l3) s =
      .next { State.reset with
        trips := { esd := esd, header := header, lanes := #v[l0, l1, l2, l3] }
        pending := s.pending
        freeCount := s.freeCount }) ∧
  State.reset.mode = .configure ∧
  (∀ a, State.reset.arm a =
    { enable := false, state := .idle, mainOpening := 0, ethanolOpening := 0, noFlow := .stopped, settle := .stopped,
      hold := .stopped, load := none }) ∧
  (∀ m, State.reset.meter m = { enable := false, kFactor := 1, divider := 1, stray := 0, remainder := 0, silent := false }) ∧
  (∀ c, State.reset.probe c = { enable := false, reading := 0, condition := .off }) ∧
  State.reset.scan = none ∧
  State.reset.settings =
    { noFlowSeconds := 10, settleTenths := 20, holdMinutes := 30, shareWaitSeconds := 0, overrunLimit := 50,
      strayThreshold := 20, laneEnable := #v[false, false, false, false],
      gasolineTable := Vector.replicate 17 10000, ethanolTable := Vector.replicate 17 10000 } ∧
  (∀ st, State.reset.station st =
    { state := .off, manifold := none, queue := [], request := false, shot := none, changeover := .stopped,
      poll := .stopped, shotTimer := .stopped, failures := 0, lowLevel := false, restore := none, reach := 0#8,
      changeoverMs := 500, shotTimeoutMs := 2000 }) ∧
  (∀ k, State.reset.slot k = { revision := 0, content := none }) ∧
  (∀ l, State.reset.queue l = []) ∧
  (∀ a, State.reset.page a = { records := [], nextSequence := 0 }) ∧
  State.reset.header = { capacity := 0, inUse := 0, grants := [], wait := [] } ∧
  State.reset.bus = { pointer := 3, txn := none } ∧
  State.reset.delivered = [] ∧ State.reset.reservations = 0 ∧ State.reset.seconds = 0 ∧
  State.reset.authCounter = 1 ∧ State.reset.loadCounter = 1 ∧
  (∀ p : Port, (State.reset.port p).receive = .hunting ∧ (State.reset.port p).answer = .free ∧
    (State.reset.port p).flags = 0#16 ∧ (State.reset.port p).mask = classFlags p ∧
    (State.reset.port p).attention = false ∧ (State.reset.port p).link = none ∧
    (State.reset.port p).window =
      { mode := .page, pageStart := 0, pageEnd := 7, columnStart := 0, columnEnd := 63, pointerPage := 0,
        pointerColumn := 0 })

/-- SECONDS_TICK advances the device seconds counter, which saturates, and nothing else of the controller's. The age of
every queued authorization, which advances too, is the model's own count (log 29, the model's choice). -/
def Obligations.SecondsTickAdvances : Prop :=
  ∀ s : State, ∃ t, exec .secondsTick s = .next t ∧
    t.seconds = (if s.seconds < 4294967295 then s.seconds + 1 else 4294967295) ∧
    (∀ l, t.queue l = (s.queue l).map fun x => { x with elapsed := x.elapsed + 1 }) ∧
    { t with seconds := s.seconds, queues := s.queues } = s

/-! ## Ports and frames -/

/-- A discard and a gap leave the port HUNTING; a formed response that has been sent leaves it FREE; a break leaves it
HUNTING with no link and the read window at its power-on value. Each changes nothing else. -/
def Obligations.PortLineEvents : Prop :=
  ∀ (p : Port) (s : State),
    exec (.frameDiscard p) s = .next (s.modPort p fun x => { x with receive := .hunting }) ∧
    exec (.frameGapTimeout p) s = .next (s.modPort p fun x => { x with receive := .hunting }) ∧
    (∀ code tag r, (s.port p).answer = .busy code tag (some r) →
      exec (.responseSent p) s = .next (s.modPort p fun x => { x with answer := .free })) ∧
    exec (.portBreak p) s =
      .next (s.modPort p fun x =>
        { x with
          receive := .hunting
          link := none
          window :=
            { mode := .page, pageStart := 0, pageEnd := 7, columnStart := 0, columnEnd := 63, pointerPage := 0,
              pointerColumn := 0 } })

/-- A complete frame at a BUSY port raises COLLISION on that port and changes nothing else; so every request that reaches
a BUSY port has no effect of its own. -/
def Obligations.FrameAtBusyPortCollides : Prop :=
  (∀ (p : Port) (s : State), s.free p = false → exec (.collision p) s = .next (s.collided p)) ∧
  ∀ (i : Instr) (p : Port) (rc : ReqCode) (tag : Byte) (params : List Byte) (s : State),
    i.wellFormed = true → encodeRequest i = some (p, rc, tag, params) → s.free p = false →
      exec i s = .next (s.collided p)

/-- A request that the port's class may not issue is answered NOT_PERMITTED and reaches no block; a conditional one still
clears the port's link. -/
def Obligations.RequestFromWrongClassRefused : Prop :=
  ∀ (i : Instr) (p : Port) (rc : ReqCode) (tag : Byte) (params : List Byte) (s : State),
    i.wellFormed = true → encodeRequest i = some (p, rc, tag, params) → s.free p = true → p.mayIssue rc = false →
      exec i s =
        .next ((if rc.conditional then s.modPort p fun x => { x with link := none } else s).answered p rc tag
          (refused .notPermitted))

/-- A body that is no request is answered BAD_REQUEST at a FREE port; under the code of a conditional request (COMMIT
RECIPE, WITHDRAW RECIPE, AMEND LOAD) it clears the port's link. Nothing else changes. -/
def Obligations.BadRequestAnswered : Prop :=
  ∀ (p : Port) (code tag : Byte) (params : List Byte) (s : State),
    s.free p = true → decodeRequest p code tag params = none →
      exec (.badRequest p code tag params) s =
        .next (s.modPort p fun x =>
          { x with
            receive := .hunting
            answer := .busy code tag (some (refused .badRequest))
            link := if code = 0x11#8 ∨ code = 0x12#8 ∨ code = 0x22#8 then none else x.link })

/-- A byte at a HUNTING port is disregarded unless it is SYNC, which begins a frame; a LEN outside 2 to 120 and a bad check
discard the frame; every byte between joins the partial frame; the byte that completes the frame of a request with its good
check runs that request. The byte that completes a good frame whose body is no request does what BAD_REQUEST does: at a FREE
port it is answered so. -/
def Obligations.FrameByteAssembles : Prop :=
  (∀ (p : Port) (b : Byte) (s : State), (s.port p).receive = .hunting → b ≠ 0xC3#8 →
    exec (.frameByteReceived p b) s = .next s) ∧
  (∀ (p : Port) (s : State), (s.port p).receive = .hunting →
    exec (.frameByteReceived p 0xC3#8) s =
      .next (s.modPort p fun x => { x with receive := .assembling [0xC3#8] })) ∧
  (∀ (p : Port) (b : Byte) (s : State), (s.port p).receive = .assembling [0xC3#8] → (b.toNat < 2 ∨ 120 < b.toNat) →
    exec (.frameByteReceived p b) s = .next (s.modPort p fun x => { x with receive := .hunting })) ∧
  (∀ (p : Port) (len hi lo : Byte) (body : List Byte) (s : State), 2 ≤ len.toNat → len.toNat ≤ 120 →
    body.length = len.toNat → (s.port p).receive = .assembling (0xC3#8 :: len :: body ++ [hi]) →
    [hi, lo] ≠ bytes16 (crcOf (len :: body)) →
    exec (.frameByteReceived p lo) s = .next (s.modPort p fun x => { x with receive := .hunting })) ∧
  (∀ (p : Port) (len : Byte) (s : State), (s.port p).receive = .assembling [0xC3#8] → 2 ≤ len.toNat → len.toNat ≤ 120 →
    exec (.frameByteReceived p len) s =
      .next (s.modPort p fun x => { x with receive := .assembling [0xC3#8, len] })) ∧
  (∀ (p : Port) (len b : Byte) (body : List Byte) (s : State), 2 ≤ len.toNat → len.toNat ≤ 120 →
    body.length ≤ len.toNat → (s.port p).receive = .assembling (0xC3#8 :: len :: body) →
    exec (.frameByteReceived p b) s =
      .next (s.modPort p fun x => { x with receive := .assembling (0xC3#8 :: len :: body ++ [b]) })) ∧
  (∀ (p : Port) (code tag : Byte) (params before : List Byte) (last : Byte) (s : State), params.length ≤ 118 →
    decodeRequest p code tag params = none → frameOf (code :: tag :: params) = before ++ [last] →
    (s.port p).receive = .assembling before →
    exec (.frameByteReceived p last) s =
        exec (.badRequest p code tag params) (s.modPort p fun x => { x with receive := .hunting }) ∧
      (s.free p = true → ∃ t, exec (.frameByteReceived p last) s = .next t ∧
        (t.port p).answer = .busy code tag (some (refused .badRequest)))) ∧
  ∀ (i : Instr) (p : Port) (rc : ReqCode) (tag : Byte) (params before : List Byte) (last : Byte) (s : State),
    i.wellFormed = true → encodeRequest i = some (p, rc, tag, params) →
    frameOf (rc.toByte :: tag :: params) = before ++ [last] → (s.port p).receive = .assembling before →
    exec (.frameByteReceived p last) s = exec i (s.modPort p fun x => { x with receive := .hunting })

/-! ## Status and notices -/

/-- READ STATUS is answered, from any port in either mode, with the state as it stands, and changes nothing. -/
def Obligations.ReadStatusShowsState : Prop :=
  ∀ (p : Port) (tag : Byte) (s : State), s.free p = true →
    ∃ v, exec (.readStatus p tag) s = .next (s.answered p .readStatus tag (okay (.status v))) ∧
      v.mode = s.mode ∧ v.trips = s.trips ∧
      v.arms = allArms.map (fun a =>
        { enable := (s.arm a).enable, state := (s.arm a).state, load := (s.load? a).map fun l => l.data.number }) ∧
      v.capacity = s.header.capacity ∧ v.inUse = s.header.inUse ∧
      v.wait = s.header.wait.map (fun w => (w.arm, w.shares)) ∧
      v.stations = allStations.map (fun st =>
        { state := (s.station st).state, queueLength := (s.station st).queue.length,
          lowLevel := (s.station st).lowLevel }) ∧
      (∀ c : Fin 16, v.probes[c.val]? = some (s.probe c).condition) ∧
      (∀ m : Fin 16, v.stray[m.val]? = some (s.meter m).stray) ∧
      v.deliveredCount = s.delivered.length ∧ v.reservations = s.reservations ∧ v.seconds = s.seconds

/-- The four notice requests act on the requesting port's own flags and mask, and its attention line follows; each is
answered as R187 gives and changes nothing else. The sets name flags that the port's class holds. -/
def Obligations.NoticeRequestsActOnOwnPort : Prop :=
  ∀ (p : Port) (tag : Byte) (w : Word16) (s : State), s.free p = true →
    exec (.readNotices p tag) s =
      .next (s.answered p .readNotices tag (okay (.notices (s.port p).flags (s.port p).mask))) ∧
    (w &&& ~~~(classFlags p) = 0#16 →
      exec (.clearNotices p tag w) s =
        .next ((s.modPort p fun x =>
          { x with
            flags := x.flags &&& ~~~w
            attention := ((x.flags &&& ~~~w) &&& x.mask) != 0#16 }).answered p .clearNotices tag
              (okay (.noticeSet ((s.port p).flags &&& ~~~w)))) ∧
      exec (.setNotices p tag w) s =
        .next ((s.modPort p fun x =>
          { x with
            flags := x.flags ||| w
            attention := ((x.flags ||| w) &&& x.mask) != 0#16 }).answered p .setNotices tag
              (okay (.noticeSet ((s.port p).flags ||| w)))) ∧
      exec (.setNoticeMask p tag w) s =
        .next ((s.modPort p fun x =>
          { x with
            mask := w
            attention := (x.flags &&& w) != 0#16 }).answered p .setNoticeMask tag (okay (.noticeSet w))))

/-! ## Configuration and mode -/

/-- CONFIGURE, by its eight groups, with values in range. ARM and LANE set an enable. METER sets enable and K-factor and
reloads the divider where either changes. PROBE enables a channel OFF with reading 0, an idle scan beginning with the lowest
enabled channel, or disables it, its conversion in progress being marked for discarding; the enable it has changes nothing.
TABLE sets the 17 factors of a table, TIMERS the six device-wide items, a stray threshold lowered to or below a counter leaving
it silent (log 13), HEADER the capacity. STATION sets reach, changeover
interval and shot timeout; enabling one that is OFF makes it IDLE, disabling another makes it OFF with its request, queue and
shot discarded and its transaction's reply to be discarded, and a restore pending whose CLEAR is not on the bus is answered
at once (log 19). Each changes nothing else. -/
def Obligations.ConfigureSetsItsGroup : Prop :=
  ∀ (p : Port) (tag : Byte) (e : Bool) (s : State), s.free p = true → p.isTerminal = true → s.mode = .configure →
    (∀ a : Fin 8,
      exec (.configure p tag 0#8 (armByte a) [if e then 1#8 else 0#8]) s =
        .next ((s.modArm a fun x => { x with enable := e }).answered p .configure tag (okay (.configured 0 a.val)))) ∧
    (∀ l : Fin 4,
      exec (.configure p tag 1#8 (BitVec.ofNat 8 l.val) [if e then 1#8 else 0#8]) s =
        .next (({ s with settings := { s.settings with laneEnable := s.settings.laneEnable.set l.val e } }
          : State).answered p .configure tag (okay (.configured 1 l.val)))) ∧
    (∀ (m : Fin 16) (k : Byte), 1 ≤ k.toNat → k.toNat ≤ 250 →
      exec (.configure p tag 2#8 (BitVec.ofNat 8 m.val) [if e then 1#8 else 0#8, k]) s =
        .next ((s.modMeter m fun x =>
          { x with
            enable := e
            kFactor := k.toNat
            divider := if x.enable = e ∧ x.kFactor = k.toNat then x.divider else k.toNat }).answered p .configure tag
              (okay (.configured 2 m.val)))) ∧
    (∀ c : Fin 16,
      ((s.probe c).enable = e →
        exec (.configure p tag 3#8 (BitVec.ofNat 8 c.val) [if e then 1#8 else 0#8]) s =
          .next (s.answered p .configure tag (okay (.configured 3 c.val)))) ∧
      ((s.probe c).enable = false → e = true →
        ∃ scan,
          exec (.configure p tag 3#8 (BitVec.ofNat 8 c.val) [1#8]) s =
            .next (({ s.modProbe c fun _ => { enable := true, reading := 0, condition := .off } with scan := scan }
              : State).answered p .configure tag (okay (.configured 3 c.val))) ∧
          (s.scan ≠ none → scan = s.scan) ∧
          (s.scan = none →
            ∃ d, scan = some { channel := d, discard := false } ∧ (d = c ∨ (s.probe d).enable = true) ∧ d ≤ c ∧
              ∀ k, k < d → (s.probe k).enable = false)) ∧
      ((s.probe c).enable = true → e = false →
        exec (.configure p tag 3#8 (BitVec.ofNat 8 c.val) [0#8]) s =
          .next (({ s.modProbe c fun _ => { enable := false, reading := 0, condition := .off } with
            scan := s.scan.map fun v => if v.channel = c then { v with discard := true } else v } : State).answered p
              .configure tag (okay (.configured 3 c.val))))) ∧
    (∀ factors : Vector Word16 17, (∀ f ∈ factors.toList, 9000 ≤ f.toNat ∧ f.toNat ≤ 11000) →
      exec (.configure p tag 4#8 0#8 (factors.toList.flatMap bytes16)) s =
        .next (({ s with settings := { s.settings with gasolineTable := factors.map BitVec.toNat } } : State).answered p
          .configure tag (okay (.configured 4 0))) ∧
      exec (.configure p tag 4#8 1#8 (factors.toList.flatMap bytes16)) s =
        .next (({ s with settings := { s.settings with ethanolTable := factors.map BitVec.toNat } } : State).answered p
          .configure tag (okay (.configured 4 1)))) ∧
    (∀ (st : Fin 4) (reach : Byte) (change shot : Word16) (values : List Byte),
      50 ≤ change.toNat → change.toNat ≤ 5000 → 200 ≤ shot.toNat → shot.toNat ≤ 5000 →
      values = [if e then 1#8 else 0#8, reach] ++ bytes16 change ++ bytes16 shot →
      (e = true → (s.station st).state = .off →
        exec (.configure p tag 5#8 (BitVec.ofNat 8 st.val) values) s =
          .next ((s.modStation st fun x =>
            { x with
              state := .idle
              manifold := none
              failures := 0
              lowLevel := false
              reach := reach
              changeoverMs := change.toNat
              shotTimeoutMs := shot.toNat }).answered p .configure tag (okay (.configured 5 st.val)))) ∧
      ((e = true ↔ (s.station st).state ≠ .off) →
        exec (.configure p tag 5#8 (BitVec.ofNat 8 st.val) values) s =
          .next ((s.modStation st fun x =>
            { x with reach := reach, changeoverMs := change.toNat, shotTimeoutMs := shot.toNat }).answered p .configure tag
              (okay (.configured 5 st.val)))) ∧
      (e = false → (s.station st).state ≠ .off →
        ((s.station st).restore = none ∨ (∃ x, s.bus.txn = some x ∧ x.station = st ∧ x.kind = .clear) →
          exec (.configure p tag 5#8 (BitVec.ofNat 8 st.val) values) s =
            .next ((({ s with
              bus :=
                { s.bus with
                  txn := s.bus.txn.map fun x =>
                    if x.station = st then { x with shot := none, discarded := true } else x } } : State).modStation st
                fun x =>
                  { x with
                    state := .off
                    request := false
                    queue := []
                    shot := none
                    changeover := .stopped
                    poll := .stopped
                    shotTimer := .stopped
                    reach := reach
                    changeoverMs := change.toNat
                    shotTimeoutMs := shot.toNat }).answered p .configure tag (okay (.configured 5 st.val)))) ∧
        (∀ q code qtag, (s.station st).restore = some q → (s.port q).answer = .busy code qtag none →
          (∀ x, s.bus.txn = some x → x.station = st → x.kind ≠ .clear) →
          ∃ t, exec (.configure p tag 5#8 (BitVec.ofNat 8 st.val) values) s = .next t ∧
            (t.station st).state = .off ∧ (t.station st).restore = none ∧ (t.station st).queue = [] ∧
            (t.port q).answer = .busy code qtag (some (okay (.restored .off none))) ∧
            t.response? p = some (okay (.configured 5 st.val))))) ∧
    (∀ (noFlow settle hold : Byte) (wait overrun stray : Word16), 1 ≤ noFlow.toNat → noFlow.toNat ≤ 60 →
      5 ≤ settle.toNat → settle.toNat ≤ 100 → 1 ≤ hold.toNat → hold.toNat ≤ 120 → wait.toNat ≤ 600 →
      10 ≤ overrun.toNat → overrun.toNat ≤ 500 → 1 ≤ stray.toNat → stray.toNat ≤ 1000 →
      exec (.configure p tag 6#8 0#8 ([noFlow, settle, hold] ++ bytes16 wait ++ bytes16 overrun ++ bytes16 stray)) s =
        .next (({ s with
          settings :=
            { s.settings with
              noFlowSeconds := noFlow.toNat
              settleTenths := settle.toNat
              holdMinutes := hold.toNat
              shareWaitSeconds := wait.toNat
              overrunLimit := overrun.toNat
              strayThreshold := stray.toNat }
          meters := s.meters.map fun x =>
            { x with
              silent :=
                x.silent || decide (stray.toNat < s.settings.strayThreshold ∧ stray.toNat ≤ x.stray) } } : State).answered p
          .configure tag (okay (.configured 6 0)))) ∧
    ∀ capacity : Byte, capacity.toNat ≤ 16 →
      exec (.configure p tag 7#8 0#8 [capacity]) s =
        .next ((s.modHeader fun h => { h with capacity := capacity.toNat }).answered p .configure tag
          (okay (.configured 7 0)))

/-- A CONFIGURE and a START LOAD that are not answered OK change nothing: the state is the one before, with the request
answered. -/
def Obligations.RefusalsChangeNothing : Prop :=
  ∀ (p : Port) (tag : Byte) (s : State), s.free p = true →
    (∀ (group index : Byte) (values : List Byte),
      ∃ t r, exec (.configure p tag group index values) s = .next t ∧ t.response? p = some r ∧
        (r.result ≠ .ok → t = s.answered p .configure tag r)) ∧
    ∀ (arm : Byte) (choice : Word16) (preset : Word24),
      ∃ t r, exec (.startLoad p tag arm choice preset) s = .next t ∧ t.response? p = some r ∧
        (r.result ≠ .ok → t = s.answered p .startLoad tag r)

/-- BEGIN OPERATION is taken in CONFIGURE when every enabled arm has both its meters and its lane enabled; RETURN TO
CONFIGURE in OPERATE when every arm is IDLE. Each changes the mode and nothing more. -/
def Obligations.ModeRequestsChangeMode : Prop :=
  ∀ (p : Port) (tag : Byte) (s : State), s.free p = true → p.isTerminal = true →
    (s.mode = .configure →
      (∀ a, (s.arm a).enable = true →
        (s.meter (gasolineOf a)).enable = true ∧ (s.meter (ethanolOf a)).enable = true ∧
          s.settings.laneEnable[(laneOf a).val] = true) →
      exec (.beginOperation p tag) s =
        .next (({ s with mode := .operate } : State).answered p .beginOperation tag (okay .none))) ∧
    (s.mode = .operate → (∀ a, (s.arm a).state = .idle) →
      exec (.returnToConfigure p tag) s =
        .next (({ s with mode := .configure } : State).answered p .returnToConfigure tag (okay .none)))

/-! ## Recipes -/

/-- READ RECIPE answers with the slot as it stands; with the link option the port's link becomes a recipe link at the
slot's revision; a slot number above 31 is BAD_FIELD 0. Nothing else changes. -/
def Obligations.ReadRecipeTakesLink : Prop :=
  ∀ (p : Port) (tag : Byte) (s : State), s.free p = true →
    (∀ k : Fin 32,
      exec (.readRecipe p tag (BitVec.ofNat 8 k.val) 1#8) s =
        .next ((s.modPort p fun x => { x with link := some (.recipe k.val (s.slot k).revision) }).answered p .readRecipe
          tag (okay (.recipe k.val (s.slot k)))) ∧
      exec (.readRecipe p tag (BitVec.ofNat 8 k.val) 0#8) s =
        .next (s.answered p .readRecipe tag (okay (.recipe k.val (s.slot k))))) ∧
    ∀ (slot link : Byte), 31 < slot.toNat →
      exec (.readRecipe p tag slot link) s = .next (s.answered p .readRecipe tag (badFieldAt 0))

/-- COMMIT RECIPE over a link at the slot's revision, with a content that passes every check, writes that content; WITHDRAW
RECIPE over such a link empties a READY slot, and is NO_SUCH for an EMPTY one. Each success advances the revision
(65535 to 1); each of the three clears the port's link; nothing else changes. A COMMIT or WITHDRAW whose port's link does not
name the slot at its current revision is answered LINK_LOST, writes nothing and clears the link. -/
def Obligations.LinkedEditsWriteSlot : Prop :=
  (∀ (p : Port) (tag slot : Byte) (content : List Byte) (s : State),
    s.free p = true → p.isTerminal = true → content.length = 58 →
    (∀ k : Fin 32, k.val = slot.toNat → (s.port p).link ≠ some (.recipe k.val (s.slot k).revision)) →
      exec (.commitRecipe p tag slot content) s =
        .next ((s.modPort p fun x => { x with link := none }).answered p .commitRecipe tag (refused .linkLost)) ∧
      exec (.withdrawRecipe p tag slot) s =
        .next ((s.modPort p fun x => { x with link := none }).answered p .withdrawRecipe tag (refused .linkLost))) ∧
  ∀ (p : Port) (tag : Byte) (k : Fin 32) (s : State), s.free p = true → p.isTerminal = true →
    (s.port p).link = some (.recipe k.val (s.slot k).revision) →
    (∀ content : List Byte, content.length = 58 → (parseContent content).offends = none →
      exec (.commitRecipe p tag (BitVec.ofNat 8 k.val) content) s =
        .next (((s.setSlot k
            { revision := if 65535 ≤ (s.slot k).revision then 1 else (s.slot k).revision + 1
              content := some (parseContent content).keep }).modPort p fun x => { x with link := none }).answered p
                .commitRecipe tag
                  (okay (.slotRevision k.val (if 65535 ≤ (s.slot k).revision then 1 else (s.slot k).revision + 1))))) ∧
    ((s.slot k).content ≠ none →
      exec (.withdrawRecipe p tag (BitVec.ofNat 8 k.val)) s =
        .next (((s.setSlot k
            { revision := if 65535 ≤ (s.slot k).revision then 1 else (s.slot k).revision + 1
              content := none }).modPort p fun x => { x with link := none }).answered p .withdrawRecipe tag
                (okay (.slotRevision k.val (if 65535 ≤ (s.slot k).revision then 1 else (s.slot k).revision + 1))))) ∧
    ((s.slot k).content = none →
      exec (.withdrawRecipe p tag (BitVec.ofNat 8 k.val)) s =
        .next ((s.modPort p fun x => { x with link := none }).answered p .withdrawRecipe tag (refused .noSuch)))

/-! ## Authorizations -/

/-- ISSUE AUTHORIZATION with its parameters in range and a place in the lane's queue appends the new authorization to the
tail, with its expiry timer started, and answers with its id and position; besides the id counter nothing else changes. The
id is the counter's number where no queued authorization carries that, and in any case one from 1 to 65535 that none
carries, when the counter lies there and no queue is longer than six; the counter goes one past it, from 65535 to 1. (The
arm set's bits are the model's choice, log 22, as is the age 0, log 29.) -/
def Obligations.IssueJoinsTail : Prop :=
  ∀ (p : Port) (tag : Byte) (lane : Fin 4) (armSet slot : Byte) (required : Word16) (limit : Word24)
    (customer : BitVec 64) (expiry : Byte) (s : State),
    s.free p = true → p.isTerminal = true →
    armSet ≠ 0#8 → (∀ a : Fin 8, armSet.getLsbD a.val = true → laneOf a = lane) → slot.toNat ≤ 31 →
    100 ≤ limit.toNat → limit.toNat ≤ 200000 → 1 ≤ expiry.toNat → expiry.toNat ≤ 240 → (s.queue lane).length < 6 →
      exec (.issueAuthorization p tag (BitVec.ofNat 8 lane.val) armSet slot required limit customer expiry) s =
        .next ((({ s with authCounter := if 65535 ≤ s.drawId then 1 else s.drawId + 1 } : State).setQueue lane
          (s.queue lane ++
            [{ id := s.drawId, lane := lane, armSet := armSet, slot := slot.toNat, requiredRevision := required.toNat,
               presetLimit := limit.toNat, customer := customer, expiry := expiry.toNat, issuer := p,
               timer := .running (expiry.toNat * 60000), elapsed := 0 }])).answered p .issueAuthorization tag
                 (okay (.issued s.drawId ((s.queue lane).length + 1)))) ∧
      ((∀ l, ∀ x ∈ s.queue l, x.id ≠ s.authCounter) → s.drawId = s.authCounter) ∧
      (1 ≤ s.authCounter → s.authCounter ≤ 65535 → s.queuesBounded →
        1 ≤ s.drawId ∧ s.drawId ≤ 65535 ∧ ∀ l, ∀ x ∈ s.queue l, x.id ≠ s.drawId)

/-- REVOKE AUTHORIZATION from a terminal port removes the queued authorization with the id, the others keeping their order,
and answers with the id and its lane; an id that is not queued in any lane is NO_SUCH; from a lane port it is
NOT_PERMITTED. Nothing else changes: no notice is raised and no load is reached. -/
def Obligations.RevokeRemoves : Prop :=
  ∀ (p : Port) (tag : Byte) (id : Word16) (s : State), s.free p = true →
    (p.isTerminal = false →
      exec (.revokeAuthorization p tag id) s = .next (s.answered p .revokeAuthorization tag (refused .notPermitted))) ∧
    (∀ l : Fin 4, p.isTerminal = true → (∃ x ∈ s.queue l, x.id = id.toNat) →
      (∀ k, k ≠ l → ∀ x ∈ s.queue k, x.id ≠ id.toNat) →
      exec (.revokeAuthorization p tag id) s =
        .next ((s.setQueue l ((s.queue l).filter fun x => x.id != id.toNat)).answered p .revokeAuthorization tag
          (okay (.revoked id.toNat l)))) ∧
    (p.isTerminal = true → (∀ l, ∀ x ∈ s.queue l, x.id ≠ id.toNat) →
      exec (.revokeAuthorization p tag id) s =
        .next (s.answered p .revokeAuthorization tag (refused .noSuch)))

/-- LIST AUTHORIZATIONS from a port that may list the lane answers with the lane's queue, head first, each with a time
remaining that its second ticks allow: at most one second more than they leave, and at least 1. It changes nothing of
the controller's (the counter of the free value, log 5, is the model's). -/
def Obligations.ListReportsQueue : Prop :=
  ∀ (p : Port) (tag : Byte) (lane : Fin 4) (s : State), s.free p = true → (p.isTerminal = true ∨ p = .lp lane) →
    ∃ n es, exec (.listAuthorizations p tag (BitVec.ofNat 8 lane.val)) s =
        .next (({ s with freeCount := n } : State).answered p .listAuthorizations tag (okay (.authorizations es))) ∧
      es.map AuthorizationView.authorization = s.queue lane ∧
      ∀ e ∈ es, max 1 (60 * e.authorization.expiry - e.authorization.elapsed) ≤ e.remaining ∧
        e.remaining ≤ max 1 (60 * e.authorization.expiry - e.authorization.elapsed + 1)

/-- The running out of an expiry timer removes its authorization and raises AUTH_EXPIRED on TA, TB and the lane's port
and on no other; nothing else changes. -/
def Obligations.ExpiryRemovesAndRaises : Prop :=
  ∀ (id : Nat) (l : Fin 4) (s : State), (∃ x ∈ s.queue l, x.id = id) → (∀ k, k ≠ l → ∀ x ∈ s.queue k, x.id ≠ id) →
    ∃ t, exec (.authExpired id) s = .next t ∧
      t.queue l = (s.queue l).filter (fun x => x.id != id) ∧ (∀ k, k ≠ l → t.queue k = s.queue k) ∧
      s.portsRaised t .authExpired (lanePorts l) ∧ { t with queues := s.queues, ports := s.ports } = s

/-! ## The load cycle -/

/-- A START that passes every check claims its authorization, reserves a place, empties the arm's trace page, reloads the
arm's two dividers and starts the load in PRIME; it is answered with the load number, the authorization and the arm.
Nothing else changes. The number is the counter's where no active load and no delivered record carries that, and in any case
one from 1 to 16777214 that none carries, when the counter lies there and at most 32 are carried; the counter goes one past
it, from 16777214 to 1. That bit a of the arm set and of a station's reach set stands for arm a is the model's choice
(log 22). -/
def Obligations.StartCreatesLoad : Prop :=
  ∀ (tag : Byte) (a : Fin 8) (choice : Word16) (preset : Word24) (x : Authorization) (r : Recipe) (k : Fin 32)
    (s : State),
    s.free (.lp (laneOf a)) = true → s.mode = .operate → (s.arm a).enable = true → (s.arm a).state = .idle →
    s.trips.esd = false → s.trips.lanes[(laneOf a).val] = true → (0 < r.ratio → s.trips.header = true) →
    (s.queue (laneOf a)).find? (fun y =>
      (decide (choice.toNat = 0) || decide (y.id = choice.toNat)) && y.armSet.getLsbD a.val) = some x →
    x.slot = k.val → (s.slot k).content = some r →
    (x.requiredRevision = 0 ∨ x.requiredRevision = (s.slot k).revision) →
    100 ≤ preset.toNat → preset.toNat ≤ x.presetLimit → r.minimumPreset ≤ preset.toNat →
    (∀ y ∈ r.lines, y.required = true → s.lineAvailable a y = true) →
    s.reservations + s.delivered.length < 32 →
      ((∀ b y, s.load? b = some y → y.data.number ≠ s.loadCounter) →
        (∀ y ∈ s.delivered, y.data.number ≠ s.loadCounter) → s.drawLoadNumber = s.loadCounter) ∧
      (1 ≤ s.loadCounter → s.loadCounter ≤ 16777214 →
        (allArms.filterMap s.load?).length + s.delivered.length ≤ 32 →
          1 ≤ s.drawLoadNumber ∧ s.drawLoadNumber ≤ 16777214 ∧
            (∀ b y, s.load? b = some y → y.data.number ≠ s.drawLoadNumber) ∧
            ∀ y ∈ s.delivered, y.data.number ≠ s.drawLoadNumber) ∧
      ∃ l,
        exec (.startLoad (.lp (laneOf a)) tag (armByte a) choice preset) s =
          .next ((((((({ s with
              reservations := s.reservations + 1
              loadCounter := if 16777214 ≤ s.drawLoadNumber then 1 else s.drawLoadNumber + 1 } : State).setQueue (laneOf a)
              ((s.queue (laneOf a)).filter fun y => y.id != x.id)).modPage a fun _ =>
              { records := [], nextSequence := 0 }).modMeter (gasolineOf a) fun y =>
              { y with divider := y.kFactor, remainder := 0 }).modMeter (ethanolOf a) fun y =>
              { y with divider := y.kFactor, remainder := 0 }).modArm a fun y =>
              { y with
                state := .prime
                mainOpening := r.primeOpening
                ethanolOpening := 0
                noFlow := .running (s.settings.noFlowSeconds * 1000)
                load := some l }).answered (.lp (laneOf a)) .startLoad tag (okay (.started s.drawLoadNumber x.id a))) ∧
        l.recipe = r ∧ l.data.number = s.drawLoadNumber ∧ l.data.arm = a ∧ l.data.lane = laneOf a ∧
        l.data.authorization = x.id ∧ l.data.customer = x.customer ∧ l.data.issuer = x.issuer ∧
        l.data.recipeRevision = (s.slot k).revision ∧ l.data.originalPreset = preset.toNat ∧
        l.data.preset = preset.toNat ∧ l.data.presetLimit = x.presetLimit ∧ l.data.pending = none ∧
        l.data.revision = 1 ∧ l.data.product = 0 ∧ l.data.gasoline = 0 ∧ l.data.ethanol = 0 ∧
        l.data.flushPoint = preset.toNat - r.flushVolume ∧
        l.data.taperPoint = preset.toNat - r.flushVolume - r.taperVolume ∧
        l.data.blendSpan = preset.toNat - r.flushVolume - r.primeVolume ∧
        l.data.ethanolTarget = r.ratio * preset.toNat / 1000 ∧ l.data.startTime = s.seconds ∧
        l.data.endStatus = none ∧
        l.lines.map (fun y => (y.counts.station, y.counts.skipped)) =
          r.lines.map (fun y => (y.station, !(s.lineAvailable a y))) ∧
        ∀ y ∈ l.lines, y.counts.due = 0 ∧ y.counts.owed = 0 ∧ y.counts.delivered = 0

/-- A STOP in a blending phase shuts the ethanol valve, gives up the shares and enters a cut flush whose end is the lower of
V + F and P, and of a pending preset: the arm is in FLUSH at the taper-end opening exactly where that lies above V, else in
CLOSING. A STOP in PRIME, SHARE_WAIT or HELD ends in CLOSING with both valves shut. A pending amendment is applied. The end
status due becomes STOPPED if none was due. A STOP in FLUSH lowers the flush end to V + F where that lies below it: the
flush is then a cut one, with STOPPED due if nothing was, the arm stays in FLUSH and the record revision as it was, but for
F = 0, where it goes to CLOSING at once. Where V + F is no lower, nothing changes. -/
def Obligations.StopEndsLoadEarly : Prop :=
  ∀ (p : Port) (tag : Byte) (a : Fin 8) (n : Word24) (l : Load) (s : State), s.free p = true → s.names p a n l →
    ((s.arm a).state.isBlending = true →
      ∃ t m, exec (.stopLoad p tag (armByte a) n) s = .next t ∧ t.load? a = some m ∧
        m.data.number = l.data.number ∧ m.endDue = some (l.endDue.getD .stopped) ∧
        t.cutFlushed a l m l.data.product (l.cutEnd l.data.product) ∧ l.amendmentApplied m ∧
        m.data.revision = (if 65535 ≤ l.data.revision then 1 else l.data.revision + 1) ∧
        t.response? p = some (okay (.stopped l.data.number (t.arm a).state)) ∧ s.SameOutsideArms t) ∧
    ((s.arm a).state = .prime ∨ (s.arm a).state = .shareWait ∨ (s.arm a).state = .held →
      ∃ t m, exec (.stopLoad p tag (armByte a) n) s = .next t ∧ t.load? a = some m ∧
        m.data.number = l.data.number ∧ m.endDue = some (l.endDue.getD .stopped) ∧
        m.data.causes.isEmpty = true ∧ (t.arm a).state = .closing ∧ (t.arm a).mainOpening = 0 ∧
        (t.arm a).ethanolOpening = 0 ∧ l.amendmentApplied m ∧
        t.response? p = some (okay (.stopped l.data.number .closing)) ∧ s.SameOutsideArms t) ∧
    ((s.arm a).state = .flush → ∀ e, l.flushEnd = some e → l.data.product < e →
      (0 < l.recipe.flushVolume → l.data.product + l.recipe.flushVolume < e →
        exec (.stopLoad p tag (armByte a) n) s =
          .next ((s.modLoad a fun y =>
            { y with
              flushEnd := some (l.data.product + l.recipe.flushVolume)
              flushKind := some .cut
              endDue := some (l.endDue.getD .stopped) }).answered p .stopLoad tag
                (okay (.stopped l.data.number .flush)))) ∧
      (l.recipe.flushVolume = 0 →
        ∃ t m, exec (.stopLoad p tag (armByte a) n) s = .next t ∧ t.load? a = some m ∧
          m.data.number = l.data.number ∧ m.endDue = some (l.endDue.getD .stopped) ∧ (t.arm a).state = .closing ∧
          (t.arm a).mainOpening = 0 ∧
          m.data.revision = (if 65535 ≤ l.data.revision then 1 else l.data.revision + 1) ∧
          t.response? p = some (okay (.stopped l.data.number .closing)) ∧ s.SameOutsideArms t) ∧
      (e ≤ l.data.product + l.recipe.flushVolume →
        exec (.stopLoad p tag (armByte a) n) s =
          .next (s.answered p .stopLoad tag (okay (.stopped l.data.number .flush)))))

/-- An accepted AMEND LOAD is staged in a blending phase, and applied at once in PRIME, SHARE_WAIT, HELD and FLUSH with the
points derived anew; the revision advances by one, also by an amendment that changes nothing (log 20, the model's reading),
and the port's link is cleared. In PRIME, in SHARE_WAIT with V below the new flush point and in HELD with a resume phase other
than FLUSH nothing else changes. In FLUSH, and in HELD with resume phase FLUSH, the flush end becomes the new preset for an
ordered flush and the lower of it and the flush end for a cut one, and nothing else changes. In SHARE_WAIT with V at or past
the new flush point the arm leaves the wait list for an ordered flush to the new preset. -/
def Obligations.AmendStagesOrApplies : Prop :=
  ∀ (p : Port) (tag : Byte) (a : Fin 8) (n preset : Word24) (l : Load) (s : State),
    s.free p = true → (p.isTerminal = true ∨ p = .lp l.data.lane) → s.armOfLoad n.toNat = some a →
    s.load? a = some l → l.data.number = n.toNat → (s.port p).link = some (.load n.toNat l.data.revision) →
    100 ≤ preset.toNat → preset.toNat ≤ l.data.presetLimit → l.data.product < preset.toNat →
    l.recipe.minimumPreset ≤ preset.toNat →
    (p.isTerminal = false → preset.toNat < l.data.preset ∧ ∀ q, l.data.pending = some q → preset.toNat < q) →
    ((s.arm a).state.isBlending = true →
      exec (.amendLoad p tag n preset) s =
        .next (((s.modLoad a fun y =>
            { y with
              data :=
                { y.data with
                  pending := some preset.toNat
                  revision := if 65535 ≤ y.data.revision then 1 else y.data.revision + 1 } }).modPort p fun x =>
            { x with link := none }).answered p .amendLoad tag
              (okay (.amended (if 65535 ≤ l.data.revision then 1 else l.data.revision + 1) true)))) ∧
    (∀ e : Option Nat,
      ((s.arm a).state = .prime ∧ e = l.flushEnd) ∨
        ((s.arm a).state = .shareWait ∧ l.data.product < preset.toNat - l.recipe.flushVolume ∧ e = l.flushEnd) ∨
        ((s.arm a).state = .held ∧ l.resume ≠ some .flush ∧ e = l.flushEnd) ∨
        (((s.arm a).state = .flush ∨ ((s.arm a).state = .held ∧ l.resume = some .flush)) ∧
          ∃ e0, l.flushEnd = some e0 ∧
            ((l.flushKind = some .ordered ∧ e = some preset.toNat) ∨
              (l.flushKind = some .cut ∧ e = some (min e0 preset.toNat)))) →
        exec (.amendLoad p tag n preset) s =
          .next (((s.modLoad a fun y =>
              { y with
                flushEnd := e
                data :=
                  { y.data with
                    preset := preset.toNat
                    pending := none
                    blendSpan := preset.toNat - y.recipe.flushVolume - y.recipe.primeVolume
                    flushPoint := preset.toNat - y.recipe.flushVolume
                    taperPoint := preset.toNat - y.recipe.flushVolume - y.recipe.taperVolume
                    ethanolTarget := y.recipe.ratio * preset.toNat / 1000
                    revision := if 65535 ≤ y.data.revision then 1 else y.data.revision + 1 } }).modPort p fun x =>
              { x with link := none }).answered p .amendLoad tag
                (okay (.amended (if 65535 ≤ l.data.revision then 1 else l.data.revision + 1) false)))) ∧
    ((s.arm a).state = .shareWait → preset.toNat - l.recipe.flushVolume ≤ l.data.product →
      ∃ t m, exec (.amendLoad p tag n preset) s = .next t ∧ t.load? a = some m ∧ (t.arm a).state = .flush ∧
        (t.arm a).mainOpening = l.recipe.taperEndOpening ∧ (t.arm a).ethanolOpening = 0 ∧
        (t.arm a).noFlow = .running (s.settings.noFlowSeconds * 1000) ∧ t.notListed a ∧ t.header.sharesOf a = 0 ∧
        m.flushEnd = some preset.toNat ∧ m.flushKind = some .ordered ∧ m.waitTarget = none ∧ m.endDue = l.endDue ∧
        m.data =
          { l.data with
            preset := preset.toNat
            pending := none
            blendSpan := preset.toNat - l.recipe.flushVolume - l.recipe.primeVolume
            flushPoint := preset.toNat - l.recipe.flushVolume
            taperPoint := preset.toNat - l.recipe.flushVolume - l.recipe.taperVolume
            ethanolTarget := l.recipe.ratio * preset.toNat / 1000
            revision := if 65535 ≤ l.data.revision then 1 else l.data.revision + 1 } ∧
        (t.port p).link = none ∧
        t.response? p = some (okay (.amended (if 65535 ≤ l.data.revision then 1 else l.data.revision + 1) false)) ∧
        s.SameOutsideArms t)

/-! ## Holds and checkpoints -/

/-- A HOLD in PRIME, a blending phase, FLUSH or SHARE_WAIT adds the cause of the port's class and sends the arm to HELD:
both valves shut, the former state as resume phase, no shares, a pending amendment applied with the points derived anew, the
hold timer started in full, the revision advanced by one. -/
def Obligations.HoldEntersHeld : Prop :=
  ∀ (p : Port) (tag : Byte) (a : Fin 8) (n : Word24) (l : Load) (r : ResumePhase) (s : State),
    s.free p = true → s.names p a n l → (s.arm a).state.toResume = some r →
      ∃ t m, exec (.holdLoad p tag (armByte a) n) s = .next t ∧ t.load? a = some m ∧
        (t.arm a).state = .held ∧ (t.arm a).mainOpening = 0 ∧ (t.arm a).ethanolOpening = 0 ∧
        (t.arm a).hold = .running (s.settings.holdMinutes * 60000) ∧ (t.arm a).noFlow = .stopped ∧
        m.resume = some r ∧ l.amendmentApplied m ∧ t.header.sharesOf a = 0 ∧
        m.data.causes.has (if p.isTerminal then .terminalHold else .laneHold) = true ∧
        m.data.revision = (if 65535 ≤ l.data.revision then 1 else l.data.revision + 1) ∧
        t.response? p = some (okay (.held l.data.number .held m.data.causes)) ∧ s.SameOutsideArms t

/-- Removing one cause of several leaves the arm HELD: RELEASE HOLD removes the cause of the port's class, RESUME LOAD the
permissive once it is present, CLEAR CHECKPOINT the flag with its cause. The revision advances by one and nothing else
changes. -/
def Obligations.RemovingOneCauseKeepsHeld : Prop :=
  ∀ (p : Port) (tag : Byte) (a : Fin 8) (n : Word24) (l : Load) (s : State),
    s.free p = true → s.names p a n l → (s.arm a).state = .held →
    (l.data.causes.has (classCause p) = true → (l.data.causes.put false (classCause p)).isEmpty = false →
      exec (.releaseHold p tag (armByte a) n) s =
        .next ((s.modLoad a fun y =>
          { y with
            data :=
              { y.data with
                causes := l.data.causes.put false (classCause p)
                revision := if 65535 ≤ y.data.revision then 1 else y.data.revision + 1 } }).answered p .releaseHold tag
                  (okay (.held l.data.number .held (l.data.causes.put false (classCause p)))))) ∧
    (p.isTerminal = false → s.trips.lanes[(laneOf a).val] = true → l.data.causes.permissive = true →
      (l.data.causes.put false .permissive).isEmpty = false →
      exec (.resumeLoad p tag (armByte a) n) s =
        .next ((s.modLoad a fun y =>
          { y with
            data :=
              { y.data with
                causes := l.data.causes.put false .permissive
                revision := if 65535 ≤ y.data.revision then 1 else y.data.revision + 1 } }).answered p .resumeLoad tag
                  (okay (.held l.data.number .held (l.data.causes.put false .permissive))))) ∧
    (l.data.flag0 = true → (l.data.causes.put false .checkpoint0).isEmpty = false →
      exec (.clearCheckpoint p tag (armByte a) n 0#8) s =
        .next ((s.modLoad a fun y =>
          { y with
            data :=
              { y.data with
                flag0 := false
                causes := l.data.causes.put false .checkpoint0
                revision := if 65535 ≤ y.data.revision then 1 else y.data.revision + 1 } }).answered p .clearCheckpoint
                  tag (okay (.held l.data.number .held (l.data.causes.put false .checkpoint0))))) ∧
    (l.data.flag1 = true → (l.data.causes.put false .checkpoint1).isEmpty = false →
      exec (.clearCheckpoint p tag (armByte a) n 1#8) s =
        .next ((s.modLoad a fun y =>
          { y with
            data :=
              { y.data with
                flag1 := false
                causes := l.data.causes.put false .checkpoint1
                revision := if 65535 ≤ y.data.revision then 1 else y.data.revision + 1 } }).answered p .clearCheckpoint
                  tag (okay (.held l.data.number .held (l.data.causes.put false .checkpoint1)))))

/-- Removing the last cause of a held load ends the hold, be it RELEASE HOLD with the cause of the port's class, RESUME LOAD
with the permissive once it is present, or CLEAR CHECKPOINT with a set flag, which it clears: the hold timer stops, the
resume phase is gone and the revision advances by one. A load with the supply-lost mark goes to CLOSING. One held in FLUSH
flushes on at the taper-end opening with its kept end and kind, or closes with V at the end or the preset. One held in PRIME
primes on below the prime volume. Any other, one held in PRIME with V past the prime volume among them (where no checkpoint
entry is for PRIME_DONE), closes with V at the preset, enters an ordered flush at the flush point (a pending amendment being
applied there), and otherwise asks for its shares, with target TAPER if it was held in TAPER, in SHARE_WAIT with that target,
or V is at the taper point, and RAMP if not. With a share count of 0, or granted at once (permissive present, no one waiting,
the count within the free shares), it enters its target, its lines' next boundaries placed above V and its kept shots queued:
RAMP from its beginning, or TAPER at the step that matches V (its opening's rounding is log 12, the model's reading), at most
the ceiling, which a first entry sets to the full opening (where no checkpoint entry is for TAPER_BEGIN). With the permissive
present and a head that does not fit, or its own count where no one waits, it joins the tail of the wait list in SHARE_WAIT
with that target; with the permissive lost it goes to CLOSING with ETHANOL_SUPPLY. -/
def Obligations.RemovingLastCauseResumes : Prop :=
  ∀ (p : Port) (tag : Byte) (a : Fin 8) (n : Word24) (l : Load) (i : Instr) (f0 f1 : Bool) (s : State),
    s.free p = true → s.names p a n l → (s.arm a).state = .held →
    ((i = .releaseHold p tag (armByte a) n ∧ l.data.causes.has (classCause p) = true ∧
        (l.data.causes.put false (classCause p)).isEmpty = true ∧ f0 = l.data.flag0 ∧ f1 = l.data.flag1) ∨
      (i = .resumeLoad p tag (armByte a) n ∧ p.isTerminal = false ∧ s.trips.lanes[(laneOf a).val] = true ∧
        l.data.causes.permissive = true ∧ (l.data.causes.put false .permissive).isEmpty = true ∧
        f0 = l.data.flag0 ∧ f1 = l.data.flag1) ∨
      (i = .clearCheckpoint p tag (armByte a) n 0#8 ∧ l.data.flag0 = true ∧
        (l.data.causes.put false .checkpoint0).isEmpty = true ∧ f0 = false ∧ f1 = l.data.flag1) ∨
      (i = .clearCheckpoint p tag (armByte a) n 1#8 ∧ l.data.flag1 = true ∧
        (l.data.causes.put false .checkpoint1).isEmpty = true ∧ f0 = l.data.flag0 ∧ f1 = false)) →
    (l.supplyLost = true →
      ∃ t m, exec i s = .next t ∧ s.leftHeld t p a l m f0 f1 .closing ∧ t.closingBegun a ∧ m.endDue = l.endDue) ∧
    (∀ e, l.supplyLost = false → l.resume = some .flush → l.flushEnd = some e →
      (l.data.product < e → l.data.product < l.data.preset →
        ∃ t m, exec i s = .next t ∧ s.leftHeld t p a l m f0 f1 .flush ∧
          (t.arm a).mainOpening = l.recipe.taperEndOpening ∧ (t.arm a).ethanolOpening = 0 ∧
          (t.arm a).noFlow = .running (s.settings.noFlowSeconds * 1000) ∧
          m.flushEnd = some e ∧ m.flushKind = l.flushKind ∧ t.header = s.header) ∧
      (e ≤ l.data.product ∨ l.data.preset ≤ l.data.product →
        ∃ t m, exec i s = .next t ∧ s.leftHeld t p a l m f0 f1 .closing ∧ t.closingBegun a ∧ m.endDue = l.endDue)) ∧
    (l.supplyLost = false → l.resume = some .prime → l.data.product < l.recipe.primeVolume →
      ∃ t m, exec i s = .next t ∧ s.leftHeld t p a l m f0 f1 .prime ∧
        (t.arm a).mainOpening = l.recipe.primeOpening ∧ (t.arm a).ethanolOpening = 0 ∧
        (t.arm a).noFlow = .running (s.settings.noFlowSeconds * 1000) ∧ m.lines = l.lines ∧ t.header = s.header) ∧
    (l.supplyLost = false →
      (l.resume = some .ramp ∨ l.resume = some .full ∨ l.resume = some .taper ∨ l.resume = some .shareWait ∨
        (l.resume = some .prime ∧ l.recipe.primeVolume ≤ l.data.product ∧
          ∀ e ∈ l.recipe.checkpoints, e.event ≠ .primeDone)) →
      (l.data.preset ≤ l.data.product →
        ∃ t m, exec i s = .next t ∧ s.leftHeld t p a l m f0 f1 .closing ∧ t.closingBegun a ∧ m.endDue = l.endDue) ∧
      (l.data.product < l.data.preset → l.data.flushPoint ≤ l.data.product →
        l.data.product < l.data.pending.getD l.data.preset →
        ∃ t m, exec i s = .next t ∧ s.leftHeld t p a l m f0 f1 .flush ∧
          (t.arm a).mainOpening = l.recipe.taperEndOpening ∧ (t.arm a).ethanolOpening = 0 ∧
          (t.arm a).noFlow = .running (s.settings.noFlowSeconds * 1000) ∧ t.header.sharesOf a = 0 ∧
          m.flushEnd = some (l.data.pending.getD l.data.preset) ∧ m.flushKind = some .ordered ∧ m.endDue = l.endDue) ∧
      ∀ w : WaitTarget, l.data.product < l.data.preset → l.data.product < l.data.flushPoint →
        (w = .taper ↔
          l.resume = some .taper ∨ (l.resume = some .shareWait ∧ l.waitTarget = some .taper) ∨
            l.data.taperPoint ≤ l.data.product) →
        (l.recipe.shareCount = 0 ∨
          (s.trips.header = true ∧ s.header.wait = [] ∧ s.header.inUse + l.recipe.shareCount ≤ s.header.capacity) →
          (w = .taper → l.taperCeiling = none → ∀ e ∈ l.recipe.checkpoints, e.event ≠ .taperBegin) →
          ∃ t m, exec i s = .next t ∧ s.leftHeld t p a l m f0 f1 (if w = .ramp then .ramp else .taper) ∧
            (t.arm a).ethanolOpening =
              (if l.recipe.ratio = 0 then 0 else l.ethanolLastUsed.getD l.recipe.ethanolStartOpening) ∧
            (t.arm a).noFlow = .running (s.settings.noFlowSeconds * 1000) ∧
            t.header =
              (if l.recipe.shareCount = 0 then s.header
               else
                { s.header with
                  inUse := s.header.inUse + l.recipe.shareCount
                  grants := s.header.grants ++ [{ arm := a, shares := l.recipe.shareCount }] }) ∧
            (w = .ramp → (t.arm a).mainOpening = l.recipe.primeOpening ∧ m.rampBase = some l.data.product) ∧
            (w = .taper →
              m.taperCeiling = some (l.taperCeiling.getD l.recipe.fullOpening) ∧
              (l.data.product < l.data.taperPoint →
                (t.arm a).mainOpening = l.taperCeiling.getD l.recipe.fullOpening) ∧
              (∀ j, 1 ≤ j → j ≤ l.recipe.taperSteps →
                l.data.taperPoint + (j - 1) * l.recipe.taperVolume / l.recipe.taperSteps ≤ l.data.product →
                (∀ k, j < k → k ≤ l.recipe.taperSteps →
                  l.data.product < l.data.taperPoint + (k - 1) * l.recipe.taperVolume / l.recipe.taperSteps) →
                (t.arm a).mainOpening =
                  min (l.recipe.fullOpening
                    - (l.recipe.fullOpening - l.recipe.taperEndOpening) * j / l.recipe.taperSteps)
                    (l.taperCeiling.getD l.recipe.fullOpening))) ∧
            (∀ (r : Nat) (y : Line) (k : RecipeLine), r < 3 → l.lines[r]? = some y → l.recipe.lines[r]? = some k →
              y.counts.skipped = false → 0 < k.spacing →
              (∃ j, 1 ≤ j ∧ l.data.product < l.recipe.primeVolume + j * k.spacing ∧
                (j = 1 ∨ l.recipe.primeVolume + j * k.spacing ≤ l.data.product + k.spacing) ∧
                m.lines[r]? =
                  some { y with nextBoundary := some (l.recipe.primeVolume + j * k.spacing), kept := 0 }) ∧
              (0 < y.kept → { arm := a, load := l.data.number, line := r, owed := y.kept } ∈
                (t.station y.counts.station).queue))) ∧
        (l.recipe.shareCount ≠ 0 → s.trips.header = true →
          (s.header.wait = [] → s.header.capacity < s.header.inUse + l.recipe.shareCount) →
          (∀ w rest, s.header.wait = w :: rest → 0 < w.shares ∧ s.header.capacity < s.header.inUse + w.shares) →
          ∃ t m, exec i s = .next t ∧ s.leftHeld t p a l m f0 f1 .shareWait ∧ (t.arm a).mainOpening = 0 ∧
            (t.arm a).ethanolOpening = 0 ∧ (t.arm a).noFlow = .stopped ∧ m.waitTarget = some w ∧ m.lines = l.lines ∧
            t.header =
              { s.header with
                wait := s.header.wait ++
                  [{ arm := a, shares := l.recipe.shareCount
                     timer := if s.settings.shareWaitSeconds = 0 then .stopped
                       else .running (s.settings.shareWaitSeconds * 1000) }] }) ∧
        (l.recipe.shareCount ≠ 0 → s.trips.header = false →
          ∃ t m, exec i s = .next t ∧ s.leftHeld t p a l m f0 f1 .closing ∧ t.closingBegun a ∧
            m.data.faults = { l.data.faults with ethanolSupply := true } ∧
            m.endDue = some (l.endDue.getD .ethanolSupply)))

/-- MARK CHECKPOINT, for checkpoint 0 as for 1. On a clear flag it sets the flag and raises CHECKPOINT on TA, TB and the
lane's port and on no other; on a set flag it raises nothing. Mode NOTE does no more: the revision advances by one where the
flag was clear, and nothing else changes but the requesting port's answer. Mode HALT adds the checkpoint's cause: a load that
a hold reaches goes to HELD as at any first cause, in one event; a held one has the cause joined to its set, the revision
advancing where flag or set changed. -/
def Obligations.MarkCheckpointSetsFlag : Prop :=
  ∀ (p : Port) (tag : Byte) (a : Fin 8) (n : Word24) (l : Load) (c : Fin 2) (flag : Bool) (cause : HoldCause) (s : State),
    s.free p = true → p.isTerminal = true → s.names p a n l → (s.arm a).state ≠ .closing →
    flag = (if c = 0 then l.data.flag0 else l.data.flag1) → cause = (if c = 0 then .checkpoint0 else .checkpoint1) →
    (∃ u, exec (.markCheckpoint p tag (armByte a) n (BitVec.ofNat 8 c.val) 0#8) s =
        .next (u.answered p .markCheckpoint tag (okay (.held l.data.number (s.arm a).state l.data.causes))) ∧
      { u with ports := s.ports } =
        (if flag = true then s
         else
          s.modLoad a fun y =>
            { y with
              data :=
                { y.data with
                  flag0 := decide (c = 0) || y.data.flag0
                  flag1 := decide (c = 1) || y.data.flag1
                  revision := if 65535 ≤ y.data.revision then 1 else y.data.revision + 1 } }) ∧
      s.portsRaised u .checkpoint (if flag = true then [] else lanePorts (laneOf a))) ∧
    (∀ r, (s.arm a).state.toResume = some r →
      ∃ t m, exec (.markCheckpoint p tag (armByte a) n (BitVec.ofNat 8 c.val) 1#8) s = .next t ∧
        t.load? a = some m ∧ (t.arm a).state = .held ∧ (t.arm a).mainOpening = 0 ∧ (t.arm a).ethanolOpening = 0 ∧
        (t.arm a).hold = .running (s.settings.holdMinutes * 60000) ∧ (t.arm a).noFlow = .stopped ∧
        m.resume = some r ∧ l.amendmentApplied m ∧ t.header.sharesOf a = 0 ∧
        m.data.causes = l.data.causes.put true cause ∧
        m.data.flag0 = (decide (c = 0) || l.data.flag0) ∧ m.data.flag1 = (decide (c = 1) || l.data.flag1) ∧
        m.data.revision = (if 65535 ≤ l.data.revision then 1 else l.data.revision + 1) ∧
        (flag = false → ∀ q ∈ lanePorts (laneOf a), t.flagged q .checkpoint = true) ∧
        t.response? p = some (okay (.held l.data.number .held m.data.causes)) ∧ s.SameOutsideArms t) ∧
    ((s.arm a).state = .held →
      ∃ u, exec (.markCheckpoint p tag (armByte a) n (BitVec.ofNat 8 c.val) 1#8) s =
          .next (u.answered p .markCheckpoint tag
            (okay (.held l.data.number .held (l.data.causes.put true cause)))) ∧
        { u with ports := s.ports } =
          s.modLoad a (fun y =>
            { y with
              data :=
                { y.data with
                  flag0 := decide (c = 0) || y.data.flag0
                  flag1 := decide (c = 1) || y.data.flag1
                  causes := y.data.causes.put true cause
                  revision :=
                    if flag = true ∧ y.data.causes.has cause = true then y.data.revision
                    else if 65535 ≤ y.data.revision then 1 else y.data.revision + 1 } }) ∧
        s.portsRaised u .checkpoint (if flag = true then [] else lanePorts (laneOf a)))

/-! ## Timers of a load -/

/-- The no-flow timer's running out in a flowing state adds NO_FLOW to the fault set and makes NO_FLOW due if nothing is;
the hold timer's running out in HELD makes HOLD_TIMEOUT due if nothing is and adds no fault. Either sends the arm to
CLOSING: both valves shut, no cause and no resume phase left, a pending amendment applied with the points derived anew, no
shares, the settle timer started, the revision advanced by one. -/
def Obligations.LoadTimersClose : Prop :=
  ∀ (a : Fin 8) (l : Load) (s : State), s.load? a = some l →
    ((s.arm a).state.isFlowing = true → (s.arm a).noFlow.isRunning = true →
      ∃ t m, exec (.noFlowTimeout a) s = .next t ∧ t.load? a = some m ∧ (t.arm a).state = .closing ∧
        (t.arm a).mainOpening = 0 ∧ (t.arm a).ethanolOpening = 0 ∧ (t.arm a).noFlow = .stopped ∧
        (t.arm a).settle = .running (s.settings.settleTenths * 100) ∧ m.data.faults.noFlow = true ∧
        m.endDue = some (l.endDue.getD .noFlow) ∧ l.amendmentApplied m ∧
        m.data.causes.isEmpty = true ∧ m.resume = none ∧
        m.data.revision = (if 65535 ≤ l.data.revision then 1 else l.data.revision + 1) ∧
        t.header.sharesOf a = 0 ∧ s.SameOutsideArms t) ∧
    ((s.arm a).state = .held → (s.arm a).hold.isRunning = true →
      ∃ t m, exec (.holdTimeout a) s = .next t ∧ t.load? a = some m ∧ (t.arm a).state = .closing ∧
        (t.arm a).mainOpening = 0 ∧ (t.arm a).ethanolOpening = 0 ∧ (t.arm a).hold = .stopped ∧
        (t.arm a).settle = .running (s.settings.settleTenths * 100) ∧ m.data.faults = l.data.faults ∧
        m.endDue = some (l.endDue.getD .holdTimeout) ∧ l.amendmentApplied m ∧
        m.data.causes.isEmpty = true ∧ m.resume = none ∧
        m.data.revision = (if 65535 ≤ l.data.revision then 1 else l.data.revision + 1) ∧
        t.header.sharesOf a = 0 ∧ s.SameOutsideArms t)

/-- The settle timer's running out in CLOSING with no shot in flight completes the load: the arm is IDLE, the record joins
the tail of the delivered list with its end status, end time, final ratio and in-tolerance, the reservation is consumed,
and LOAD_ENDED is raised on TA, TB and the lane's port and on no other. -/
def Obligations.SettleTimeoutCompletes : Prop :=
  ∀ (a : Fin 8) (l : Load) (s : State), s.load? a = some l → (s.arm a).state = .closing →
    (s.arm a).settle.isRunning = true → s.shotInFlight a l.data.number = false →
      ∃ t r, exec (.settleTimeout a) s = .next t ∧ t.load? a = none ∧ (t.arm a).state = .idle ∧
        (t.arm a).mainOpening = 0 ∧ (t.arm a).ethanolOpening = 0 ∧ (t.arm a).settle = .stopped ∧
        t.delivered = s.delivered ++ [r] ∧ t.reservations = s.reservations - 1 ∧
        r.data.number = l.data.number ∧ r.armState = .idle ∧ r.data.endTime = some s.seconds ∧
        r.data.endStatus = some (l.endDue.getD .complete) ∧ r.data.gasoline = l.data.gasoline ∧
        r.data.ethanol = l.data.ethanol ∧
        r.data.finalRatio = some (if l.data.gasoline + l.data.ethanol = 0 then 0
          else l.data.ethanol * 10000 / (l.data.gasoline + l.data.ethanol)) ∧
        (∀ f, r.data.finalRatio = some f → r.data.inTolerance =
          some (decide ((f - 10 * l.data.ratio) + (10 * l.data.ratio - f) ≤ 10 * l.data.tolerance))) ∧
        r.data.revision = (if 65535 ≤ l.data.revision then 1 else l.data.revision + 1) ∧
        r.lines = l.lines.map Line.counts ∧
        s.raisedOn t .loadEnded (lanePorts (laneOf a)) ∧ s.SameOutsideLoads t

/-- The share wait timer's running out raises SHARE_WAIT_LONG on TA, TB and the lane's port and on no other; where no
checkpoint entry of the load asks for the event, the arm keeps its place on the wait list and nothing else changes. Where
entries for SHARE_WAIT_LONG find their flags clear, these are set and CHECKPOINT is raised on the same ports; in mode NOTE the
arm keeps its place; in mode HALT the cause joins the set and the arm enters HELD from SHARE_WAIT, its wait target kept, and
leaves the list. -/
def Obligations.ShareWaitLongRaises : Prop :=
  ∀ (a : Fin 8) (l : Load) (s : State), s.load? a = some l →
    (∃ w ∈ s.header.wait, w.arm = a ∧ w.timer.isRunning = true) →
    ((∀ c ∈ l.recipe.checkpoints, c.event ≠ .shareWaitLong) →
      ∃ t, exec (.shareWaitLong a) s = .next t ∧ s.portsRaised t .shareWaitLong (lanePorts (laneOf a)) ∧
        { t with ports := s.ports } =
          s.modHeader (fun h =>
            { h with wait := h.wait.map fun w => if w.arm = a then { w with timer := .expired } else w })) ∧
    ∀ hit0 hit1 halt0 halt1 : Bool, (s.arm a).state = .shareWait →
      l.entryAnswers .shareWaitLong 0 l.data.flag0 hit0 halt0 →
      l.entryAnswers .shareWaitLong 1 l.data.flag1 hit1 halt1 →
      ∃ t u k, exec (.shareWaitLong a) s = .next t ∧ s.portsRaised u .shareWaitLong (lanePorts (laneOf a)) ∧
        { u with ports := s.ports } = s ∧ u.eventFired t a l k .shareWait hit0 hit1 halt0 halt1 ∧
        k.waitTarget = l.waitTarget ∧ (∀ q ∈ lanePorts (laneOf a), t.flagged q .shareWaitLong = true) ∧
        ((halt0 || halt1) = false →
          t.header.wait = s.header.wait.map fun w => if w.arm = a then { w with timer := .expired } else w) ∧
        ((halt0 || halt1) = true → t.notListed a) ∧ s.SameOutsideArms t

/-! ## Records, metering, header -/

/-- READ LOAD BY_ARM with the link option answers with the seconds counter and the whole active record and takes a load
link at its revision; without the link option it answers with the same and leaves the link. Nothing else
changes. -/
def Obligations.ReadLoadReturnsRecord : Prop :=
  ∀ (p : Port) (tag : Byte) (a : Fin 8) (l : Load) (s : State),
    s.free p = true → (p.isTerminal = true ∨ p = .lp (laneOf a)) → s.load? a = some l → l.data.lane = laneOf a →
    ∀ d : LoadRecord, d =
        { data := l.data, armState := (s.arm a).state, resumePhase := l.resume,
          mainOpening := (s.arm a).mainOpening, ethanolOpening := (s.arm a).ethanolOpening,
          sharesHeld := s.header.sharesOf a, lines := l.lines.map Line.counts } →
      exec (.readLoad p tag 1#8 (BitVec.ofNat 24 a.val) 1#8) s =
        .next ((s.modPort p fun x => { x with link := some (.load l.data.number l.data.revision) }).answered p .readLoad
          tag (okay (.load s.seconds d))) ∧
      exec (.readLoad p tag 1#8 (BitVec.ofNat 24 a.val) 0#8) s =
        .next (s.answered p .readLoad tag (okay (.load s.seconds d)))

/-- READ DELIVERED with 0 answers with the oldest record of the list and changes nothing; CLEAR DELIVERED of a record that
the list holds and no active load carries removes it and answers with the records left. -/
def Obligations.DeliveredListRequests : Prop :=
  ∀ (p : Port) (tag : Byte) (s : State), s.free p = true → p.isTerminal = true →
    (∀ r rest, s.delivered = r :: rest →
      exec (.readDelivered p tag 0#24) s =
        .next (s.answered p .readDelivered tag
          (okay (.delivered s.seconds 1 s.delivered.length s.reservations r)))) ∧
    ∀ n : Word24, 1 ≤ n.toNat → n.toNat ≤ 16777214 → (∀ a l, s.load? a = some l → l.data.number ≠ n.toNat) →
      (∃ r ∈ s.delivered, r.data.number = n.toNat) →
      exec (.clearDelivered p tag n) s =
        .next (({ s with delivered := s.delivered.filter fun r => r.data.number != n.toNat } : State).answered p
          .clearDelivered tag
            (okay (.cleared n.toNat (s.delivered.filter fun r => r.data.number != n.toNat).length)))

/-- CLEAR STRAY from a terminal port answers with the count that the counter held and returns it to 0, no longer silent (the
mark of R90, log 13); a meter number above
15 is BAD_FIELD 1; from a lane port it is NOT_PERMITTED. Nothing else changes, and no notice is raised. -/
def Obligations.ClearStrayReturnsCount : Prop :=
  ∀ (p : Port) (tag meter : Byte) (s : State), s.free p = true →
    (p.isTerminal = false →
      exec (.clearStray p tag meter) s = .next (s.answered p .clearStray tag (refused .notPermitted))) ∧
    (p.isTerminal = true → 15 < meter.toNat →
      exec (.clearStray p tag meter) s = .next (s.answered p .clearStray tag (badFieldAt 1))) ∧
    (p.isTerminal = true → ∀ m : Fin 16, m.val = meter.toNat →
      exec (.clearStray p tag meter) s =
        .next ((s.modMeter m fun x => { x with stray := 0, silent := false }).answered p .clearStray tag
          (okay (.stray m.val (s.meter m).stray))))

/-- SET HEADER CAPACITY from a terminal port: above 16 is BAD_FIELD 1, below the shares in use IN_USE. A capacity not above
the present one, a raise with no one waiting, with a head that does not fit or with the permissive lost is taken and grants
nothing. Any raise serves the wait list from its head until the head does not fit, and answers with what it has left. The
head that fits is granted its shares, and its arm, V being where the wait has left it, goes to CLOSING at or past the preset
and to an ordered flush at or past the flush point, giving them up again, else to TAPER at or past the taper point or with
target TAPER, else to RAMP from its beginning; its record's revision advances by one. -/
def Obligations.SetHeaderCapacityServes : Prop :=
  ∀ (p : Port) (tag capacity : Byte) (s : State), s.free p = true → p.isTerminal = true →
    (16 < capacity.toNat →
      exec (.setHeaderCapacity p tag capacity) s = .next (s.answered p .setHeaderCapacity tag (badFieldAt 1))) ∧
    (capacity.toNat ≤ 16 → capacity.toNat < s.header.inUse →
      exec (.setHeaderCapacity p tag capacity) s = .next (s.answered p .setHeaderCapacity tag (refused .inUse))) ∧
    (capacity.toNat ≤ 16 → s.header.inUse ≤ capacity.toNat →
      (capacity.toNat ≤ s.header.capacity ∨ s.trips.header = false ∨
        ∀ w rest, s.header.wait = w :: rest → capacity.toNat < s.header.inUse + w.shares) →
      exec (.setHeaderCapacity p tag capacity) s =
        .next ((s.modHeader fun h => { h with capacity := capacity.toNat }).answered p .setHeaderCapacity tag
          (okay (.capacity capacity.toNat s.header.inUse s.header.wait.length)))) ∧
    (capacity.toNat ≤ 16 → s.header.inUse ≤ capacity.toNat → s.header.capacity < capacity.toNat →
      s.trips.header = true →
      ∃ t, exec (.setHeaderCapacity p tag capacity) s = .next t ∧ t.header.capacity = capacity.toNat ∧
        (∀ w rest, t.header.wait = w :: rest → capacity.toNat < t.header.inUse + w.shares) ∧
        t.response? p = some (okay (.capacity capacity.toNat t.header.inUse t.header.wait.length)) ∧
        s.SameOutsideArms t ∧
        ∀ w rest l, s.header.wait = w :: rest → s.header.inUse + w.shares ≤ capacity.toNat →
          (∀ x ∈ rest, x.arm ≠ w.arm) → (∀ g ∈ s.header.grants, g.arm ≠ w.arm) →
          s.load? w.arm = some l → (s.arm w.arm).state = .shareWait → l.data.pending = none →
          (∀ c ∈ l.recipe.checkpoints, c.event ≠ .taperBegin) →
          ∃ m, t.load? w.arm = some m ∧ (∀ x ∈ t.header.wait, x.arm ≠ w.arm) ∧
            m.data.revision = (if 65535 ≤ l.data.revision then 1 else l.data.revision + 1) ∧
            (l.data.preset ≤ l.data.product →
              (t.arm w.arm).state = .closing ∧ t.header.sharesOf w.arm = 0) ∧
            (l.data.product < l.data.preset → l.data.flushPoint ≤ l.data.product →
              (t.arm w.arm).state = .flush ∧ m.flushEnd = some l.data.preset ∧ m.flushKind = some .ordered ∧
                t.header.sharesOf w.arm = 0) ∧
            (l.data.product < l.data.preset → l.data.product < l.data.flushPoint →
              (l.data.taperPoint ≤ l.data.product ∨ l.waitTarget = some .taper) →
              (t.arm w.arm).state = .taper ∧ m.taperCeiling = some (l.taperCeiling.getD l.recipe.fullOpening) ∧
                t.header.sharesOf w.arm = w.shares) ∧
            (l.data.product < l.data.preset → l.data.product < l.data.flushPoint →
              l.data.product < l.data.taperPoint → l.waitTarget ≠ some .taper →
              (t.arm w.arm).state = .ramp ∧ (t.arm w.arm).mainOpening = l.recipe.primeOpening ∧
                m.rampBase = some l.data.product ∧ t.header.sharesOf w.arm = w.shares))

/-! ## Stations and the injector bus -/

/-- An accepted RESTORE STATION leaves the port BUSY with no response formed; the station's restore is pending, and its
request waits while the bus is busy, or its CLEAR frame is being sent when the bus was free. When the CLEAR transaction ends,
the pending request is answered with OK, the station's state then, and the reply state or the no-reply marker: a reply READY
makes the station IDLE with no manifold arm, any other leaves its state, an accepted one resets its failures, and none
leaves them; a CLEAR whose station has been disabled meanwhile is answered with OFF and no reply (log 19). The bus is handed
on. -/
def Obligations.RestoreStationAnswered : Prop :=
  (∀ (p : Port) (tag : Byte) (st : Fin 4) (s : State), s.free p = true → p.isTerminal = true →
    (s.station st).state = .fault → (s.station st).restore = none →
    (s.bus.txn ≠ none →
      exec (.restoreStation p tag (BitVec.ofNat 8 st.val)) s =
        .next ((s.modStation st fun x => { x with restore := some p, request := true }).taken p .restoreStation tag)) ∧
    (s.bus.txn = none → (∀ k, (s.station k).request = false) →
      exec (.restoreStation p tag (BitVec.ofNat 8 st.val)) s =
        .next ((({ s with
          bus :=
            { pointer := st
              txn := some
                { station := st, kind := .clear, arm := 0, size := 0, phase := .sending, discarded := false,
                  shot := none } } } : State).modStation st fun x =>
                    { x with restore := some p, request := false }).taken p .restoreStation tag))) ∧
  ∀ (x : Txn) (q : Port) (code tag : Byte) (s : State), s.bus.txn = some x → x.phase = .window → x.kind = .clear →
    (s.station x.station).restore = some q → (s.port q).answer = .busy code tag none →
    (∀ (b0 b1 b2 : Byte) (r : Reply), x.discarded = false → x.accepts b0 b1 b2 = some r →
      ∃ t, exec (.busReply b0 b1 b2) s = .next t ∧ (t.station x.station).restore = none ∧
        (t.station x.station).failures = 0 ∧ (t.station x.station).lowLevel = r.low ∧
        (r.state = .ready → (t.station x.station).state = .idle ∧ (t.station x.station).manifold = none) ∧
        (r.state ≠ .ready → (t.station x.station).state = (s.station x.station).state ∧
          (t.station x.station).manifold = (s.station x.station).manifold) ∧
        (t.station x.station).queue = (s.station x.station).queue ∧
        (t.port q).answer = .busy code tag (some (okay (.restored (t.station x.station).state (some r.state)))) ∧
        t.arms = s.arms ∧ t.header = s.header ∧ s.SameOutsideLoads t ∧
        s.busHandedOn t fun k => (s.station k).request) ∧
    (∀ (b0 b1 b2 : Byte) (r : Reply), x.discarded = true → x.accepts b0 b1 b2 = some r →
      exec (.busReply b0 b1 b2) s = exec .replyWindowClose s) ∧
    ∃ t, exec .replyWindowClose s = .next t ∧
      t.station x.station =
        { s.station x.station with restore := none, request := (t.station x.station).request } ∧
      (t.port q).answer = .busy code tag (some (okay (.restored (s.station x.station).state none))) ∧
      t.arms = s.arms ∧ t.header = s.header ∧ s.SameOutsideLoads t ∧ s.busHandedOn t fun k => (s.station k).request

/-- CHANGEOVER_TIMEOUT returns a station to IDLE, asking for the bus if its queue is not empty; POLL_TIMER_EXPIRY in
SHOOTING asks for the bus likewise. While the bus is busy the station waits with its request; where it is free, the first
station asking is granted it and its frame formed at once: of a station in SHOOTING, the POLL of its shot. SHOT_TIMEOUT in
SHOOTING puts the station in FAULT, with all that a fault does to the loads: the shot in flight unconfirmed, the other owed
and kept shots missed, ADDITIVE_FAULT and a cut flush for a required line. (The order of a fault's parts is log 21; that a
shot whose frame is still on the bus is in flight is log 17, the model's choice.) -/
def Obligations.StationTimersRunOut : Prop :=
  ∀ (st : Fin 4) (s : State),
    ((s.station st).state = .changeover → (s.station st).changeover.isRunning = true → (s.station st).queue = [] →
      exec (.changeoverTimeout st) s =
        .next (s.modStation st fun x => { x with state := .idle, changeover := .expired })) ∧
    ((s.station st).state = .changeover → (s.station st).changeover.isRunning = true → (s.station st).queue ≠ [] →
      s.bus.txn ≠ none →
      exec (.changeoverTimeout st) s =
        .next (s.modStation st fun x => { x with state := .idle, changeover := .expired, request := true })) ∧
    ((s.station st).state = .changeover → (s.station st).changeover.isRunning = true → (s.station st).queue ≠ [] →
      s.bus.txn = none →
      ∃ t, exec (.changeoverTimeout st) s = .next t ∧ (t.station st).state = .idle ∧
        (t.station st).queue = (s.station st).queue ∧ s.busHandedOn t (s.asksWith st true)) ∧
    ((s.station st).state = .shooting → (s.station st).poll.isRunning = true → s.bus.txn ≠ none →
      exec (.pollTimerExpiry st) s =
        .next (s.modStation st fun x => { x with poll := .expired, request := true })) ∧
    ((s.station st).state = .shooting → (s.station st).poll.isRunning = true → s.bus.txn = none →
      ∃ t, exec (.pollTimerExpiry st) s = .next t ∧ (t.station st).state = .shooting ∧
        (t.station st).shot = (s.station st).shot ∧ (t.station st).queue = (s.station st).queue ∧
        t.arms = s.arms ∧ s.busHandedOn t (s.asksWith st true)) ∧
    ((s.station st).state = .shooting → (s.station st).shotTimer.isRunning = true →
      ∃ t, exec (.shotTimeout st) s = .next t ∧ s.stationFaulted t st ∧
        (t.station st).failures = (s.station st).failures ∧ (t.station st).lowLevel = (s.station st).lowLevel ∧
        (∀ x, s.bus.txn = some x → x.station = st → t.bus.txn = some { x with shot := none, discarded := true }))

/-- A reply accepted in its window, of a transaction that is not discarded, sets the low-level flag and resets the failures
(to a SELECT too: log 37, the model's reading). To a SELECT, MOVING or READY begins the changeover with the named arm at the
manifold; FAULTED or REFUSED puts the station in FAULT (logs 17 and 21). To a SHOT or POLL, PUMPING (to a POLL also MOVING) starts the poll timer; FAULTED is a station fault;
DONE delivers the shot in flight with its measured volume, READY or REFUSED makes it missed and fires SHOT_MISSED: the station
is IDLE without a shot, asking again if its queue is not empty, the head entry of an IN_ENTRY shot being dropped or moved to
the tail with one less; the load's line changes by that shot alone, no load's for a DETACHED one, and a load in CLOSING that
waited for it completes. But for a fault, and for a load that a checkpoint entry for SHOT_MISSED reaches, the bus is handed on
to the next station asking. Bytes outside a window, and a frame that is not accepted, one whose state is not listed for the
frame sent among them (log 18, the model's reading), change nothing. -/
def Obligations.BusReplyTaken : Prop :=
  (∀ (b0 b1 b2 : Byte) (x : Txn) (r : Reply) (s : State), s.bus.txn = some x → x.phase = .window →
    x.discarded = false → x.accepts b0 b1 b2 = some r →
    (x.kind = .select → (r.state = .moving ∨ r.state = .ready) →
      ∃ t, exec (.busReply b0 b1 b2) s = .next t ∧ (t.station x.station).state = .changeover ∧
        (t.station x.station).manifold = some x.arm ∧ (t.station x.station).failures = 0 ∧
        (t.station x.station).lowLevel = r.low ∧
        (t.station x.station).changeover = .running (s.station x.station).changeoverMs ∧
        (t.station x.station).queue = (s.station x.station).queue ∧ t.arms = s.arms ∧ t.header = s.header ∧
        s.SameOutsideLoads t ∧ s.busHandedOn t (s.asksWith x.station false)) ∧
    ((x.kind = .select ∧ (r.state = .faulted ∨ r.state = .refused)) ∨
        ((x.kind = .shot ∨ x.kind = .poll) ∧ r.state = .faulted) →
      ∃ t, exec (.busReply b0 b1 b2) s = .next t ∧ s.stationFaulted t x.station ∧
        (t.station x.station).failures = 0 ∧ (t.station x.station).lowLevel = r.low) ∧
    ((x.kind = .shot ∨ x.kind = .poll) → (r.state = .pumping ∨ r.state = .moving) →
      ∃ t, exec (.busReply b0 b1 b2) s = .next t ∧
        t.station x.station =
          { s.station x.station with
            failures := 0
            lowLevel := r.low
            poll := .running 100
            request := (t.station x.station).request } ∧
        t.arms = s.arms ∧ t.header = s.header ∧ s.SameOutsideLoads t ∧
        s.busHandedOn t fun k => (s.station k).request) ∧
    (∀ sh, (x.kind = .shot ∨ x.kind = .poll) → (r.state = .done ∨ r.state = .ready ∨ r.state = .refused) →
      s.shotOf x.station = some sh →
      ∃ t, exec (.busReply b0 b1 b2) s = .next t ∧ (t.station x.station).shot = none ∧
        (t.station x.station).poll = .stopped ∧ (t.station x.station).shotTimer = .stopped ∧
        (t.station x.station).state = .idle ∧ (t.station x.station).failures = 0 ∧
        (t.station x.station).lowLevel = r.low ∧ (t.station x.station).manifold = (s.station x.station).manifold ∧
        s.SameOutsideLoads t ∧
        (sh.standing = .detached → t.arms = s.arms ∧ t.header = s.header ∧ t.delivered = s.delivered) ∧
        ((r.state = .done ∨ sh.standing = .detached ∨
            ∀ l, s.load? sh.arm = some l → ∀ c ∈ l.recipe.checkpoints, c.event ≠ .shotMissed) →
          (sh.standing ≠ .inEntry → (t.station x.station).queue = (s.station x.station).queue) ∧
          (sh.standing = .inEntry → ∀ e rest, (s.station x.station).queue = e :: rest →
            (t.station x.station).queue =
              (if e.owed ≤ 1 then rest else rest ++ [{ e with owed := e.owed - 1 }])) ∧
          s.busHandedOn t (s.asksWith x.station (decide ((t.station x.station).queue ≠ [])))) ∧
        (∀ l y, sh.standing ≠ .detached → s.load? sh.arm = some l → l.lines[sh.line]? = some y → 0 < y.counts.owed →
          ((s.arm sh.arm).state ≠ .closing ∨ (s.arm sh.arm).settle ≠ .expired →
            (r.state = .done →
              t.arms =
                (s.modLine sh.arm sh.line fun z =>
                  { z with
                    counts :=
                      { z.counts with
                        delivered := z.counts.delivered + 1
                        owed := z.counts.owed - 1
                        volume := z.counts.volume + r.volume } }).arms ∧
              t.header = s.header) ∧
            (r.state ≠ .done → (∀ c ∈ l.recipe.checkpoints, c.event ≠ .shotMissed) →
              t.arms =
                (s.modLine sh.arm sh.line fun z =>
                  { z with
                    counts := { z.counts with missed := z.counts.missed + 1, owed := z.counts.owed - 1 } }).arms ∧
              t.header = s.header) ∧
            (r.state ≠ .done → ∀ c rest, l.recipe.checkpoints = c :: rest → c.event = .shotMissed →
              ∃ m z, t.load? sh.arm = some m ∧ m.data.flag0 = true ∧ m.lines[sh.line]? = some z ∧
                z.counts = { y.counts with missed := y.counts.missed + 1, owed := y.counts.owed - 1 } ∧
                (c.mode = .halt → l.data.flag0 = false → (s.arm sh.arm).state.toResume ≠ none →
                  (t.arm sh.arm).state = .held ∧ m.data.causes.checkpoint0 = true))) ∧
          ((s.arm sh.arm).state = .closing → (s.arm sh.arm).settle = .expired → sh.load = l.data.number →
            (∀ k, k ≠ x.station → ∀ z, s.shotOf k = some z → z.countsTo sh.arm l.data.number = false) →
            t.load? sh.arm = none ∧ (t.arm sh.arm).state = .idle ∧
              ∃ d c, t.delivered = s.delivered ++ [d] ∧ d.data.number = l.data.number ∧
                d.lines[sh.line]? = some c ∧ c.owed = y.counts.owed - 1 ∧
                c.delivered = y.counts.delivered + (if r.state = .done then 1 else 0) ∧
                c.missed = y.counts.missed + (if r.state = .done then 0 else 1))))) ∧
  ∀ (b0 b1 b2 : Byte) (s : State),
    (∀ x, s.bus.txn = some x → x.phase = .sending ∨ x.accepts b0 b1 b2 = none) →
      exec (.busReply b0 b1 b2) s = .next s

/-- A reply window that closes without an accepted reply counts one reply failure for a SELECT, SHOT or POLL that is not
discarded. Below three the station keeps its state: after a SELECT it asks again if its queue is not empty, after a SHOT or
POLL its poll timer is started, and the bus is handed on. The third puts it in FAULT with all that a fault does to the loads
(logs 17 and 21). -/
def Obligations.ReplyWindowCloseCountsFailure : Prop :=
  ∀ (x : Txn) (s : State), s.bus.txn = some x → x.phase = .window → x.discarded = false → x.kind ≠ .clear →
    ∃ t, exec .replyWindowClose s = .next t ∧
      (t.station x.station).failures = (s.station x.station).failures + 1 ∧ s.SameOutsideLoads t ∧
      ((s.station x.station).failures + 1 < 3 →
        t.station x.station =
          { s.station x.station with
            failures := (s.station x.station).failures + 1
            poll := if x.kind = .select then (s.station x.station).poll else .running 100
            request := (t.station x.station).request } ∧
        t.arms = s.arms ∧ t.header = s.header ∧
        s.busHandedOn t (s.asksWith x.station
          (if x.kind = .select then decide ((s.station x.station).queue ≠ []) else (s.station x.station).request))) ∧
      (3 ≤ (s.station x.station).failures + 1 → s.stationFaulted t x.station)

/-- The end of a command frame opens the reply window; with a SHOT frame the station enters SHOOTING with its shot in flight
and its shot timeout started. Nothing else changes. That the shot stands in the transaction until then, and becomes the
station's shot in flight at the frame's end, is the model's choice (log 17). -/
def Obligations.CommandFrameSentOpensWindow : Prop :=
  ∀ (x : Txn) (s : State), s.bus.txn = some x → x.phase = .sending →
    (x.shot = none →
      exec .commandFrameSent s =
        .next { s with bus := { s.bus with txn := some { x with phase := .window } } }) ∧
    ∀ sh, x.shot = some sh →
      exec .commandFrameSent s =
        .next (({ s with bus := { s.bus with txn := some { x with phase := .window, shot := none } } }
          : State).modStation x.station fun y =>
            { y with state := .shooting, shot := some sh, shotTimer := .running y.shotTimeoutMs, request := false })

/-! ## Meters and probes -/

/-- A pulse on a disabled meter changes nothing; one short of the K-factor counts the divider down; the one that completes
a tick reloads the divider and, with no load on the arm, advances the stray counter, which saturates. The tick that makes the
counter equal to the threshold raises STRAY_FLOW on TA and TB, unless the counter is silent, and leaves it silent: a climb
raises it once also where the threshold has been raised again (log 13, the model's choice). -/
def Obligations.PulseCountsDownOrStrays : Prop :=
  ∀ (m : Fin 16) (s : State),
    ((s.meter m).enable = false → exec (.meterPulse m) s = .next s) ∧
    ((s.meter m).enable = true → 1 < (s.meter m).divider →
      exec (.meterPulse m) s = .next (s.modMeter m fun x => { x with divider := x.divider - 1 })) ∧
    ((s.meter m).enable = true → (s.meter m).divider ≤ 1 → s.load? (armOfMeter m) = none →
      ∃ t, exec (.meterPulse m) s = .next t ∧
        { t with ports := s.ports } =
          s.modMeter m (fun x =>
            { x with
              divider := x.kFactor
              stray := max x.stray (min (x.stray + 1) 65535)
              silent := x.silent || decide (x.stray < 65535 ∧ x.stray + 1 = s.settings.strayThreshold) }) ∧
        s.portsRaised t .strayFlow
          (if (s.meter m).stray < 65535 ∧ (s.meter m).stray + 1 = s.settings.strayThreshold ∧ (s.meter m).silent = false
           then [.ta, .tb] else []))

/-- A tick counted to a load adds one decilitre to its V, and to its G for a gasoline meter or its E for an ethanol meter,
in every state of the arm; the load stays on the arm. The factor of the tick is that of the reading's band in the line's table
where the channel is VALID, else 10000, and then TEMP_SUBSTITUTED is set; it is added to the meter's remainder, and each whole
10000 of that adds one net decilitre, up to the ceiling. In CLOSING the tick is overrun and restarts the settle timer; the
overrun that first exceeds the limit adds OVERRUN and raises it on TA and TB; in the other states the overrun stays. At the
ceiling of V none of G, E, V and overrun advances. -/
def Obligations.LoadTickAdvancesVolumes : Prop :=
  ∀ (m : Fin 16) (l : Load) (factor n : Nat) (s : State), (s.meter m).enable = true → (s.meter m).divider ≤ 1 →
    s.load? (armOfMeter m) = some l → (s.arm (armOfMeter m)).state ≠ .idle →
    factor =
      (if (s.probe m).condition = .valid then
        (if m.val % 2 = 0 then s.settings.gasolineTable else s.settings.ethanolTable).toList.getD
          (max 0 (min 16 (((s.probe m).reading + 300) / 50))).toNat 0
       else 10000) →
    n = ((s.meter m).remainder + factor) / 10000 →
      ∃ t k, exec (.meterPulse m) s = .next t ∧ t.load? (armOfMeter m) = some k ∧
        k.data.number = l.data.number ∧
        (l.data.product < 16777215 → k.data.product = l.data.product + 1 ∧
          k.data.gasoline = l.data.gasoline + (if m.val % 2 = 0 then 1 else 0) ∧
          k.data.ethanol = l.data.ethanol + (if m.val % 2 = 0 then 0 else 1)) ∧
        (16777215 ≤ l.data.product → k.data.product = l.data.product ∧ k.data.gasoline = l.data.gasoline ∧
          k.data.ethanol = l.data.ethanol ∧ k.data.overrun = l.data.overrun) ∧
        k.data.gasolineNet =
          (if m.val % 2 = 0 then min (l.data.gasolineNet + n) 16777215 else l.data.gasolineNet) ∧
        k.data.ethanolNet = (if m.val % 2 = 0 then l.data.ethanolNet else min (l.data.ethanolNet + n) 16777215) ∧
        k.data.tempSubstituted = (l.data.tempSubstituted || decide ((s.probe m).condition ≠ .valid)) ∧
        t.meter m =
          { s.meter m with
            divider := (s.meter m).kFactor, remainder := ((s.meter m).remainder + factor) % 10000 } ∧
        (∀ j, j ≠ m → t.meter j = s.meter j) ∧ s.SameOutsideLoads t ∧
        ((s.arm (armOfMeter m)).state ≠ .closing → k.data.overrun = l.data.overrun) ∧
        ((s.arm (armOfMeter m)).state = .closing → l.data.product < 16777215 →
          k.data.overrun = l.data.overrun + 1 ∧ (t.arm (armOfMeter m)).state = .closing ∧
          (t.arm (armOfMeter m)).settle = .running (s.settings.settleTenths * 100) ∧
          k.data.faults =
            (if s.settings.overrunLimit < l.data.overrun + 1 then { l.data.faults with overrun := true }
             else l.data.faults) ∧
          k.data.revision = l.data.revision ∧
          s.portsRaised t .overrun
            (if s.settings.overrunLimit < l.data.overrun + 1 ∧ l.data.faults.overrun = false then [.ta, .tb] else []))

/-- The volume points, for a tick counted to a load. V at the preset sends a flowing arm to CLOSING, and V at the flush end an
arm in FLUSH, without a checkpoint firing; with no checkpoint entry V at the flush point sends a blending arm to an ordered
flush to the preset, or to a pending one (CLOSING if V has reached it). Either applies a pending amendment (one pending at a
trim point is applied first: O42). With no entry and none pending: in PRIME, V at the prime volume and below every other point
asks for the shares: a share count of 0 and a grant at once lead to RAMP at the prime opening, a head or count that does not
fit to SHARE_WAIT at the list's tail, a lost permissive to CLOSING with ETHANOL_SUPPLY. Where the tick is no trim point and no
shot boundary: in RAMP below the taper point step k sets the prime opening plus (full - prime) k / n, the last step enters
FULL, any other volume leaves the opening; in RAMP or FULL V at or past the taper point enters TAPER, whose ceiling a first
entry sets to the present opening, and there as in TAPER a step is taken at its own volume alone, setting the lower of its
opening and the present one (that opening's rounding is log 12, the model's reading). Checkpoint entries with a clear flag: one
for AT_VOLUME fires at the tick that brings V to its volume below the preset, in every state that counts ticks but CLOSING;
one for PRIME_DONE as PRIME is left for RAMP; one for TAPER_BEGIN at the first entry to TAPER. Each sets its flag, raises
CHECKPOINT and in mode HALT holds the arm. In HELD and SHARE_WAIT none fires at or above the preset (log 34). -/
def Obligations.TickMeetsVolumePoints : Prop :=
  ∀ (m : Fin 16) (l : Load) (s : State), (s.meter m).enable = true → (s.meter m).divider ≤ 1 →
    s.load? (armOfMeter m) = some l → l.data.product < 16777215 →
    (((s.arm (armOfMeter m)).state.isBlending = true → l.nextTrim = some (l.data.product + 1) → l.data.pending = none) →
      ((s.arm (armOfMeter m)).state.isFlowing = true ∧ l.data.preset ≤ l.data.product + 1) ∨
        ((s.arm (armOfMeter m)).state = .flush ∧ ∃ e, l.flushEnd = some e ∧ e ≤ l.data.product + 1) →
      ∃ t k, exec (.meterPulse m) s = .next t ∧ t.load? (armOfMeter m) = some k ∧
        (t.arm (armOfMeter m)).state = .closing ∧ t.closingBegun (armOfMeter m) ∧ k.data.overrun = l.data.overrun ∧
        l.amendmentApplied k ∧ k.data.flag0 = l.data.flag0 ∧ k.data.flag1 = l.data.flag1 ∧ k.endDue = l.endDue ∧
        k.data.revision = (if 65535 ≤ l.data.revision then 1 else l.data.revision + 1)) ∧
    (l.recipe.checkpoints = [] → (l.nextTrim = some (l.data.product + 1) → l.data.pending = none) →
      (s.arm (armOfMeter m)).state.isBlending = true → l.data.product + 1 < l.data.preset →
      l.data.flushPoint ≤ l.data.product + 1 →
      (l.data.product + 1 < l.data.pending.getD l.data.preset →
        ∃ t k, exec (.meterPulse m) s = .next t ∧ t.load? (armOfMeter m) = some k ∧
          (t.arm (armOfMeter m)).state = .flush ∧ (t.arm (armOfMeter m)).mainOpening = l.recipe.taperEndOpening ∧
          (t.arm (armOfMeter m)).ethanolOpening = 0 ∧ t.header.sharesOf (armOfMeter m) = 0 ∧
          k.flushEnd = some (l.data.pending.getD l.data.preset) ∧ k.flushKind = some .ordered ∧ k.endDue = l.endDue ∧
          l.amendmentApplied k ∧
          k.data.revision = (if 65535 ≤ l.data.revision then 1 else l.data.revision + 1)) ∧
      (l.data.pending.getD l.data.preset ≤ l.data.product + 1 →
        ∃ t k, exec (.meterPulse m) s = .next t ∧ t.load? (armOfMeter m) = some k ∧
          (t.arm (armOfMeter m)).state = .closing ∧ t.closingBegun (armOfMeter m) ∧ k.endDue = l.endDue ∧
          l.amendmentApplied k ∧
          k.data.revision = (if 65535 ≤ l.data.revision then 1 else l.data.revision + 1))) ∧
    (l.data.pending = none → l.recipe.checkpoints = [] →
    ((s.arm (armOfMeter m)).state = .prime → l.recipe.primeVolume ≤ l.data.product + 1 →
      l.data.product + 1 < l.data.preset → l.data.product + 1 < l.data.flushPoint →
      l.data.product + 1 < l.data.taperPoint → (∀ k ∈ l.recipe.lines, 0 < k.spacing) →
      (l.recipe.shareCount = 0 ∨
        (s.trips.header = true ∧ s.header.wait = [] ∧ s.header.inUse + l.recipe.shareCount ≤ s.header.capacity) →
        ∃ t k, exec (.meterPulse m) s = .next t ∧ t.load? (armOfMeter m) = some k ∧
          (t.arm (armOfMeter m)).state = .ramp ∧ (t.arm (armOfMeter m)).mainOpening = l.recipe.primeOpening ∧
          (t.arm (armOfMeter m)).ethanolOpening =
            (if l.recipe.ratio = 0 then 0 else l.ethanolLastUsed.getD l.recipe.ethanolStartOpening) ∧
          k.rampBase = some (l.data.product + 1) ∧
          t.header =
            (if l.recipe.shareCount = 0 then s.header
             else
              { s.header with
                inUse := s.header.inUse + l.recipe.shareCount
                grants := s.header.grants ++ [{ arm := armOfMeter m, shares := l.recipe.shareCount }] }) ∧
          k.data.revision = (if 65535 ≤ l.data.revision then 1 else l.data.revision + 1)) ∧
      (l.recipe.shareCount ≠ 0 → s.trips.header = true →
        (s.header.wait = [] → s.header.capacity < s.header.inUse + l.recipe.shareCount) →
        (∀ w rest, s.header.wait = w :: rest → 0 < w.shares ∧ s.header.capacity < s.header.inUse + w.shares) →
        ∃ t k, exec (.meterPulse m) s = .next t ∧ t.load? (armOfMeter m) = some k ∧
          (t.arm (armOfMeter m)).state = .shareWait ∧ (t.arm (armOfMeter m)).mainOpening = 0 ∧
          (t.arm (armOfMeter m)).ethanolOpening = 0 ∧ (t.arm (armOfMeter m)).noFlow = .stopped ∧
          k.waitTarget = some .ramp ∧
          t.header =
            { s.header with
              wait := s.header.wait ++
                [{ arm := armOfMeter m, shares := l.recipe.shareCount
                   timer := if s.settings.shareWaitSeconds = 0 then .stopped
                     else .running (s.settings.shareWaitSeconds * 1000) }] } ∧
          k.data.revision = (if 65535 ≤ l.data.revision then 1 else l.data.revision + 1)) ∧
      (l.recipe.shareCount ≠ 0 → s.trips.header = false →
        ∃ t k, exec (.meterPulse m) s = .next t ∧ t.load? (armOfMeter m) = some k ∧
          (t.arm (armOfMeter m)).state = .closing ∧ (t.arm (armOfMeter m)).mainOpening = 0 ∧
          k.data.faults = { l.data.faults with ethanolSupply := true } ∧
          k.endDue = some (l.endDue.getD .ethanolSupply) ∧
          k.data.revision = (if 65535 ≤ l.data.revision then 1 else l.data.revision + 1))) ∧
    (l.data.product + 1 < l.data.preset → l.data.product + 1 < l.data.flushPoint →
      l.nextTrim ≠ some (l.data.product + 1) →
      (∀ x ∈ l.lines, ∀ b, x.nextBoundary = some b → l.data.product + 1 < b) →
      (∀ b, (s.arm (armOfMeter m)).state = .ramp → l.data.product + 1 < l.data.taperPoint → l.rampBase = some b →
        0 < l.recipe.rampStepVolume →
        ∃ t k, exec (.meterPulse m) s = .next t ∧ t.load? (armOfMeter m) = some k ∧
          (t.arm (armOfMeter m)).ethanolOpening = (s.arm (armOfMeter m)).ethanolOpening ∧ t.header = s.header ∧
          (∀ j, 1 ≤ j → j < l.recipe.rampSteps → l.data.product + 1 = b + j * l.recipe.rampStepVolume →
            (t.arm (armOfMeter m)).state = .ramp ∧
            (t.arm (armOfMeter m)).mainOpening =
              l.recipe.primeOpening + (l.recipe.fullOpening - l.recipe.primeOpening) * j / l.recipe.rampSteps ∧
            k.data.revision = l.data.revision ∧ t.pages = s.pages) ∧
          (1 ≤ l.recipe.rampSteps → l.data.product + 1 = b + l.recipe.rampSteps * l.recipe.rampStepVolume →
            (t.arm (armOfMeter m)).state = .full ∧ (t.arm (armOfMeter m)).mainOpening = l.recipe.fullOpening ∧
            (t.arm (armOfMeter m)).noFlow = .running (s.settings.noFlowSeconds * 1000) ∧
            k.data.revision = (if 65535 ≤ l.data.revision then 1 else l.data.revision + 1) ∧
            ((t.page (armOfMeter m)).records.getLast?.map TraceRecord.cause) = some .phase) ∧
          ((∀ j, 1 ≤ j → j ≤ l.recipe.rampSteps → l.data.product + 1 ≠ b + j * l.recipe.rampStepVolume) →
            (t.arm (armOfMeter m)).state = .ramp ∧
            (t.arm (armOfMeter m)).mainOpening = (s.arm (armOfMeter m)).mainOpening ∧
            k.data.revision = l.data.revision ∧ t.pages = s.pages)) ∧
      (((s.arm (armOfMeter m)).state = .taper ∨
          (((s.arm (armOfMeter m)).state = .ramp ∨ (s.arm (armOfMeter m)).state = .full) ∧
            l.data.taperPoint ≤ l.data.product + 1)) →
        ∃ t k, exec (.meterPulse m) s = .next t ∧ t.load? (armOfMeter m) = some k ∧
          (t.arm (armOfMeter m)).state = .taper ∧
          (t.arm (armOfMeter m)).ethanolOpening = (s.arm (armOfMeter m)).ethanolOpening ∧ t.header = s.header ∧
          l.recipe.taperStepTaken l.data.taperPoint (l.data.product + 1) (s.arm (armOfMeter m)).mainOpening
            (t.arm (armOfMeter m)).mainOpening ∧
          ((s.arm (armOfMeter m)).state = .taper →
            k.taperCeiling = l.taperCeiling ∧ k.data.revision = l.data.revision ∧ t.pages = s.pages) ∧
          ((s.arm (armOfMeter m)).state ≠ .taper →
            k.taperCeiling = some (l.taperCeiling.getD (s.arm (armOfMeter m)).mainOpening) ∧
            (t.arm (armOfMeter m)).noFlow = .running (s.settings.noFlowSeconds * 1000) ∧
            k.data.revision = (if 65535 ≤ l.data.revision then 1 else l.data.revision + 1) ∧
            ((t.page (armOfMeter m)).records.getLast?.map TraceRecord.cause) = some .phase)))) ∧
    (∀ (ev : EventKind) (x : ArmState) (hit0 hit1 halt0 halt1 : Bool),
      l.data.product + 1 < l.data.preset →
      ((ev = .atVolume (l.data.product + 1) ∧ x = (s.arm (armOfMeter m)).state ∧
          (x = .held ∨ x = .shareWait ∨ (x = .prime ∧ l.data.product + 1 < l.recipe.primeVolume) ∨
            (x = .flush ∧ ∀ e, l.flushEnd = some e → l.data.product + 1 < e) ∨
            (s.quietBlending (armOfMeter m) l ∧ (x = .taper ∨ l.data.product + 1 < l.data.taperPoint) ∧
              (x = .ramp → ∀ b, l.rampBase = some b →
                l.data.product + 1 ≠ b + l.recipe.rampSteps * l.recipe.rampStepVolume)))) ∨
        ((∀ e ∈ l.recipe.checkpoints, e.event ≠ .atVolume (l.data.product + 1)) ∧
          ((ev = .primeDone ∧ x = .ramp ∧ (s.arm (armOfMeter m)).state = .prime ∧
              l.recipe.primeVolume ≤ l.data.product + 1 ∧ l.data.product + 1 < l.data.flushPoint ∧
              l.data.product + 1 < l.data.taperPoint ∧ (∀ k ∈ l.recipe.lines, 0 < k.spacing) ∧
              (l.recipe.shareCount = 0 ∨
                (s.trips.header = true ∧ s.header.wait = [] ∧
                  s.header.inUse + l.recipe.shareCount ≤ s.header.capacity))) ∨
            (ev = .taperBegin ∧ x = .taper ∧ (s.arm (armOfMeter m)).state ≠ .taper ∧ s.quietBlending (armOfMeter m) l ∧
              l.data.taperPoint ≤ l.data.product + 1 ∧ l.taperCeiling = none)))) →
      l.entryAnswers ev 0 l.data.flag0 hit0 halt0 → l.entryAnswers ev 1 l.data.flag1 hit1 halt1 →
      ∃ t k, exec (.meterPulse m) s = .next t ∧ s.eventFired t (armOfMeter m) l k x hit0 hit1 halt0 halt1) ∧
    ((s.arm (armOfMeter m)).state = .held ∨ (s.arm (armOfMeter m)).state = .shareWait →
      l.data.preset ≤ l.data.product + 1 →
      ∃ t k, exec (.meterPulse m) s = .next t ∧
        s.eventFired t (armOfMeter m) l k (s.arm (armOfMeter m)).state false false false false)

/-- A trim point in FULL, with no checkpoint entry and no shot due. A pending amendment is applied first: the preset is the
pending one and the points and targets are derived anew. On these, V at the preset goes to CLOSING and V at the flush point to
an ordered flush. Below, V at the taper point enters TAPER, and in FULL as in TAPER the trim work is done: the deviation is E
less Et times (V - Vp) over B, rounded toward zero; the ethanol opening moves one trim step towards the line where the exact
deviation lies beyond the deadband, within 0 to 255; the next trim point lies one trim volume on; a TRIM record joins the trace
page; the revision advances once where an amendment was applied or TAPER entered, and else stays. An alarm run that reaches
its count ends the blending with RATIO_FAULT and a cut flush. (The rounding of a taper step's opening is log 12, the model's
reading.) -/
def Obligations.TrimPointTrims : Prop :=
  ∀ (m : Fin 16) (a : Fin 8) (l : Load) (v e : Nat) (dev : Int) (d : LoadData) (s : State),
    (s.meter m).enable = true → (s.meter m).divider ≤ 1 → a = armOfMeter m → v = l.data.product + 1 →
    s.load? a = some l → (s.arm a).state = .full → l.data.product < 16777215 →
    d = l.amendedData → l.recipe.checkpoints = [] →
    (∀ x ∈ l.lines, ∀ b, x.nextBoundary = some b → v < b) →
    l.nextTrim = some v → e = l.data.ethanol + m.val % 2 →
    dev = (e : Int) * d.blendSpan - (d.ethanolTarget : Int) * ((v : Int) - l.recipe.primeVolume) →
    (d.preset ≤ v →
      ∃ t k, exec (.meterPulse m) s = .next t ∧ t.load? a = some k ∧ (t.arm a).state = .closing ∧ t.closingBegun a ∧
        l.amendmentApplied k ∧ k.endDue = l.endDue ∧ k.data.faults = l.data.faults ∧
        k.data.revision = (if 65535 ≤ l.data.revision then 1 else l.data.revision + 1)) ∧
    (v < d.preset → d.flushPoint ≤ v →
      ∃ t k, exec (.meterPulse m) s = .next t ∧ t.load? a = some k ∧ (t.arm a).state = .flush ∧
        (t.arm a).mainOpening = l.recipe.taperEndOpening ∧ (t.arm a).ethanolOpening = 0 ∧ t.header.sharesOf a = 0 ∧
        k.flushEnd = some d.preset ∧ k.flushKind = some .ordered ∧ l.amendmentApplied k ∧ k.endDue = l.endDue ∧
        k.data.faults = l.data.faults ∧
        k.data.revision = (if 65535 ≤ l.data.revision then 1 else l.data.revision + 1)) ∧
    (v < d.preset → v < d.flushPoint →
     (dev.natAbs ≤ l.recipe.alarmLimit * d.blendSpan → 0 < l.recipe.alarmCount) →
     (l.recipe.alarmLimit * d.blendSpan < dev.natAbs → l.alarmRun + 1 < l.recipe.alarmCount) →
      ∃ t k, exec (.meterPulse m) s = .next t ∧ t.load? a = some k ∧
        (t.arm a).state = (if d.taperPoint ≤ v then .taper else .full) ∧
        (v < d.taperPoint → (t.arm a).mainOpening = (s.arm a).mainOpening ∧ k.taperCeiling = l.taperCeiling) ∧
        (d.taperPoint ≤ v →
          l.recipe.taperStepTaken d.taperPoint v (s.arm a).mainOpening (t.arm a).mainOpening ∧
          k.taperCeiling = some (l.taperCeiling.getD (s.arm a).mainOpening)) ∧
        (t.arm a).ethanolOpening =
          (if dev < -((l.recipe.deadband * d.blendSpan : Nat) : Int) then
            min 255 ((s.arm a).ethanolOpening + l.recipe.trimStep)
           else if ((l.recipe.deadband * d.blendSpan : Nat) : Int) < dev then
            (s.arm a).ethanolOpening - l.recipe.trimStep
           else (s.arm a).ethanolOpening) ∧
        l.amendmentApplied k ∧ k.data.deviation = Int.tdiv dev d.blendSpan ∧
        k.ethanolLastUsed = some (t.arm a).ethanolOpening ∧
        k.alarmRun = (if l.recipe.alarmLimit * d.blendSpan < dev.natAbs then l.alarmRun + 1 else 0) ∧
        k.nextTrim = some (v + l.recipe.trimVolume) ∧
        k.data.revision =
          (if d.taperPoint ≤ v ∨ l.data.pending ≠ none then (if 65535 ≤ l.data.revision then 1 else l.data.revision + 1)
           else l.data.revision) ∧
        t.header = s.header ∧
        ∃ q, (v < d.taperPoint → q = (s.page a).nextSequence) ∧
          (t.page a).records.getLast? =
            some
              { load := l.data.number
                sequence := q
                cause := .trim
                armState := (t.arm a).state
                product := v
                gasoline := l.data.gasoline + (1 - m.val % 2)
                ethanol := e
                mainOpening := (t.arm a).mainOpening
                ethanolOpening := (t.arm a).ethanolOpening
                deviation := k.data.deviation
                sharesHeld := s.header.sharesOf a }) ∧
    (v < d.preset → v < d.flushPoint →
     l.recipe.alarmLimit * d.blendSpan < dev.natAbs → l.recipe.alarmCount ≤ l.alarmRun + 1 →
      ∃ t k, exec (.meterPulse m) s = .next t ∧ t.load? a = some k ∧
        t.cutFlushed a l k v (min (v + l.recipe.flushVolume) d.preset) ∧ l.amendmentApplied k ∧
        k.data.faults = { l.data.faults with ratioFault := true } ∧ k.endDue = some (l.endDue.getD .ratioFault) ∧
        k.data.deviation = Int.tdiv dev d.blendSpan ∧
        k.data.revision = (if 65535 ≤ l.data.revision then 1 else l.data.revision + 1))

/-- A shot boundary, met in FULL by line i alone, V being below every point and at no trim point and no AT_VOLUME entry: one
shot of the line falls due and its next boundary lies one spacing on. With the station in service the shot joins the tail as a
new entry, the station asking for the bus if it was IDLE and empty; or advances the arm's entry of one or two owed in its
place; or, at three owed, is missed and fires SHOT_MISSED. With the station OFF or in FAULT it is missed and fires nothing: an
optional line does no more, a required one brings ADDITIVE_FAULT and a cut flush whose end is the lower of V + F and P, and of
a pending preset. -/
def Obligations.ShotBoundaryPlacesShot : Prop :=
  ∀ (m : Fin 16) (a : Fin 8) (l : Load) (i b : Nat) (y : Line) (r : RecipeLine) (st : Fin 4) (s : State),
    (s.meter m).enable = true → (s.meter m).divider ≤ 1 → a = armOfMeter m → s.load? a = some l →
    (s.arm a).state = .full → l.data.product < 16777215 → l.nextTrim ≠ some (l.data.product + 1) →
    l.data.product + 1 < l.data.preset → l.data.product + 1 < l.data.flushPoint →
    l.data.product + 1 < l.data.taperPoint →
    (∀ c ∈ l.recipe.checkpoints, c.event ≠ .atVolume (l.data.product + 1)) →
    i < 3 → l.lines[i]? = some y → l.recipe.lines[i]? = some r → y.counts.station = st → y.counts.skipped = false →
    y.nextBoundary = some b → b ≤ l.data.product + 1 →
    (∀ j x, j ≠ i → l.lines[j]? = some x → ∀ d, x.nextBoundary = some d → l.data.product + 1 < d) →
    (((s.station st).state = .idle ∨ (s.station st).state = .changeover ∨ (s.station st).state = .shooting) →
      ((∀ e ∈ (s.station st).queue, e.arm ≠ a) →
        ∃ t k, exec (.meterPulse m) s = .next t ∧ t.load? a = some k ∧ (t.arm a).state = .full ∧
          k.lines[i]? =
            some { y with
              nextBoundary := some (b + r.spacing)
              counts := { y.counts with due := y.counts.due + 1, owed := y.counts.owed + 1 } } ∧
          (t.station st).queue = (s.station st).queue ++ [{ arm := a, load := l.data.number, line := i, owed := 1 }] ∧
          (t.station st).state = (s.station st).state ∧ k.data.revision = l.data.revision ∧
          ((s.station st).state = .idle → (s.station st).queue = [] →
            (s.bus.txn ≠ none → (t.station st).request = true ∧ t.bus = s.bus) ∧
            (s.bus.txn = none → s.busHandedOn t (s.asksWith st true)))) ∧
      (∀ e, (s.station st).queue.find? (fun e => e.arm == a) = some e →
        (1 ≤ e.owed → e.owed < 3 →
          ∃ t k, exec (.meterPulse m) s = .next t ∧ t.load? a = some k ∧ (t.arm a).state = .full ∧
            k.lines[i]? =
              some { y with
                nextBoundary := some (b + r.spacing)
                counts := { y.counts with due := y.counts.due + 1, owed := y.counts.owed + 1 } } ∧
            t.station st =
              { s.station st with
                queue := (s.station st).queue.map fun x => if x.arm = a then { x with owed := x.owed + 1 } else x } ∧
            t.bus = s.bus ∧ k.data.revision = l.data.revision) ∧
        (3 ≤ e.owed →
          ((∀ c ∈ l.recipe.checkpoints, c.event ≠ .shotMissed) →
            ∃ t k, exec (.meterPulse m) s = .next t ∧ t.load? a = some k ∧ (t.arm a).state = .full ∧
              k.lines[i]? =
                some { y with
                  nextBoundary := some (b + r.spacing)
                  counts := { y.counts with due := y.counts.due + 1, missed := y.counts.missed + 1 } } ∧
              t.stations = s.stations ∧ t.bus = s.bus ∧ k.data.revision = l.data.revision) ∧
          (∀ c rest, l.recipe.checkpoints = c :: rest → c.event = .shotMissed →
            ∃ t k, exec (.meterPulse m) s = .next t ∧ t.load? a = some k ∧ k.data.flag0 = true ∧
              (∃ z, k.lines[i]? = some z ∧ z.nextBoundary = some (b + r.spacing) ∧
                z.counts = { y.counts with due := y.counts.due + 1, missed := y.counts.missed + 1 }) ∧
              (c.mode = .halt → l.data.flag0 = false →
                (t.arm a).state = .held ∧ k.resume = some .full ∧ k.data.causes.checkpoint0 = true ∧
                  t.header.sharesOf a = 0))))) ∧
    (((s.station st).state = .off ∨ (s.station st).state = .fault) →
      (r.required = false →
        ∃ t k, exec (.meterPulse m) s = .next t ∧ t.load? a = some k ∧ (t.arm a).state = .full ∧
          k.lines[i]? =
            some { y with
              nextBoundary := some (b + r.spacing)
              counts := { y.counts with due := y.counts.due + 1, missed := y.counts.missed + 1 } } ∧
          t.stations = s.stations ∧ t.bus = s.bus ∧ k.data.revision = l.data.revision ∧
          k.data.faults = l.data.faults ∧ k.data.flag0 = l.data.flag0 ∧ k.data.flag1 = l.data.flag1) ∧
      (r.required = true →
        ∃ t k, exec (.meterPulse m) s = .next t ∧ t.load? a = some k ∧
          t.cutFlushed a l k (l.data.product + 1) (l.cutEnd (l.data.product + 1)) ∧ l.amendmentApplied k ∧
          k.data.faults = { l.data.faults with additiveFault := true } ∧
          k.endDue = some (l.endDue.getD .additiveFault) ∧
          k.data.revision = (if 65535 ≤ l.data.revision then 1 else l.data.revision + 1) ∧
          ∃ z, k.lines[i]? = some z ∧ z.nextBoundary = some (b + r.spacing) ∧ z.counts.due = y.counts.due + 1 ∧
            y.counts.missed < z.counts.missed))

/-- The completion of an enabled channel's conversion sets its reading, taken to the end of the span -400 to 700 it lies
beyond, and its condition, VALID from -300 to 550 and FAULT outside; PROBE_FAULT is raised on TA and TB exactly where the
condition becomes FAULT; the scan goes on to the next enabled channel above, or the lowest. -/
def Obligations.ConversionSetsReading : Prop :=
  ∀ (x : Int) (c : Fin 16) (s : State), s.scan = some { channel := c, discard := false } →
    (s.probe c).enable = true →
      ∃ t d, exec (.conversionComplete x) s = .next t ∧
        t.probe c =
          { enable := true
            reading := max (-400) (min x 700)
            condition := if -300 ≤ x ∧ x ≤ 550 then .valid else .fault } ∧
        (∀ k, k ≠ c → t.probe k = s.probe k) ∧
        t.scan = some { channel := d, discard := false } ∧ (s.probe d).enable = true ∧
        ((c < d ∧ ∀ k, c < k → k < d → (s.probe k).enable = false) ∨
          (d ≤ c ∧ (∀ k, c < k → (s.probe k).enable = false) ∧ ∀ k, k < d → (s.probe k).enable = false)) ∧
        s.portsRaised t .probeFault
          (if (x < -300 ∨ 550 < x) ∧ (s.probe c).condition ≠ .fault then [.ta, .tb] else []) ∧
        { t with probes := s.probes, scan := s.scan, ports := s.ports } = s

/-! ## Trips -/

/-- An assertion of ESD ends every active load at once: every arm that had one is IDLE with its valves shut, the records
join the delivered list in ascending arm number with end status ESD, a pending amendment being discarded, the allocator holds no grant and no wait, the shot
queues are empty, and TRIP is raised on all six ports. -/
def Obligations.EsdEndsEveryLoad : Prop :=
  ∀ s : State, s.trips.esd = false →
    ∃ t rs, exec .esdAssert s = .next t ∧ t.trips = { s.trips with esd := true } ∧
      (∀ a, t.load? a = none ∧ (s.load? a ≠ none → (t.arm a).state = .idle ∧ (t.arm a).mainOpening = 0 ∧
        (t.arm a).ethanolOpening = 0 ∧ (t.arm a).noFlow = .stopped ∧ (t.arm a).settle = .stopped ∧
        (t.arm a).hold = .stopped)) ∧
      t.delivered = s.delivered ++ rs ∧
      rs.map (fun r => (r.data.number, r.data.preset)) =
        (allArms.filterMap s.load?).map (fun l => (l.data.number, l.data.preset)) ∧
      (∀ r ∈ rs, r.data.endStatus = some .esd ∧ r.data.endTime = some s.seconds ∧ r.data.pending = none ∧
        r.data.causes.isEmpty = true ∧ r.sharesHeld = 0) ∧
      t.reservations = s.reservations - rs.length ∧
      t.header = { capacity := s.header.capacity, inUse := 0, grants := [], wait := [] } ∧
      (∀ st, (t.station st).queue = [] ∧ (t.station st).state = (s.station st).state ∧
        (t.station st).manifold = (s.station st).manifold ∧ (t.station st).failures = (s.station st).failures) ∧
      (∀ p, t.flagged p .trip = true) ∧ s.SameOutsideLoads t ∧ t.meters = s.meters

/-- The clearing of ESD and the restoration of the header permissive change the state held and raise TRIP on all six ports;
the restoration of a lane permissive does so on TA, TB and the lane's port. Nothing else changes: nothing is resumed. -/
def Obligations.TripInputsRestore : Prop :=
  ∀ s : State,
    (s.trips.esd = true →
      ∃ t, exec .esdClear s = .next t ∧ s.portsRaised t .trip [.ta, .tb, .lp 0, .lp 1, .lp 2, .lp 3] ∧
        { t with ports := s.ports } = { s with trips := { s.trips with esd := false } }) ∧
    (s.trips.header = false →
      ∃ t, exec .headerPermissiveRestore s = .next t ∧ s.portsRaised t .trip [.ta, .tb, .lp 0, .lp 1, .lp 2, .lp 3] ∧
        { t with ports := s.ports } = { s with trips := { s.trips with header := true } }) ∧
    ∀ l : Fin 4, s.trips.lanes[l.val] = false →
      ∃ t, exec (.lanePermissiveRestore l) s = .next t ∧ s.portsRaised t .trip (lanePorts l) ∧
        { t with ports := s.ports } = { s with trips := { s.trips with lanes := s.trips.lanes.set l.val true } }

/-- A loss of the header permissive sends every load with a share count from a blending phase into a cut flush, whose end is
the lower of V + F and P, and of a pending preset, or through it to CLOSING exactly where that end is at V, and from SHARE_WAIT
to CLOSING; it marks a load held from one of these; ETHANOL_SUPPLY joins the fault set of each. A load with share count 0 is
not acted on. In PRIME, FLUSH and CLOSING the arm is not moved and its load's end status due, revision and fault set stay. The
one exception is a loss that races with the tick of a trim point: where that tick, with no tick of the load since, has sent a
load with a share count to FLUSH by a ratio fault, ETHANOL_SUPPLY joins its fault set (by R85 beside R111: log 35, the model's
choice). -/
def Obligations.HeaderLossTakesSupply : Prop :=
  ∀ s : State, s.trips.header = true →
    ∃ t, exec .headerPermissiveLoss s = .next t ∧ t.trips = { s.trips with header := false } ∧
      t.header.capacity = s.header.capacity ∧ (∀ p, t.flagged p .trip = true) ∧ s.SameOutsideArms t ∧
      ∀ a l, s.load? a = some l →
        (l.recipe.shareCount = 0 → (t.arm a) = (s.arm a)) ∧
        (l.recipe.shareCount ≠ 0 → (s.arm a).state.isBlending = true →
          ∃ m, t.load? a = some m ∧ t.cutFlushed a l m l.data.product (l.cutEnd l.data.product) ∧ l.amendmentApplied m ∧
            m.data.faults = { l.data.faults with ethanolSupply := true } ∧
            m.endDue = some (l.endDue.getD .ethanolSupply) ∧
            m.data.revision = (if 65535 ≤ l.data.revision then 1 else l.data.revision + 1)) ∧
        (l.recipe.shareCount ≠ 0 → (s.arm a).state = .shareWait →
          (t.arm a).state = .closing ∧
          ∃ m, t.load? a = some m ∧ m.data.faults.ethanolSupply = true ∧
            m.endDue = some (l.endDue.getD .ethanolSupply)) ∧
        (l.recipe.shareCount ≠ 0 → (s.arm a).state = .held →
          (l.resume = some .ramp ∨ l.resume = some .full ∨ l.resume = some .taper ∨ l.resume = some .shareWait) →
          (t.arm a).state = .held ∧
          ∃ m, t.load? a = some m ∧ m.supplyLost = true ∧ m.data.faults.ethanolSupply = true ∧
            m.data.causes = l.data.causes ∧ m.data.revision = l.data.revision) ∧
        ((s.arm a).state = .prime ∨ (s.arm a).state = .flush ∨ (s.arm a).state = .closing →
          (t.arm a).state = (s.arm a).state ∧ (t.arm a).mainOpening = (s.arm a).mainOpening ∧
          ∃ m, t.load? a = some m ∧ m.endDue = l.endDue ∧ m.data.revision = l.data.revision ∧
            m.data.faults =
              (if (s.arm a).state = .flush ∧ l.data.faults.ratioFault = true ∧
                  l.nextTrim = some (l.data.product + l.recipe.trimVolume) ∧ l.recipe.shareCount ≠ 0 then
                { l.data.faults with ethanolSupply := true }
               else l.data.faults))

/-- A loss of a lane permissive holds every load of the lane that stands in PRIME, a blending phase, FLUSH or SHARE_WAIT:
PERMISSIVE joins its set, both valves are shut, the former state is the resume phase, a pending amendment is applied. TRIP is
raised on TA, TB and the
lane's port and on no other. -/
def Obligations.LaneLossHoldsLoads : Prop :=
  ∀ (l : Fin 4) (s : State), s.trips.lanes[l.val] = true →
    ∃ t, exec (.lanePermissiveLoss l) s = .next t ∧
      t.trips = { s.trips with lanes := s.trips.lanes.set l.val false } ∧
      s.raisedOn t .trip (lanePorts l) ∧ s.SameOutsideArms t ∧
      ∀ a y r, laneOf a = l → s.load? a = some y → (s.arm a).state.toResume = some r →
        (t.arm a).state = .held ∧ (t.arm a).mainOpening = 0 ∧ (t.arm a).ethanolOpening = 0 ∧
        t.header.sharesOf a = 0 ∧
        ∃ m, t.load? a = some m ∧ m.data.causes.permissive = true ∧ m.resume = some r ∧ y.amendmentApplied m ∧
          m.data.revision = (if 65535 ≤ y.data.revision then 1 else y.data.revision + 1)

/-! ## Trace -/

/-- TRACE WINDOW checks its parameters in ascending number, the first that fails giving BAD_FIELD with its number and
leaving the window; accepted, the window takes the five values and the pointer the page start and column start. The
port's link is neither tested nor cleared. -/
def Obligations.TraceWindowSets : Prop :=
  ∀ (p : Port) (tag mode pageStart pageEnd columnStart columnEnd : Byte) (s : State), s.free p = true →
    (2 < mode.toNat →
      exec (.traceWindow p tag mode pageStart pageEnd columnStart columnEnd) s =
        .next (s.answered p .traceWindow tag (badFieldAt 1))) ∧
    (mode.toNat ≤ 2 → 7 < pageStart.toNat →
      exec (.traceWindow p tag mode pageStart pageEnd columnStart columnEnd) s =
        .next (s.answered p .traceWindow tag (badFieldAt 2))) ∧
    (mode.toNat ≤ 2 → pageStart.toNat ≤ 7 → (pageEnd.toNat < pageStart.toNat ∨ 7 < pageEnd.toNat) →
      exec (.traceWindow p tag mode pageStart pageEnd columnStart columnEnd) s =
        .next (s.answered p .traceWindow tag (badFieldAt 3))) ∧
    (mode.toNat ≤ 2 → pageStart.toNat ≤ pageEnd.toNat → pageEnd.toNat ≤ 7 → 63 < columnStart.toNat →
      exec (.traceWindow p tag mode pageStart pageEnd columnStart columnEnd) s =
        .next (s.answered p .traceWindow tag (badFieldAt 4))) ∧
    (mode.toNat ≤ 2 → pageStart.toNat ≤ pageEnd.toNat → pageEnd.toNat ≤ 7 → columnStart.toNat ≤ 63 →
      (columnEnd.toNat < columnStart.toNat ∨ 63 < columnEnd.toNat) →
      exec (.traceWindow p tag mode pageStart pageEnd columnStart columnEnd) s =
        .next (s.answered p .traceWindow tag (badFieldAt 5))) ∧
    ∀ m, (mode = 0#8 ∧ m = .page) ∨ (mode = 1#8 ∧ m = .across) ∨ (mode = 2#8 ∧ m = .down) →
      pageStart.toNat ≤ pageEnd.toNat → pageEnd.toNat ≤ 7 → columnStart.toNat ≤ columnEnd.toNat →
      columnEnd.toNat ≤ 63 →
      ∀ w : TraceWindow, w =
          { mode := m, pageStart := pageStart.toNat, pageEnd := pageEnd.toNat, columnStart := columnStart.toNat,
            columnEnd := columnEnd.toNat, pointerPage := pageStart.toNat, pointerColumn := columnStart.toNat } →
        exec (.traceWindow p tag mode pageStart pageEnd columnStart columnEnd) s =
          .next ((s.modPort p fun x => { x with window := w }).answered p .traceWindow tag (okay (.window w)))

/-- TRACE READ makes as many entries as its count asks for, each read where the pointer names and each advancing it; only
the port's pointer changes. A count outside 1 to 8 is BAD_FIELD 1. An entry is WITHHELD where a lane port meets a page of
another lane; else, with the page's record count, RECORD with the column's record, columns counting from the oldest, or EMPTY
beyond the last. -/
def Obligations.TraceReadMovesPointer : Prop :=
  ∀ (p : Port) (tag count : Byte) (s : State), s.free p = true →
    (1 ≤ count.toNat → count.toNat ≤ 8 →
      ∃ es, exec (.traceRead p tag count) s =
          .next ((s.modPort p fun x => { x with window := TraceWindow.advance^[count.toNat] x.window }).answered p
            .traceRead tag
              (okay (.trace es (TraceWindow.advance^[count.toNat] (s.port p).window).pointerPage
                (TraceWindow.advance^[count.toNat] (s.port p).window).pointerColumn))) ∧
        es.length = count.toNat ∧
        ∀ i, i < count.toNat → es[i]? = some (s.entryAt p (TraceWindow.advance^[i] (s.port p).window))) ∧
    (count.toNat = 0 ∨ 8 < count.toNat →
      exec (.traceRead p tag count) s = .next (s.answered p .traceRead tag (badFieldAt 1))) ∧
    ∀ (page : Fin 8) (w : TraceWindow), w.pointerPage = page.val →
      (p.isTerminal = false → p ≠ .lp (laneOf page) → s.entryAt p w = .withheld page.val w.pointerColumn) ∧
      ((p.isTerminal = true ∨ p = .lp (laneOf page)) →
        (∀ r, (s.page page).records[w.pointerColumn]? = some r →
          s.entryAt p w = .present page.val w.pointerColumn (s.page page).records.length r) ∧
        ((s.page page).records.length ≤ w.pointerColumn →
          s.entryAt p w = .empty page.val w.pointerColumn (s.page page).records.length))

/-- The pointer's advance: in PAGE the column advances round the column range; in ACROSS it does, and where it returns to
the column start the page advances round the page range; in DOWN the page advances round the page range, and where it
returns to the page start the column advances round the column range. The pointer stays within the ranges, and a window
of one page and one column leaves it where it is. -/
def Obligations.PointerAdvance : Prop :=
  ∀ w : TraceWindow, w.inside →
    w.advance.inside ∧
    (w.advance.mode = w.mode ∧ w.advance.pageStart = w.pageStart ∧ w.advance.pageEnd = w.pageEnd ∧
      w.advance.columnStart = w.columnStart ∧ w.advance.columnEnd = w.columnEnd) ∧
    (w.mode = .page → w.advance.pointerPage = w.pointerPage ∧
      w.advance.pointerColumn = if w.pointerColumn = w.columnEnd then w.columnStart else w.pointerColumn + 1) ∧
    (w.mode = .across →
      (w.pointerColumn ≠ w.columnEnd →
        w.advance.pointerColumn = w.pointerColumn + 1 ∧ w.advance.pointerPage = w.pointerPage) ∧
      (w.pointerColumn = w.columnEnd → w.advance.pointerColumn = w.columnStart ∧
        w.advance.pointerPage = if w.pointerPage = w.pageEnd then w.pageStart else w.pointerPage + 1)) ∧
    (w.mode = .down →
      (w.pointerPage ≠ w.pageEnd →
        w.advance.pointerPage = w.pointerPage + 1 ∧ w.advance.pointerColumn = w.pointerColumn) ∧
      (w.pointerPage = w.pageEnd → w.advance.pointerPage = w.pageStart ∧
        w.advance.pointerColumn = if w.pointerColumn = w.columnEnd then w.columnStart else w.pointerColumn + 1)) ∧
    (w.pageStart = w.pageEnd → w.columnStart = w.columnEnd → w.advance = w)

/-! ## The whole machine -/

/-- Every command completes in every state, and leaves the queue of waiting commands to the step. This is the model's: the
queue is log 1, that an event which cannot happen changes nothing log 2, that no command faults log 32. -/
def Obligations.EveryCommandCompletes : Prop :=
  ∀ (i : Instr) (s : State), ∃ t, exec i s = .next t ∧ t.pending = s.pending

/-- Every well-formed request is read back from its body as it was: no operand is dropped by the request layouts. -/
def Obligations.RequestsRoundTrip : Prop :=
  ∀ (i : Instr) (p : Port) (rc : ReqCode) (tag : Byte) (params : List Byte),
    i.wellFormed = true → encodeRequest i = some (p, rc, tag, params) →
      decodeRequest p rc.toByte tag params = some i

/-- Every step keeps the attention lines: each is asserted exactly while a flag is set and enabled, and no port holds a
flag that its class does not. -/
def Obligations.AttentionKept : Prop :=
  ∀ s t : State, s.attentionRight → s.flagsInClass → step s = .next t → t.attentionRight ∧ t.flagsInClass

/-- Every step keeps the valves shut as R37 says: the ethanol valve outside the blending phases, the main valve outside the
flowing states. -/
def Obligations.ValvesKept : Prop :=
  ∀ s t : State, s.valvesRight → step s = .next t → t.valvesRight

/-- Every step keeps the sums of every active and delivered record: V is G plus E, and of every additive line the due
shots are the delivered, owed, missed and unconfirmed ones together. -/
def Obligations.RecordSumsKept : Prop :=
  (∀ s t : State, s.volumesAdd → step s = .next t → t.volumesAdd) ∧
  ∀ s t : State, s.linesBalanced → step s = .next t → t.linesBalanced

/-- Every step keeps the bounds: dividers from 1 to the K-factor and net remainders below 10000, at most 64 records on a
trace page, at most six authorizations in a lane queue, every read pointer within its window; and every stray counter at or
past the threshold, which is at least 1, silent (the model's mark for R90, log 13). -/
def Obligations.BoundsKept : Prop :=
  (∀ s t : State, s.metersRight → step s = .next t → t.metersRight) ∧
  (∀ s t : State, s.pagesBounded → step s = .next t → t.pagesBounded) ∧
  (∀ s t : State, s.queuesBounded → step s = .next t → t.queuesBounded) ∧
  (∀ s t : State, s.pointersInside → step s = .next t → t.pointersInside) ∧
  ∀ s t : State, s.straySilent → step s = .next t → t.straySilent

/-- Every step keeps: an arm has a load exactly while it is not IDLE, and in CONFIGURE mode every arm is IDLE. -/
def Obligations.ConfigureModeKeepsArmsIdle : Prop :=
  ∀ s t : State, s.configureIdle → step s = .next t → t.configureIdle

/-- Every step keeps the Header Allocator as R104 says: the shares in use are the sum of the grants and at most the capacity,
the arms that hold a grant are exactly the blending ones whose load has a share count, and hold that, the arms on the wait list
are exactly those in SHARE_WAIT, each once; the head never fits the free shares (R106), and with the permissive lost nothing is
granted and no one waits (R113). The premise that arms are IDLE in CONFIGURE is the invariant before. -/
def Obligations.HeaderSharesKept : Prop :=
  ∀ s t : State, s.configureIdle → s.headerRight → step s = .next t → t.headerRight

/-- The invariants hold right after reset. -/
def Obligations.InvariantsAtReset : Prop :=
  State.reset.attentionRight ∧ State.reset.flagsInClass ∧ State.reset.volumesAdd ∧ State.reset.linesBalanced ∧
    State.reset.valvesRight ∧ State.reset.metersRight ∧ State.reset.pagesBounded ∧ State.reset.queuesBounded ∧
    State.reset.pointersInside ∧ State.reset.straySilent ∧ State.reset.configureIdle ∧ State.reset.headerRight
end

