-- ==== Sys2Proof/Laws/State.lean ====
section
/-! SUPPORT. What each update of the state leaves and what it changes, field by field. -/

namespace Sys2Proof.Machine

namespace State

variable (s : State)

/-! ### modPort -/

@[simp] theorem modPort_mode (p : Port) (f : PortState → PortState) : (s.modPort p f).mode = s.mode := rfl
@[simp] theorem modPort_recipes (p : Port) (f : PortState → PortState) : (s.modPort p f).recipes = s.recipes := rfl
@[simp] theorem modPort_queues (p : Port) (f : PortState → PortState) : (s.modPort p f).queues = s.queues := rfl
@[simp] theorem modPort_authCounter (p : Port) (f : PortState → PortState) : (s.modPort p f).authCounter = s.authCounter := rfl
@[simp] theorem modPort_arms (p : Port) (f : PortState → PortState) : (s.modPort p f).arms = s.arms := rfl
@[simp] theorem modPort_meters (p : Port) (f : PortState → PortState) : (s.modPort p f).meters = s.meters := rfl
@[simp] theorem modPort_probes (p : Port) (f : PortState → PortState) : (s.modPort p f).probes = s.probes := rfl
@[simp] theorem modPort_scan (p : Port) (f : PortState → PortState) : (s.modPort p f).scan = s.scan := rfl
@[simp] theorem modPort_settings (p : Port) (f : PortState → PortState) : (s.modPort p f).settings = s.settings := rfl
@[simp] theorem modPort_header (p : Port) (f : PortState → PortState) : (s.modPort p f).header = s.header := rfl
@[simp] theorem modPort_stations (p : Port) (f : PortState → PortState) : (s.modPort p f).stations = s.stations := rfl
@[simp] theorem modPort_bus (p : Port) (f : PortState → PortState) : (s.modPort p f).bus = s.bus := rfl
@[simp] theorem modPort_trips (p : Port) (f : PortState → PortState) : (s.modPort p f).trips = s.trips := rfl
@[simp] theorem modPort_delivered (p : Port) (f : PortState → PortState) : (s.modPort p f).delivered = s.delivered := rfl
@[simp] theorem modPort_reservations (p : Port) (f : PortState → PortState) : (s.modPort p f).reservations = s.reservations := rfl
@[simp] theorem modPort_loadCounter (p : Port) (f : PortState → PortState) : (s.modPort p f).loadCounter = s.loadCounter := rfl
@[simp] theorem modPort_seconds (p : Port) (f : PortState → PortState) : (s.modPort p f).seconds = s.seconds := rfl
@[simp] theorem modPort_pages (p : Port) (f : PortState → PortState) : (s.modPort p f).pages = s.pages := rfl
@[simp] theorem modPort_freeCount (p : Port) (f : PortState → PortState) : (s.modPort p f).freeCount = s.freeCount := rfl
@[simp] theorem modPort_pending (p : Port) (f : PortState → PortState) : (s.modPort p f).pending = s.pending := rfl
@[simp] theorem modPort_armAt (p : Port) (f : PortState → PortState) (x : Fin 8) : (s.modPort p f).arm x = s.arm x := rfl
@[simp] theorem modPort_loadAt (p : Port) (f : PortState → PortState) (x : Fin 8) : (s.modPort p f).load? x = s.load? x := rfl
@[simp] theorem modPort_meterAt (p : Port) (f : PortState → PortState) (x : Fin 16) : (s.modPort p f).meter x = s.meter x := rfl
@[simp] theorem modPort_probeAt (p : Port) (f : PortState → PortState) (x : Fin 16) : (s.modPort p f).probe x = s.probe x := rfl
@[simp] theorem modPort_stationAt (p : Port) (f : PortState → PortState) (x : Fin 4) : (s.modPort p f).station x = s.station x := rfl
@[simp] theorem modPort_queueAt (p : Port) (f : PortState → PortState) (x : Fin 4) : (s.modPort p f).queue x = s.queue x := rfl
@[simp] theorem modPort_slotAt (p : Port) (f : PortState → PortState) (x : Fin 32) : (s.modPort p f).slot x = s.slot x := rfl
@[simp] theorem modPort_pageAt (p : Port) (f : PortState → PortState) (x : Fin 8) : (s.modPort p f).page x = s.page x := rfl

/-! ### modArm -/

@[simp] theorem modArm_mode (a : Fin 8) (f : Arm → Arm) : (s.modArm a f).mode = s.mode := rfl
@[simp] theorem modArm_ports (a : Fin 8) (f : Arm → Arm) : (s.modArm a f).ports = s.ports := rfl
@[simp] theorem modArm_recipes (a : Fin 8) (f : Arm → Arm) : (s.modArm a f).recipes = s.recipes := rfl
@[simp] theorem modArm_queues (a : Fin 8) (f : Arm → Arm) : (s.modArm a f).queues = s.queues := rfl
@[simp] theorem modArm_authCounter (a : Fin 8) (f : Arm → Arm) : (s.modArm a f).authCounter = s.authCounter := rfl
@[simp] theorem modArm_meters (a : Fin 8) (f : Arm → Arm) : (s.modArm a f).meters = s.meters := rfl
@[simp] theorem modArm_probes (a : Fin 8) (f : Arm → Arm) : (s.modArm a f).probes = s.probes := rfl
@[simp] theorem modArm_scan (a : Fin 8) (f : Arm → Arm) : (s.modArm a f).scan = s.scan := rfl
@[simp] theorem modArm_settings (a : Fin 8) (f : Arm → Arm) : (s.modArm a f).settings = s.settings := rfl
@[simp] theorem modArm_header (a : Fin 8) (f : Arm → Arm) : (s.modArm a f).header = s.header := rfl
@[simp] theorem modArm_stations (a : Fin 8) (f : Arm → Arm) : (s.modArm a f).stations = s.stations := rfl
@[simp] theorem modArm_bus (a : Fin 8) (f : Arm → Arm) : (s.modArm a f).bus = s.bus := rfl
@[simp] theorem modArm_trips (a : Fin 8) (f : Arm → Arm) : (s.modArm a f).trips = s.trips := rfl
@[simp] theorem modArm_delivered (a : Fin 8) (f : Arm → Arm) : (s.modArm a f).delivered = s.delivered := rfl
@[simp] theorem modArm_reservations (a : Fin 8) (f : Arm → Arm) : (s.modArm a f).reservations = s.reservations := rfl
@[simp] theorem modArm_loadCounter (a : Fin 8) (f : Arm → Arm) : (s.modArm a f).loadCounter = s.loadCounter := rfl
@[simp] theorem modArm_seconds (a : Fin 8) (f : Arm → Arm) : (s.modArm a f).seconds = s.seconds := rfl
@[simp] theorem modArm_pages (a : Fin 8) (f : Arm → Arm) : (s.modArm a f).pages = s.pages := rfl
@[simp] theorem modArm_freeCount (a : Fin 8) (f : Arm → Arm) : (s.modArm a f).freeCount = s.freeCount := rfl
@[simp] theorem modArm_pending (a : Fin 8) (f : Arm → Arm) : (s.modArm a f).pending = s.pending := rfl
@[simp] theorem modArm_portAt (a : Fin 8) (f : Arm → Arm) (x : Port) : (s.modArm a f).port x = s.port x := rfl
@[simp] theorem modArm_meterAt (a : Fin 8) (f : Arm → Arm) (x : Fin 16) : (s.modArm a f).meter x = s.meter x := rfl
@[simp] theorem modArm_probeAt (a : Fin 8) (f : Arm → Arm) (x : Fin 16) : (s.modArm a f).probe x = s.probe x := rfl
@[simp] theorem modArm_stationAt (a : Fin 8) (f : Arm → Arm) (x : Fin 4) : (s.modArm a f).station x = s.station x := rfl
@[simp] theorem modArm_queueAt (a : Fin 8) (f : Arm → Arm) (x : Fin 4) : (s.modArm a f).queue x = s.queue x := rfl
@[simp] theorem modArm_slotAt (a : Fin 8) (f : Arm → Arm) (x : Fin 32) : (s.modArm a f).slot x = s.slot x := rfl
@[simp] theorem modArm_pageAt (a : Fin 8) (f : Arm → Arm) (x : Fin 8) : (s.modArm a f).page x = s.page x := rfl

/-! ### modLoad -/

@[simp] theorem modLoad_mode (a : Fin 8) (f : Load → Load) : (s.modLoad a f).mode = s.mode := rfl
@[simp] theorem modLoad_ports (a : Fin 8) (f : Load → Load) : (s.modLoad a f).ports = s.ports := rfl
@[simp] theorem modLoad_recipes (a : Fin 8) (f : Load → Load) : (s.modLoad a f).recipes = s.recipes := rfl
@[simp] theorem modLoad_queues (a : Fin 8) (f : Load → Load) : (s.modLoad a f).queues = s.queues := rfl
@[simp] theorem modLoad_authCounter (a : Fin 8) (f : Load → Load) : (s.modLoad a f).authCounter = s.authCounter := rfl
@[simp] theorem modLoad_meters (a : Fin 8) (f : Load → Load) : (s.modLoad a f).meters = s.meters := rfl
@[simp] theorem modLoad_probes (a : Fin 8) (f : Load → Load) : (s.modLoad a f).probes = s.probes := rfl
@[simp] theorem modLoad_scan (a : Fin 8) (f : Load → Load) : (s.modLoad a f).scan = s.scan := rfl
@[simp] theorem modLoad_settings (a : Fin 8) (f : Load → Load) : (s.modLoad a f).settings = s.settings := rfl
@[simp] theorem modLoad_header (a : Fin 8) (f : Load → Load) : (s.modLoad a f).header = s.header := rfl
@[simp] theorem modLoad_stations (a : Fin 8) (f : Load → Load) : (s.modLoad a f).stations = s.stations := rfl
@[simp] theorem modLoad_bus (a : Fin 8) (f : Load → Load) : (s.modLoad a f).bus = s.bus := rfl
@[simp] theorem modLoad_trips (a : Fin 8) (f : Load → Load) : (s.modLoad a f).trips = s.trips := rfl
@[simp] theorem modLoad_delivered (a : Fin 8) (f : Load → Load) : (s.modLoad a f).delivered = s.delivered := rfl
@[simp] theorem modLoad_reservations (a : Fin 8) (f : Load → Load) : (s.modLoad a f).reservations = s.reservations := rfl
@[simp] theorem modLoad_loadCounter (a : Fin 8) (f : Load → Load) : (s.modLoad a f).loadCounter = s.loadCounter := rfl
@[simp] theorem modLoad_seconds (a : Fin 8) (f : Load → Load) : (s.modLoad a f).seconds = s.seconds := rfl
@[simp] theorem modLoad_pages (a : Fin 8) (f : Load → Load) : (s.modLoad a f).pages = s.pages := rfl
@[simp] theorem modLoad_freeCount (a : Fin 8) (f : Load → Load) : (s.modLoad a f).freeCount = s.freeCount := rfl
@[simp] theorem modLoad_pending (a : Fin 8) (f : Load → Load) : (s.modLoad a f).pending = s.pending := rfl
@[simp] theorem modLoad_portAt (a : Fin 8) (f : Load → Load) (x : Port) : (s.modLoad a f).port x = s.port x := rfl
@[simp] theorem modLoad_meterAt (a : Fin 8) (f : Load → Load) (x : Fin 16) : (s.modLoad a f).meter x = s.meter x := rfl
@[simp] theorem modLoad_probeAt (a : Fin 8) (f : Load → Load) (x : Fin 16) : (s.modLoad a f).probe x = s.probe x := rfl
@[simp] theorem modLoad_stationAt (a : Fin 8) (f : Load → Load) (x : Fin 4) : (s.modLoad a f).station x = s.station x := rfl
@[simp] theorem modLoad_queueAt (a : Fin 8) (f : Load → Load) (x : Fin 4) : (s.modLoad a f).queue x = s.queue x := rfl
@[simp] theorem modLoad_slotAt (a : Fin 8) (f : Load → Load) (x : Fin 32) : (s.modLoad a f).slot x = s.slot x := rfl
@[simp] theorem modLoad_pageAt (a : Fin 8) (f : Load → Load) (x : Fin 8) : (s.modLoad a f).page x = s.page x := rfl

/-! ### modLine -/

@[simp] theorem modLine_mode (a : Fin 8) (i : Nat) (f : Line → Line) : (s.modLine a i f).mode = s.mode := rfl
@[simp] theorem modLine_ports (a : Fin 8) (i : Nat) (f : Line → Line) : (s.modLine a i f).ports = s.ports := rfl
@[simp] theorem modLine_recipes (a : Fin 8) (i : Nat) (f : Line → Line) : (s.modLine a i f).recipes = s.recipes := rfl
@[simp] theorem modLine_queues (a : Fin 8) (i : Nat) (f : Line → Line) : (s.modLine a i f).queues = s.queues := rfl
@[simp] theorem modLine_authCounter (a : Fin 8) (i : Nat) (f : Line → Line) : (s.modLine a i f).authCounter = s.authCounter := rfl
@[simp] theorem modLine_meters (a : Fin 8) (i : Nat) (f : Line → Line) : (s.modLine a i f).meters = s.meters := rfl
@[simp] theorem modLine_probes (a : Fin 8) (i : Nat) (f : Line → Line) : (s.modLine a i f).probes = s.probes := rfl
@[simp] theorem modLine_scan (a : Fin 8) (i : Nat) (f : Line → Line) : (s.modLine a i f).scan = s.scan := rfl
@[simp] theorem modLine_settings (a : Fin 8) (i : Nat) (f : Line → Line) : (s.modLine a i f).settings = s.settings := rfl
@[simp] theorem modLine_header (a : Fin 8) (i : Nat) (f : Line → Line) : (s.modLine a i f).header = s.header := rfl
@[simp] theorem modLine_stations (a : Fin 8) (i : Nat) (f : Line → Line) : (s.modLine a i f).stations = s.stations := rfl
@[simp] theorem modLine_bus (a : Fin 8) (i : Nat) (f : Line → Line) : (s.modLine a i f).bus = s.bus := rfl
@[simp] theorem modLine_trips (a : Fin 8) (i : Nat) (f : Line → Line) : (s.modLine a i f).trips = s.trips := rfl
@[simp] theorem modLine_delivered (a : Fin 8) (i : Nat) (f : Line → Line) : (s.modLine a i f).delivered = s.delivered := rfl
@[simp] theorem modLine_reservations (a : Fin 8) (i : Nat) (f : Line → Line) : (s.modLine a i f).reservations = s.reservations := rfl
@[simp] theorem modLine_loadCounter (a : Fin 8) (i : Nat) (f : Line → Line) : (s.modLine a i f).loadCounter = s.loadCounter := rfl
@[simp] theorem modLine_seconds (a : Fin 8) (i : Nat) (f : Line → Line) : (s.modLine a i f).seconds = s.seconds := rfl
@[simp] theorem modLine_pages (a : Fin 8) (i : Nat) (f : Line → Line) : (s.modLine a i f).pages = s.pages := rfl
@[simp] theorem modLine_freeCount (a : Fin 8) (i : Nat) (f : Line → Line) : (s.modLine a i f).freeCount = s.freeCount := rfl
@[simp] theorem modLine_pending (a : Fin 8) (i : Nat) (f : Line → Line) : (s.modLine a i f).pending = s.pending := rfl
@[simp] theorem modLine_portAt (a : Fin 8) (i : Nat) (f : Line → Line) (x : Port) : (s.modLine a i f).port x = s.port x := rfl
@[simp] theorem modLine_meterAt (a : Fin 8) (i : Nat) (f : Line → Line) (x : Fin 16) : (s.modLine a i f).meter x = s.meter x := rfl
@[simp] theorem modLine_probeAt (a : Fin 8) (i : Nat) (f : Line → Line) (x : Fin 16) : (s.modLine a i f).probe x = s.probe x := rfl
@[simp] theorem modLine_stationAt (a : Fin 8) (i : Nat) (f : Line → Line) (x : Fin 4) : (s.modLine a i f).station x = s.station x := rfl
@[simp] theorem modLine_queueAt (a : Fin 8) (i : Nat) (f : Line → Line) (x : Fin 4) : (s.modLine a i f).queue x = s.queue x := rfl
@[simp] theorem modLine_slotAt (a : Fin 8) (i : Nat) (f : Line → Line) (x : Fin 32) : (s.modLine a i f).slot x = s.slot x := rfl
@[simp] theorem modLine_pageAt (a : Fin 8) (i : Nat) (f : Line → Line) (x : Fin 8) : (s.modLine a i f).page x = s.page x := rfl

/-! ### modMeter -/

@[simp] theorem modMeter_mode (m : Fin 16) (f : Meter → Meter) : (s.modMeter m f).mode = s.mode := rfl
@[simp] theorem modMeter_ports (m : Fin 16) (f : Meter → Meter) : (s.modMeter m f).ports = s.ports := rfl
@[simp] theorem modMeter_recipes (m : Fin 16) (f : Meter → Meter) : (s.modMeter m f).recipes = s.recipes := rfl
@[simp] theorem modMeter_queues (m : Fin 16) (f : Meter → Meter) : (s.modMeter m f).queues = s.queues := rfl
@[simp] theorem modMeter_authCounter (m : Fin 16) (f : Meter → Meter) : (s.modMeter m f).authCounter = s.authCounter := rfl
@[simp] theorem modMeter_arms (m : Fin 16) (f : Meter → Meter) : (s.modMeter m f).arms = s.arms := rfl
@[simp] theorem modMeter_probes (m : Fin 16) (f : Meter → Meter) : (s.modMeter m f).probes = s.probes := rfl
@[simp] theorem modMeter_scan (m : Fin 16) (f : Meter → Meter) : (s.modMeter m f).scan = s.scan := rfl
@[simp] theorem modMeter_settings (m : Fin 16) (f : Meter → Meter) : (s.modMeter m f).settings = s.settings := rfl
@[simp] theorem modMeter_header (m : Fin 16) (f : Meter → Meter) : (s.modMeter m f).header = s.header := rfl
@[simp] theorem modMeter_stations (m : Fin 16) (f : Meter → Meter) : (s.modMeter m f).stations = s.stations := rfl
@[simp] theorem modMeter_bus (m : Fin 16) (f : Meter → Meter) : (s.modMeter m f).bus = s.bus := rfl
@[simp] theorem modMeter_trips (m : Fin 16) (f : Meter → Meter) : (s.modMeter m f).trips = s.trips := rfl
@[simp] theorem modMeter_delivered (m : Fin 16) (f : Meter → Meter) : (s.modMeter m f).delivered = s.delivered := rfl
@[simp] theorem modMeter_reservations (m : Fin 16) (f : Meter → Meter) : (s.modMeter m f).reservations = s.reservations := rfl
@[simp] theorem modMeter_loadCounter (m : Fin 16) (f : Meter → Meter) : (s.modMeter m f).loadCounter = s.loadCounter := rfl
@[simp] theorem modMeter_seconds (m : Fin 16) (f : Meter → Meter) : (s.modMeter m f).seconds = s.seconds := rfl
@[simp] theorem modMeter_pages (m : Fin 16) (f : Meter → Meter) : (s.modMeter m f).pages = s.pages := rfl
@[simp] theorem modMeter_freeCount (m : Fin 16) (f : Meter → Meter) : (s.modMeter m f).freeCount = s.freeCount := rfl
@[simp] theorem modMeter_pending (m : Fin 16) (f : Meter → Meter) : (s.modMeter m f).pending = s.pending := rfl
@[simp] theorem modMeter_portAt (m : Fin 16) (f : Meter → Meter) (x : Port) : (s.modMeter m f).port x = s.port x := rfl
@[simp] theorem modMeter_armAt (m : Fin 16) (f : Meter → Meter) (x : Fin 8) : (s.modMeter m f).arm x = s.arm x := rfl
@[simp] theorem modMeter_loadAt (m : Fin 16) (f : Meter → Meter) (x : Fin 8) : (s.modMeter m f).load? x = s.load? x := rfl
@[simp] theorem modMeter_probeAt (m : Fin 16) (f : Meter → Meter) (x : Fin 16) : (s.modMeter m f).probe x = s.probe x := rfl
@[simp] theorem modMeter_stationAt (m : Fin 16) (f : Meter → Meter) (x : Fin 4) : (s.modMeter m f).station x = s.station x := rfl
@[simp] theorem modMeter_queueAt (m : Fin 16) (f : Meter → Meter) (x : Fin 4) : (s.modMeter m f).queue x = s.queue x := rfl
@[simp] theorem modMeter_slotAt (m : Fin 16) (f : Meter → Meter) (x : Fin 32) : (s.modMeter m f).slot x = s.slot x := rfl
@[simp] theorem modMeter_pageAt (m : Fin 16) (f : Meter → Meter) (x : Fin 8) : (s.modMeter m f).page x = s.page x := rfl

/-! ### modProbe -/

@[simp] theorem modProbe_mode (c : Fin 16) (f : Probe → Probe) : (s.modProbe c f).mode = s.mode := rfl
@[simp] theorem modProbe_ports (c : Fin 16) (f : Probe → Probe) : (s.modProbe c f).ports = s.ports := rfl
@[simp] theorem modProbe_recipes (c : Fin 16) (f : Probe → Probe) : (s.modProbe c f).recipes = s.recipes := rfl
@[simp] theorem modProbe_queues (c : Fin 16) (f : Probe → Probe) : (s.modProbe c f).queues = s.queues := rfl
@[simp] theorem modProbe_authCounter (c : Fin 16) (f : Probe → Probe) : (s.modProbe c f).authCounter = s.authCounter := rfl
@[simp] theorem modProbe_arms (c : Fin 16) (f : Probe → Probe) : (s.modProbe c f).arms = s.arms := rfl
@[simp] theorem modProbe_meters (c : Fin 16) (f : Probe → Probe) : (s.modProbe c f).meters = s.meters := rfl
@[simp] theorem modProbe_scan (c : Fin 16) (f : Probe → Probe) : (s.modProbe c f).scan = s.scan := rfl
@[simp] theorem modProbe_settings (c : Fin 16) (f : Probe → Probe) : (s.modProbe c f).settings = s.settings := rfl
@[simp] theorem modProbe_header (c : Fin 16) (f : Probe → Probe) : (s.modProbe c f).header = s.header := rfl
@[simp] theorem modProbe_stations (c : Fin 16) (f : Probe → Probe) : (s.modProbe c f).stations = s.stations := rfl
@[simp] theorem modProbe_bus (c : Fin 16) (f : Probe → Probe) : (s.modProbe c f).bus = s.bus := rfl
@[simp] theorem modProbe_trips (c : Fin 16) (f : Probe → Probe) : (s.modProbe c f).trips = s.trips := rfl
@[simp] theorem modProbe_delivered (c : Fin 16) (f : Probe → Probe) : (s.modProbe c f).delivered = s.delivered := rfl
@[simp] theorem modProbe_reservations (c : Fin 16) (f : Probe → Probe) : (s.modProbe c f).reservations = s.reservations := rfl
@[simp] theorem modProbe_loadCounter (c : Fin 16) (f : Probe → Probe) : (s.modProbe c f).loadCounter = s.loadCounter := rfl
@[simp] theorem modProbe_seconds (c : Fin 16) (f : Probe → Probe) : (s.modProbe c f).seconds = s.seconds := rfl
@[simp] theorem modProbe_pages (c : Fin 16) (f : Probe → Probe) : (s.modProbe c f).pages = s.pages := rfl
@[simp] theorem modProbe_freeCount (c : Fin 16) (f : Probe → Probe) : (s.modProbe c f).freeCount = s.freeCount := rfl
@[simp] theorem modProbe_pending (c : Fin 16) (f : Probe → Probe) : (s.modProbe c f).pending = s.pending := rfl
@[simp] theorem modProbe_portAt (c : Fin 16) (f : Probe → Probe) (x : Port) : (s.modProbe c f).port x = s.port x := rfl
@[simp] theorem modProbe_armAt (c : Fin 16) (f : Probe → Probe) (x : Fin 8) : (s.modProbe c f).arm x = s.arm x := rfl
@[simp] theorem modProbe_loadAt (c : Fin 16) (f : Probe → Probe) (x : Fin 8) : (s.modProbe c f).load? x = s.load? x := rfl
@[simp] theorem modProbe_meterAt (c : Fin 16) (f : Probe → Probe) (x : Fin 16) : (s.modProbe c f).meter x = s.meter x := rfl
@[simp] theorem modProbe_stationAt (c : Fin 16) (f : Probe → Probe) (x : Fin 4) : (s.modProbe c f).station x = s.station x := rfl
@[simp] theorem modProbe_queueAt (c : Fin 16) (f : Probe → Probe) (x : Fin 4) : (s.modProbe c f).queue x = s.queue x := rfl
@[simp] theorem modProbe_slotAt (c : Fin 16) (f : Probe → Probe) (x : Fin 32) : (s.modProbe c f).slot x = s.slot x := rfl
@[simp] theorem modProbe_pageAt (c : Fin 16) (f : Probe → Probe) (x : Fin 8) : (s.modProbe c f).page x = s.page x := rfl

/-! ### modStation -/

@[simp] theorem modStation_mode (st : Fin 4) (f : Station → Station) : (s.modStation st f).mode = s.mode := rfl
@[simp] theorem modStation_ports (st : Fin 4) (f : Station → Station) : (s.modStation st f).ports = s.ports := rfl
@[simp] theorem modStation_recipes (st : Fin 4) (f : Station → Station) : (s.modStation st f).recipes = s.recipes := rfl
@[simp] theorem modStation_queues (st : Fin 4) (f : Station → Station) : (s.modStation st f).queues = s.queues := rfl
@[simp] theorem modStation_authCounter (st : Fin 4) (f : Station → Station) : (s.modStation st f).authCounter = s.authCounter := rfl
@[simp] theorem modStation_arms (st : Fin 4) (f : Station → Station) : (s.modStation st f).arms = s.arms := rfl
@[simp] theorem modStation_meters (st : Fin 4) (f : Station → Station) : (s.modStation st f).meters = s.meters := rfl
@[simp] theorem modStation_probes (st : Fin 4) (f : Station → Station) : (s.modStation st f).probes = s.probes := rfl
@[simp] theorem modStation_scan (st : Fin 4) (f : Station → Station) : (s.modStation st f).scan = s.scan := rfl
@[simp] theorem modStation_settings (st : Fin 4) (f : Station → Station) : (s.modStation st f).settings = s.settings := rfl
@[simp] theorem modStation_header (st : Fin 4) (f : Station → Station) : (s.modStation st f).header = s.header := rfl
@[simp] theorem modStation_bus (st : Fin 4) (f : Station → Station) : (s.modStation st f).bus = s.bus := rfl
@[simp] theorem modStation_trips (st : Fin 4) (f : Station → Station) : (s.modStation st f).trips = s.trips := rfl
@[simp] theorem modStation_delivered (st : Fin 4) (f : Station → Station) : (s.modStation st f).delivered = s.delivered := rfl
@[simp] theorem modStation_reservations (st : Fin 4) (f : Station → Station) : (s.modStation st f).reservations = s.reservations := rfl
@[simp] theorem modStation_loadCounter (st : Fin 4) (f : Station → Station) : (s.modStation st f).loadCounter = s.loadCounter := rfl
@[simp] theorem modStation_seconds (st : Fin 4) (f : Station → Station) : (s.modStation st f).seconds = s.seconds := rfl
@[simp] theorem modStation_pages (st : Fin 4) (f : Station → Station) : (s.modStation st f).pages = s.pages := rfl
@[simp] theorem modStation_freeCount (st : Fin 4) (f : Station → Station) : (s.modStation st f).freeCount = s.freeCount := rfl
@[simp] theorem modStation_pending (st : Fin 4) (f : Station → Station) : (s.modStation st f).pending = s.pending := rfl
@[simp] theorem modStation_portAt (st : Fin 4) (f : Station → Station) (x : Port) : (s.modStation st f).port x = s.port x := rfl
@[simp] theorem modStation_armAt (st : Fin 4) (f : Station → Station) (x : Fin 8) : (s.modStation st f).arm x = s.arm x := rfl
@[simp] theorem modStation_loadAt (st : Fin 4) (f : Station → Station) (x : Fin 8) : (s.modStation st f).load? x = s.load? x := rfl
@[simp] theorem modStation_meterAt (st : Fin 4) (f : Station → Station) (x : Fin 16) : (s.modStation st f).meter x = s.meter x := rfl
@[simp] theorem modStation_probeAt (st : Fin 4) (f : Station → Station) (x : Fin 16) : (s.modStation st f).probe x = s.probe x := rfl
@[simp] theorem modStation_queueAt (st : Fin 4) (f : Station → Station) (x : Fin 4) : (s.modStation st f).queue x = s.queue x := rfl
@[simp] theorem modStation_slotAt (st : Fin 4) (f : Station → Station) (x : Fin 32) : (s.modStation st f).slot x = s.slot x := rfl
@[simp] theorem modStation_pageAt (st : Fin 4) (f : Station → Station) (x : Fin 8) : (s.modStation st f).page x = s.page x := rfl

/-! ### setQueue -/

@[simp] theorem setQueue_mode (l : Fin 4) (q : List Authorization) : (s.setQueue l q).mode = s.mode := rfl
@[simp] theorem setQueue_ports (l : Fin 4) (q : List Authorization) : (s.setQueue l q).ports = s.ports := rfl
@[simp] theorem setQueue_recipes (l : Fin 4) (q : List Authorization) : (s.setQueue l q).recipes = s.recipes := rfl
@[simp] theorem setQueue_authCounter (l : Fin 4) (q : List Authorization) : (s.setQueue l q).authCounter = s.authCounter := rfl
@[simp] theorem setQueue_arms (l : Fin 4) (q : List Authorization) : (s.setQueue l q).arms = s.arms := rfl
@[simp] theorem setQueue_meters (l : Fin 4) (q : List Authorization) : (s.setQueue l q).meters = s.meters := rfl
@[simp] theorem setQueue_probes (l : Fin 4) (q : List Authorization) : (s.setQueue l q).probes = s.probes := rfl
@[simp] theorem setQueue_scan (l : Fin 4) (q : List Authorization) : (s.setQueue l q).scan = s.scan := rfl
@[simp] theorem setQueue_settings (l : Fin 4) (q : List Authorization) : (s.setQueue l q).settings = s.settings := rfl
@[simp] theorem setQueue_header (l : Fin 4) (q : List Authorization) : (s.setQueue l q).header = s.header := rfl
@[simp] theorem setQueue_stations (l : Fin 4) (q : List Authorization) : (s.setQueue l q).stations = s.stations := rfl
@[simp] theorem setQueue_bus (l : Fin 4) (q : List Authorization) : (s.setQueue l q).bus = s.bus := rfl
@[simp] theorem setQueue_trips (l : Fin 4) (q : List Authorization) : (s.setQueue l q).trips = s.trips := rfl
@[simp] theorem setQueue_delivered (l : Fin 4) (q : List Authorization) : (s.setQueue l q).delivered = s.delivered := rfl
@[simp] theorem setQueue_reservations (l : Fin 4) (q : List Authorization) : (s.setQueue l q).reservations = s.reservations := rfl
@[simp] theorem setQueue_loadCounter (l : Fin 4) (q : List Authorization) : (s.setQueue l q).loadCounter = s.loadCounter := rfl
@[simp] theorem setQueue_seconds (l : Fin 4) (q : List Authorization) : (s.setQueue l q).seconds = s.seconds := rfl
@[simp] theorem setQueue_pages (l : Fin 4) (q : List Authorization) : (s.setQueue l q).pages = s.pages := rfl
@[simp] theorem setQueue_freeCount (l : Fin 4) (q : List Authorization) : (s.setQueue l q).freeCount = s.freeCount := rfl
@[simp] theorem setQueue_pending (l : Fin 4) (q : List Authorization) : (s.setQueue l q).pending = s.pending := rfl
@[simp] theorem setQueue_portAt (l : Fin 4) (q : List Authorization) (x : Port) : (s.setQueue l q).port x = s.port x := rfl
@[simp] theorem setQueue_armAt (l : Fin 4) (q : List Authorization) (x : Fin 8) : (s.setQueue l q).arm x = s.arm x := rfl
@[simp] theorem setQueue_loadAt (l : Fin 4) (q : List Authorization) (x : Fin 8) : (s.setQueue l q).load? x = s.load? x := rfl
@[simp] theorem setQueue_meterAt (l : Fin 4) (q : List Authorization) (x : Fin 16) : (s.setQueue l q).meter x = s.meter x := rfl
@[simp] theorem setQueue_probeAt (l : Fin 4) (q : List Authorization) (x : Fin 16) : (s.setQueue l q).probe x = s.probe x := rfl
@[simp] theorem setQueue_stationAt (l : Fin 4) (q : List Authorization) (x : Fin 4) : (s.setQueue l q).station x = s.station x := rfl
@[simp] theorem setQueue_slotAt (l : Fin 4) (q : List Authorization) (x : Fin 32) : (s.setQueue l q).slot x = s.slot x := rfl
@[simp] theorem setQueue_pageAt (l : Fin 4) (q : List Authorization) (x : Fin 8) : (s.setQueue l q).page x = s.page x := rfl

/-! ### setSlot -/

@[simp] theorem setSlot_mode (k : Fin 32) (r : RecipeSlot) : (s.setSlot k r).mode = s.mode := rfl
@[simp] theorem setSlot_ports (k : Fin 32) (r : RecipeSlot) : (s.setSlot k r).ports = s.ports := rfl
@[simp] theorem setSlot_queues (k : Fin 32) (r : RecipeSlot) : (s.setSlot k r).queues = s.queues := rfl
@[simp] theorem setSlot_authCounter (k : Fin 32) (r : RecipeSlot) : (s.setSlot k r).authCounter = s.authCounter := rfl
@[simp] theorem setSlot_arms (k : Fin 32) (r : RecipeSlot) : (s.setSlot k r).arms = s.arms := rfl
@[simp] theorem setSlot_meters (k : Fin 32) (r : RecipeSlot) : (s.setSlot k r).meters = s.meters := rfl
@[simp] theorem setSlot_probes (k : Fin 32) (r : RecipeSlot) : (s.setSlot k r).probes = s.probes := rfl
@[simp] theorem setSlot_scan (k : Fin 32) (r : RecipeSlot) : (s.setSlot k r).scan = s.scan := rfl
@[simp] theorem setSlot_settings (k : Fin 32) (r : RecipeSlot) : (s.setSlot k r).settings = s.settings := rfl
@[simp] theorem setSlot_header (k : Fin 32) (r : RecipeSlot) : (s.setSlot k r).header = s.header := rfl
@[simp] theorem setSlot_stations (k : Fin 32) (r : RecipeSlot) : (s.setSlot k r).stations = s.stations := rfl
@[simp] theorem setSlot_bus (k : Fin 32) (r : RecipeSlot) : (s.setSlot k r).bus = s.bus := rfl
@[simp] theorem setSlot_trips (k : Fin 32) (r : RecipeSlot) : (s.setSlot k r).trips = s.trips := rfl
@[simp] theorem setSlot_delivered (k : Fin 32) (r : RecipeSlot) : (s.setSlot k r).delivered = s.delivered := rfl
@[simp] theorem setSlot_reservations (k : Fin 32) (r : RecipeSlot) : (s.setSlot k r).reservations = s.reservations := rfl
@[simp] theorem setSlot_loadCounter (k : Fin 32) (r : RecipeSlot) : (s.setSlot k r).loadCounter = s.loadCounter := rfl
@[simp] theorem setSlot_seconds (k : Fin 32) (r : RecipeSlot) : (s.setSlot k r).seconds = s.seconds := rfl
@[simp] theorem setSlot_pages (k : Fin 32) (r : RecipeSlot) : (s.setSlot k r).pages = s.pages := rfl
@[simp] theorem setSlot_freeCount (k : Fin 32) (r : RecipeSlot) : (s.setSlot k r).freeCount = s.freeCount := rfl
@[simp] theorem setSlot_pending (k : Fin 32) (r : RecipeSlot) : (s.setSlot k r).pending = s.pending := rfl
@[simp] theorem setSlot_portAt (k : Fin 32) (r : RecipeSlot) (x : Port) : (s.setSlot k r).port x = s.port x := rfl
@[simp] theorem setSlot_armAt (k : Fin 32) (r : RecipeSlot) (x : Fin 8) : (s.setSlot k r).arm x = s.arm x := rfl
@[simp] theorem setSlot_loadAt (k : Fin 32) (r : RecipeSlot) (x : Fin 8) : (s.setSlot k r).load? x = s.load? x := rfl
@[simp] theorem setSlot_meterAt (k : Fin 32) (r : RecipeSlot) (x : Fin 16) : (s.setSlot k r).meter x = s.meter x := rfl
@[simp] theorem setSlot_probeAt (k : Fin 32) (r : RecipeSlot) (x : Fin 16) : (s.setSlot k r).probe x = s.probe x := rfl
@[simp] theorem setSlot_stationAt (k : Fin 32) (r : RecipeSlot) (x : Fin 4) : (s.setSlot k r).station x = s.station x := rfl
@[simp] theorem setSlot_queueAt (k : Fin 32) (r : RecipeSlot) (x : Fin 4) : (s.setSlot k r).queue x = s.queue x := rfl
@[simp] theorem setSlot_pageAt (k : Fin 32) (r : RecipeSlot) (x : Fin 8) : (s.setSlot k r).page x = s.page x := rfl

/-! ### modPage -/

@[simp] theorem modPage_mode (a : Fin 8) (f : TracePage → TracePage) : (s.modPage a f).mode = s.mode := rfl
@[simp] theorem modPage_ports (a : Fin 8) (f : TracePage → TracePage) : (s.modPage a f).ports = s.ports := rfl
@[simp] theorem modPage_recipes (a : Fin 8) (f : TracePage → TracePage) : (s.modPage a f).recipes = s.recipes := rfl
@[simp] theorem modPage_queues (a : Fin 8) (f : TracePage → TracePage) : (s.modPage a f).queues = s.queues := rfl
@[simp] theorem modPage_authCounter (a : Fin 8) (f : TracePage → TracePage) : (s.modPage a f).authCounter = s.authCounter := rfl
@[simp] theorem modPage_arms (a : Fin 8) (f : TracePage → TracePage) : (s.modPage a f).arms = s.arms := rfl
@[simp] theorem modPage_meters (a : Fin 8) (f : TracePage → TracePage) : (s.modPage a f).meters = s.meters := rfl
@[simp] theorem modPage_probes (a : Fin 8) (f : TracePage → TracePage) : (s.modPage a f).probes = s.probes := rfl
@[simp] theorem modPage_scan (a : Fin 8) (f : TracePage → TracePage) : (s.modPage a f).scan = s.scan := rfl
@[simp] theorem modPage_settings (a : Fin 8) (f : TracePage → TracePage) : (s.modPage a f).settings = s.settings := rfl
@[simp] theorem modPage_header (a : Fin 8) (f : TracePage → TracePage) : (s.modPage a f).header = s.header := rfl
@[simp] theorem modPage_stations (a : Fin 8) (f : TracePage → TracePage) : (s.modPage a f).stations = s.stations := rfl
@[simp] theorem modPage_bus (a : Fin 8) (f : TracePage → TracePage) : (s.modPage a f).bus = s.bus := rfl
@[simp] theorem modPage_trips (a : Fin 8) (f : TracePage → TracePage) : (s.modPage a f).trips = s.trips := rfl
@[simp] theorem modPage_delivered (a : Fin 8) (f : TracePage → TracePage) : (s.modPage a f).delivered = s.delivered := rfl
@[simp] theorem modPage_reservations (a : Fin 8) (f : TracePage → TracePage) : (s.modPage a f).reservations = s.reservations := rfl
@[simp] theorem modPage_loadCounter (a : Fin 8) (f : TracePage → TracePage) : (s.modPage a f).loadCounter = s.loadCounter := rfl
@[simp] theorem modPage_seconds (a : Fin 8) (f : TracePage → TracePage) : (s.modPage a f).seconds = s.seconds := rfl
@[simp] theorem modPage_freeCount (a : Fin 8) (f : TracePage → TracePage) : (s.modPage a f).freeCount = s.freeCount := rfl
@[simp] theorem modPage_pending (a : Fin 8) (f : TracePage → TracePage) : (s.modPage a f).pending = s.pending := rfl
@[simp] theorem modPage_portAt (a : Fin 8) (f : TracePage → TracePage) (x : Port) : (s.modPage a f).port x = s.port x := rfl
@[simp] theorem modPage_armAt (a : Fin 8) (f : TracePage → TracePage) (x : Fin 8) : (s.modPage a f).arm x = s.arm x := rfl
@[simp] theorem modPage_loadAt (a : Fin 8) (f : TracePage → TracePage) (x : Fin 8) : (s.modPage a f).load? x = s.load? x := rfl
@[simp] theorem modPage_meterAt (a : Fin 8) (f : TracePage → TracePage) (x : Fin 16) : (s.modPage a f).meter x = s.meter x := rfl
@[simp] theorem modPage_probeAt (a : Fin 8) (f : TracePage → TracePage) (x : Fin 16) : (s.modPage a f).probe x = s.probe x := rfl
@[simp] theorem modPage_stationAt (a : Fin 8) (f : TracePage → TracePage) (x : Fin 4) : (s.modPage a f).station x = s.station x := rfl
@[simp] theorem modPage_queueAt (a : Fin 8) (f : TracePage → TracePage) (x : Fin 4) : (s.modPage a f).queue x = s.queue x := rfl
@[simp] theorem modPage_slotAt (a : Fin 8) (f : TracePage → TracePage) (x : Fin 32) : (s.modPage a f).slot x = s.slot x := rfl

/-! ### modHeader -/

@[simp] theorem modHeader_mode (f : Header → Header) : (s.modHeader f).mode = s.mode := rfl
@[simp] theorem modHeader_ports (f : Header → Header) : (s.modHeader f).ports = s.ports := rfl
@[simp] theorem modHeader_recipes (f : Header → Header) : (s.modHeader f).recipes = s.recipes := rfl
@[simp] theorem modHeader_queues (f : Header → Header) : (s.modHeader f).queues = s.queues := rfl
@[simp] theorem modHeader_authCounter (f : Header → Header) : (s.modHeader f).authCounter = s.authCounter := rfl
@[simp] theorem modHeader_arms (f : Header → Header) : (s.modHeader f).arms = s.arms := rfl
@[simp] theorem modHeader_meters (f : Header → Header) : (s.modHeader f).meters = s.meters := rfl
@[simp] theorem modHeader_probes (f : Header → Header) : (s.modHeader f).probes = s.probes := rfl
@[simp] theorem modHeader_scan (f : Header → Header) : (s.modHeader f).scan = s.scan := rfl
@[simp] theorem modHeader_settings (f : Header → Header) : (s.modHeader f).settings = s.settings := rfl
@[simp] theorem modHeader_stations (f : Header → Header) : (s.modHeader f).stations = s.stations := rfl
@[simp] theorem modHeader_bus (f : Header → Header) : (s.modHeader f).bus = s.bus := rfl
@[simp] theorem modHeader_trips (f : Header → Header) : (s.modHeader f).trips = s.trips := rfl
@[simp] theorem modHeader_delivered (f : Header → Header) : (s.modHeader f).delivered = s.delivered := rfl
@[simp] theorem modHeader_reservations (f : Header → Header) : (s.modHeader f).reservations = s.reservations := rfl
@[simp] theorem modHeader_loadCounter (f : Header → Header) : (s.modHeader f).loadCounter = s.loadCounter := rfl
@[simp] theorem modHeader_seconds (f : Header → Header) : (s.modHeader f).seconds = s.seconds := rfl
@[simp] theorem modHeader_pages (f : Header → Header) : (s.modHeader f).pages = s.pages := rfl
@[simp] theorem modHeader_freeCount (f : Header → Header) : (s.modHeader f).freeCount = s.freeCount := rfl
@[simp] theorem modHeader_pending (f : Header → Header) : (s.modHeader f).pending = s.pending := rfl
@[simp] theorem modHeader_portAt (f : Header → Header) (x : Port) : (s.modHeader f).port x = s.port x := rfl
@[simp] theorem modHeader_armAt (f : Header → Header) (x : Fin 8) : (s.modHeader f).arm x = s.arm x := rfl
@[simp] theorem modHeader_loadAt (f : Header → Header) (x : Fin 8) : (s.modHeader f).load? x = s.load? x := rfl
@[simp] theorem modHeader_meterAt (f : Header → Header) (x : Fin 16) : (s.modHeader f).meter x = s.meter x := rfl
@[simp] theorem modHeader_probeAt (f : Header → Header) (x : Fin 16) : (s.modHeader f).probe x = s.probe x := rfl
@[simp] theorem modHeader_stationAt (f : Header → Header) (x : Fin 4) : (s.modHeader f).station x = s.station x := rfl
@[simp] theorem modHeader_queueAt (f : Header → Header) (x : Fin 4) : (s.modHeader f).queue x = s.queue x := rfl
@[simp] theorem modHeader_slotAt (f : Header → Header) (x : Fin 32) : (s.modHeader f).slot x = s.slot x := rfl
@[simp] theorem modHeader_pageAt (f : Header → Header) (x : Fin 8) : (s.modHeader f).page x = s.page x := rfl

/-! ### modTxn -/

@[simp] theorem modTxn_mode (f : Txn → Txn) : (s.modTxn f).mode = s.mode := rfl
@[simp] theorem modTxn_ports (f : Txn → Txn) : (s.modTxn f).ports = s.ports := rfl
@[simp] theorem modTxn_recipes (f : Txn → Txn) : (s.modTxn f).recipes = s.recipes := rfl
@[simp] theorem modTxn_queues (f : Txn → Txn) : (s.modTxn f).queues = s.queues := rfl
@[simp] theorem modTxn_authCounter (f : Txn → Txn) : (s.modTxn f).authCounter = s.authCounter := rfl
@[simp] theorem modTxn_arms (f : Txn → Txn) : (s.modTxn f).arms = s.arms := rfl
@[simp] theorem modTxn_meters (f : Txn → Txn) : (s.modTxn f).meters = s.meters := rfl
@[simp] theorem modTxn_probes (f : Txn → Txn) : (s.modTxn f).probes = s.probes := rfl
@[simp] theorem modTxn_scan (f : Txn → Txn) : (s.modTxn f).scan = s.scan := rfl
@[simp] theorem modTxn_settings (f : Txn → Txn) : (s.modTxn f).settings = s.settings := rfl
@[simp] theorem modTxn_header (f : Txn → Txn) : (s.modTxn f).header = s.header := rfl
@[simp] theorem modTxn_stations (f : Txn → Txn) : (s.modTxn f).stations = s.stations := rfl
@[simp] theorem modTxn_trips (f : Txn → Txn) : (s.modTxn f).trips = s.trips := rfl
@[simp] theorem modTxn_delivered (f : Txn → Txn) : (s.modTxn f).delivered = s.delivered := rfl
@[simp] theorem modTxn_reservations (f : Txn → Txn) : (s.modTxn f).reservations = s.reservations := rfl
@[simp] theorem modTxn_loadCounter (f : Txn → Txn) : (s.modTxn f).loadCounter = s.loadCounter := rfl
@[simp] theorem modTxn_seconds (f : Txn → Txn) : (s.modTxn f).seconds = s.seconds := rfl
@[simp] theorem modTxn_pages (f : Txn → Txn) : (s.modTxn f).pages = s.pages := rfl
@[simp] theorem modTxn_freeCount (f : Txn → Txn) : (s.modTxn f).freeCount = s.freeCount := rfl
@[simp] theorem modTxn_pending (f : Txn → Txn) : (s.modTxn f).pending = s.pending := rfl
@[simp] theorem modTxn_portAt (f : Txn → Txn) (x : Port) : (s.modTxn f).port x = s.port x := rfl
@[simp] theorem modTxn_armAt (f : Txn → Txn) (x : Fin 8) : (s.modTxn f).arm x = s.arm x := rfl
@[simp] theorem modTxn_loadAt (f : Txn → Txn) (x : Fin 8) : (s.modTxn f).load? x = s.load? x := rfl
@[simp] theorem modTxn_meterAt (f : Txn → Txn) (x : Fin 16) : (s.modTxn f).meter x = s.meter x := rfl
@[simp] theorem modTxn_probeAt (f : Txn → Txn) (x : Fin 16) : (s.modTxn f).probe x = s.probe x := rfl
@[simp] theorem modTxn_stationAt (f : Txn → Txn) (x : Fin 4) : (s.modTxn f).station x = s.station x := rfl
@[simp] theorem modTxn_queueAt (f : Txn → Txn) (x : Fin 4) : (s.modTxn f).queue x = s.queue x := rfl
@[simp] theorem modTxn_slotAt (f : Txn → Txn) (x : Fin 32) : (s.modTxn f).slot x = s.slot x := rfl
@[simp] theorem modTxn_pageAt (f : Txn → Txn) (x : Fin 8) : (s.modTxn f).page x = s.page x := rfl

/-! ### setLink -/

@[simp] theorem setLink_mode (p : Port) (l : Option Link) : (s.setLink p l).mode = s.mode := rfl
@[simp] theorem setLink_recipes (p : Port) (l : Option Link) : (s.setLink p l).recipes = s.recipes := rfl
@[simp] theorem setLink_queues (p : Port) (l : Option Link) : (s.setLink p l).queues = s.queues := rfl
@[simp] theorem setLink_authCounter (p : Port) (l : Option Link) : (s.setLink p l).authCounter = s.authCounter := rfl
@[simp] theorem setLink_arms (p : Port) (l : Option Link) : (s.setLink p l).arms = s.arms := rfl
@[simp] theorem setLink_meters (p : Port) (l : Option Link) : (s.setLink p l).meters = s.meters := rfl
@[simp] theorem setLink_probes (p : Port) (l : Option Link) : (s.setLink p l).probes = s.probes := rfl
@[simp] theorem setLink_scan (p : Port) (l : Option Link) : (s.setLink p l).scan = s.scan := rfl
@[simp] theorem setLink_settings (p : Port) (l : Option Link) : (s.setLink p l).settings = s.settings := rfl
@[simp] theorem setLink_header (p : Port) (l : Option Link) : (s.setLink p l).header = s.header := rfl
@[simp] theorem setLink_stations (p : Port) (l : Option Link) : (s.setLink p l).stations = s.stations := rfl
@[simp] theorem setLink_bus (p : Port) (l : Option Link) : (s.setLink p l).bus = s.bus := rfl
@[simp] theorem setLink_trips (p : Port) (l : Option Link) : (s.setLink p l).trips = s.trips := rfl
@[simp] theorem setLink_delivered (p : Port) (l : Option Link) : (s.setLink p l).delivered = s.delivered := rfl
@[simp] theorem setLink_reservations (p : Port) (l : Option Link) : (s.setLink p l).reservations = s.reservations := rfl
@[simp] theorem setLink_loadCounter (p : Port) (l : Option Link) : (s.setLink p l).loadCounter = s.loadCounter := rfl
@[simp] theorem setLink_seconds (p : Port) (l : Option Link) : (s.setLink p l).seconds = s.seconds := rfl
@[simp] theorem setLink_pages (p : Port) (l : Option Link) : (s.setLink p l).pages = s.pages := rfl
@[simp] theorem setLink_freeCount (p : Port) (l : Option Link) : (s.setLink p l).freeCount = s.freeCount := rfl
@[simp] theorem setLink_pending (p : Port) (l : Option Link) : (s.setLink p l).pending = s.pending := rfl
@[simp] theorem setLink_armAt (p : Port) (l : Option Link) (x : Fin 8) : (s.setLink p l).arm x = s.arm x := rfl
@[simp] theorem setLink_loadAt (p : Port) (l : Option Link) (x : Fin 8) : (s.setLink p l).load? x = s.load? x := rfl
@[simp] theorem setLink_meterAt (p : Port) (l : Option Link) (x : Fin 16) : (s.setLink p l).meter x = s.meter x := rfl
@[simp] theorem setLink_probeAt (p : Port) (l : Option Link) (x : Fin 16) : (s.setLink p l).probe x = s.probe x := rfl
@[simp] theorem setLink_stationAt (p : Port) (l : Option Link) (x : Fin 4) : (s.setLink p l).station x = s.station x := rfl
@[simp] theorem setLink_queueAt (p : Port) (l : Option Link) (x : Fin 4) : (s.setLink p l).queue x = s.queue x := rfl
@[simp] theorem setLink_slotAt (p : Port) (l : Option Link) (x : Fin 32) : (s.setLink p l).slot x = s.slot x := rfl
@[simp] theorem setLink_pageAt (p : Port) (l : Option Link) (x : Fin 8) : (s.setLink p l).page x = s.page x := rfl

/-! ### The item that an update changes -/

@[simp] theorem modArm_arm_self (a : Fin 8) (f : Arm → Arm) : (s.modArm a f).arm a = f (s.arm a) := by
  simp [State.arm, State.modArm]

@[simp] theorem modArm_arm_ne (a : Fin 8) (f : Arm → Arm) (x : Fin 8) (h : x ≠ a) : (s.modArm a f).arm x = s.arm x := by
  have h' : a.val ≠ x.val := fun e => h (Fin.ext e.symm)
  simp [State.arm, State.modArm, h']

@[simp] theorem modMeter_meter_self (m : Fin 16) (f : Meter → Meter) : (s.modMeter m f).meter m = f (s.meter m) := by
  simp [State.meter, State.modMeter]

@[simp] theorem modMeter_meter_ne (m : Fin 16) (f : Meter → Meter) (x : Fin 16) (h : x ≠ m) : (s.modMeter m f).meter x = s.meter x := by
  have h' : m.val ≠ x.val := fun e => h (Fin.ext e.symm)
  simp [State.meter, State.modMeter, h']

@[simp] theorem modProbe_probe_self (c : Fin 16) (f : Probe → Probe) : (s.modProbe c f).probe c = f (s.probe c) := by
  simp [State.probe, State.modProbe]

@[simp] theorem modProbe_probe_ne (c : Fin 16) (f : Probe → Probe) (x : Fin 16) (h : x ≠ c) : (s.modProbe c f).probe x = s.probe x := by
  have h' : c.val ≠ x.val := fun e => h (Fin.ext e.symm)
  simp [State.probe, State.modProbe, h']

@[simp] theorem modStation_station_self (st : Fin 4) (f : Station → Station) : (s.modStation st f).station st = f (s.station st) := by
  simp [State.station, State.modStation]

@[simp] theorem modStation_station_ne (st : Fin 4) (f : Station → Station) (x : Fin 4) (h : x ≠ st) : (s.modStation st f).station x = s.station x := by
  have h' : st.val ≠ x.val := fun e => h (Fin.ext e.symm)
  simp [State.station, State.modStation, h']

@[simp] theorem setQueue_queue_self (l : Fin 4) (q : List Authorization) : (s.setQueue l q).queue l = q := by
  simp [State.queue, State.setQueue]

@[simp] theorem setQueue_queue_ne (l : Fin 4) (q : List Authorization) (x : Fin 4) (h : x ≠ l) : (s.setQueue l q).queue x = s.queue x := by
  have h' : l.val ≠ x.val := fun e => h (Fin.ext e.symm)
  simp [State.queue, State.setQueue, h']

@[simp] theorem setSlot_slot_self (k : Fin 32) (r : RecipeSlot) : (s.setSlot k r).slot k = r := by
  simp [State.slot, State.setSlot]

@[simp] theorem setSlot_slot_ne (k : Fin 32) (r : RecipeSlot) (x : Fin 32) (h : x ≠ k) : (s.setSlot k r).slot x = s.slot x := by
  have h' : k.val ≠ x.val := fun e => h (Fin.ext e.symm)
  simp [State.slot, State.setSlot, h']

@[simp] theorem modPage_page_self (a : Fin 8) (f : TracePage → TracePage) : (s.modPage a f).page a = f (s.page a) := by
  simp [State.page, State.modPage]

@[simp] theorem modPage_page_ne (a : Fin 8) (f : TracePage → TracePage) (x : Fin 8) (h : x ≠ a) : (s.modPage a f).page x = s.page x := by
  have h' : a.val ≠ x.val := fun e => h (Fin.ext e.symm)
  simp [State.page, State.modPage, h']

theorem portIndex_inj {p q : Port} (h : portIndex p = portIndex q) : p = q := by
  have h' := congrArg Fin.val h
  cases p <;> cases q <;> simp only [portIndex] at h' <;> first
    | rfl
    | exact absurd h' (by decide)
    | (simp only [Port.lp.injEq, Fin.ext_iff]; omega)
    | (exfalso; revert h'; simp; done)
    | (exfalso; simp at h'; omega)

@[simp] theorem modPort_port_self (p : Port) (f : PortState → PortState) : (s.modPort p f).port p = f (s.port p) := by
  simp [State.port, State.modPort]

@[simp] theorem modPort_port_ne (p : Port) (f : PortState → PortState) (x : Port) (h : x ≠ p) :
    (s.modPort p f).port x = s.port x := by
  have h' : (portIndex p).val ≠ (portIndex x).val := fun e => h (portIndex_inj (Fin.ext e.symm))
  simp [State.port, State.modPort, h']

@[simp] theorem modLoad_load_self (a : Fin 8) (f : Load → Load) : (s.modLoad a f).load? a = (s.load? a).map f := by
  simp [State.load?, State.modLoad]

@[simp] theorem modLoad_load_ne (a : Fin 8) (f : Load → Load) (x : Fin 8) (h : x ≠ a) :
    (s.modLoad a f).load? x = s.load? x := by
  simp [State.load?, State.modLoad, h]

/-- Two updates of one port are one. -/
theorem modPort_modPort (p : Port) (f g : PortState → PortState) :
    (s.modPort p f).modPort p g = s.modPort p fun x => g (f x) := by
  simp [State.modPort]

/-- An update that leaves a port as it is leaves the state as it is. -/
theorem modPort_eq_self (p : Port) (f : PortState → PortState) (h : f (s.port p) = s.port p) : s.modPort p f = s := by
  have h' : f s.ports[(portIndex p).val] = s.ports[(portIndex p).val] := h
  simp [State.modPort, h']

end State

end Sys2Proof.Machine
end

