-- ==== Sys2Proof/Laws/Bus.lean ====
section
/-! SUPPORT. What the bus arbiter's grant does, and what a tick's taper step leaves, each said once. -/

namespace Sys2Proof.Machine

/-- A taper step's opening is set at the first step that lies at V, the lower of it and the present one. -/
theorem taperStepped_at {l : Load} {j : Nat} (o : Nat) (lo : 1 ≤ j) (hi : j ≤ l.recipe.taperSteps)
    (at_ : l.data.product = l.recipe.taperStepVolume l.data.taperPoint j)
    (first : ∀ i, 1 ≤ i → i < j → l.data.product ≠ l.recipe.taperStepVolume l.data.taperPoint i) :
    l.taperStepped o = min (l.recipe.taperOpening j) o := by
  have due : l.taperStepDue = some j := by
    obtain ⟨k, rfl⟩ : ∃ k, j = k + 1 := ⟨j - 1, by omega⟩
    have found : ((List.range l.recipe.taperSteps).find? fun k =>
        decide (l.recipe.taperStepVolume l.data.taperPoint (k + 1) = l.data.product)) = some k := by
      rw [List.find?_range_eq_some]
      refine ⟨by simp [at_], List.mem_range.mpr (by omega), fun i hi' => ?_⟩
      simpa using fun e => first (i + 1) (by omega) (by omega) e.symm
    simp [Load.taperStepDue, found]
  simp [Load.taperStepped, due]

/-- Where no taper step lies at V, the opening stays. -/
theorem taperStepped_elsewhere {l : Load} (o : Nat)
    (none : ∀ j, 1 ≤ j → j ≤ l.recipe.taperSteps → l.data.product ≠ l.recipe.taperStepVolume l.data.taperPoint j) :
    l.taperStepped o = o := by
  have due : l.taperStepDue = Option.none := by
    simp only [Load.taperStepDue, Option.map_eq_none_iff, List.find?_eq_none, List.mem_range, decide_eq_true_eq]
    exact fun k hk e => none (k + 1) (by omega) (by omega) e.symm
  simp [Load.taperStepped, due]

namespace State

/-- A busy bus grants nothing. -/
theorem arbitrate_busy {s : State} (h : s.bus.txn ≠ none) : s.arbitrate = s := by
  unfold arbitrate
  rw [if_pos (Option.isSome_iff_ne_none.mpr h)]

/-- Four answers as a function of the station. -/
def fourWay (b0 b1 b2 b3 : Bool) (k : Fin 4) : Bool := if k = 0 then b0 else if k = 1 then b1 else if k = 2 then b2 else b3

/-- Every function of the station is its four answers. -/
theorem eq_fourWay (r : Fin 4 → Bool) : r = fourWay (r 0) (r 1) (r 2) (r 3) := by
  funext k
  match k with
  | 0 => rfl
  | 1 => rfl
  | 2 => rfl
  | 3 => rfl

/-- The round-robin search over four answers. -/
theorem search_fourWay : ∀ (b0 b1 b2 b3 : Bool) (p d : Fin 4),
    [p + 1, p + 2, p + 3, p].find? (fourWay b0 b1 b2 b3) = some d ↔
      fourWay b0 b1 b2 b3 d = true ∧ ∀ e, fourWay b0 b1 b2 b3 e = true → d - (p + 1) ≤ e - (p + 1) := by
  decide +kernel

/-- The search of R138 finds the first station asking from the one after the pointer. -/
theorem nextRequester_eq_some {s : State} {d : Fin 4} :
    s.nextRequester = some d ↔ firstAsking s.bus.pointer (fun k => (s.station k).request) d := by
  unfold nextRequester firstAsking
  rw [eq_fourWay fun k => (s.station k).request]
  exact search_fourWay ..

/-- The search finds none where no station asks. -/
theorem nextRequester_eq_none {s : State} (h : ∀ k, (s.station k).request = false) : s.nextRequester = none := by
  simp [nextRequester, h]

/-- The frame that a granted station forms is the one R125, R128 and R136 give. -/
theorem frameFormed_of_granted {s t : State} {d : Fin 4} (bus : t.bus.txn = s.formTxn d)
    (same : t.station d = { s.station d with request := false }) : t.frameFormed d := by
  constructor
  · intro y hy
    rw [bus] at hy
    unfold formTxn at hy
    split at hy
    · split at hy
      · exact absurd hy (by simp)
      · split at hy <;> (obtain rfl := Option.some.inj hy; exact ⟨rfl, rfl, rfl⟩)
    · split at hy
      · exact absurd hy (by simp)
      · obtain rfl := Option.some.inj hy; exact ⟨rfl, rfl, rfl⟩
    · split at hy
      · obtain rfl := Option.some.inj hy; exact ⟨rfl, rfl, rfl⟩
      · exact absurd hy (by simp)
    · exact absurd hy (by simp)
    · exact absurd hy (by simp)
  · intro e rest hs hq
    simp only [same] at hs hq ⊢
    by_cases m : (s.station d).manifold = some e.arm <;> simp [bus, formTxn, hs, hq, m]
  · intro sh hs hq
    simp only [same] at hs hq
    simp [bus, formTxn, hs, hq]
  · intro hs hq
    simp only [same] at hs hq
    simp [bus, formTxn, hs, Option.isSome_iff_ne_none.mpr hq]

/-- The arbiter hands a free bus on to the next station asking (R138). -/
theorem arbitrate_handsOn {s u : State} (free : u.bus = { pointer := s.bus.pointer, txn := none }) :
    s.busHandedOn u.arbitrate fun k => (u.station k).request := by
  have hp : u.bus.pointer = s.bus.pointer := by rw [free]
  have hb : ¬ u.bus.txn.isSome = true := by rw [free]; simp
  refine ⟨fun h => ?_, fun d h => ?_⟩
  · unfold arbitrate
    rw [if_neg hb, nextRequester_eq_none h]
    exact free
  · have found : u.nextRequester = some d := nextRequester_eq_some.mpr (hp ▸ h)
    have granted : u.arbitrate =
        { u.modStation d fun x => { x with request := false } with bus := { pointer := d, txn := u.formTxn d } } := by
      unfold arbitrate
      rw [if_neg hb, found]
    have own : u.arbitrate.station d = { u.station d with request := false } := by
      rw [granted]; exact modStation_station_self u d fun x => { x with request := false }
    refine ⟨by rw [granted], frameFormed_of_granted (by rw [granted]) own, fun k => ?_⟩
    by_cases e : k = d
    · subst e; simp [own]
    · have other : u.arbitrate.station k = u.station k := by
        rw [granted]; exact modStation_station_ne u d (fun x => { x with request := false }) k e
      simp [other, e]

end State

end Sys2Proof.Machine
end

