-- ==== Sys2Proof/Laws/Closed.lean ====
section
/-! SUPPORT. What the progress of a load can do, said once: every shared operation of Bus, Arms, Ticks, Stations, Loads,
Holds and TripEvents is built from changes of arms, header, stations, bus, trace pages, meters, delivered list, notices
and the answer to a restore. A property closed under those changes is kept by each of them. -/

namespace Sys2Proof.Machine

/-- A notice may be raised on these ports: their classes hold its flag (R186). -/
def raisable (n : Notice) (ps : List Port) : Prop := ∀ p ∈ ps, n.set &&& ~~~(classFlags p) = 0#16

/-- Every notice may be raised on the terminals. -/
theorem raisable_terminals (n : Notice) : raisable n terminalPorts := by
  intro p hp
  simp only [terminalPorts, List.mem_cons, List.not_mem_nil, or_false] at hp
  rcases hp with rfl | rfl <;> cases n <;> decide

/-- The first six notices of R186 may be raised on every port. -/
theorem raisable_lane (n : Notice) (ps : List Port) (h : n.bit < 6) : raisable n ps := by
  intro p _
  have hc : classFlags p = terminalFlags ∨ classFlags p = laneFlags := by
    unfold classFlags
    split
    · exact Or.inl rfl
    · exact Or.inr rfl
  rcases hc with hc | hc <;> rw [hc] <;> cases n <;> first
    | exact absurd h (by decide)
    | decide

/-- A property of states that the changes a load's progress is made of keep. -/
structure Closed (P : State → Prop) : Prop where
  arm : ∀ {s : State} (a : Fin 8) (f : Arm → Arm), P s → P (s.modArm a f)
  header : ∀ {s : State} (f : Header → Header), P s → P (s.modHeader f)
  station : ∀ {s : State} (st : Fin 4) (f : Station → Station), P s → P (s.modStation st f)
  bus : ∀ {s : State} (b : Bus), P s → P { s with bus := b }
  page : ∀ {s : State} (a : Fin 8) (f : TracePage → TracePage), P s → P (s.modPage a f)
  meter : ∀ {s : State} (m : Fin 16) (f : Meter → Meter), P s → P (s.modMeter m f)
  raise : ∀ {s : State} (n : Notice) (ps : List Port), raisable n ps → P s → P (s.raise n ps)
  deliver : ∀ {s : State} (d : List LoadRecord) (r : Nat), P s → P { s with delivered := d, reservations := r }
  respond : ∀ {s : State} (p : Port) (r : Response), P s → P (s.respond p r)

namespace Closed

variable {P : State → Prop} (h : Closed P)

/-- Both branches of a choice keep the property. -/
theorem ite {c : Prop} [Decidable c] {x y : State} (_ : Closed P) (hx : P x) (hy : P y) : P (if c then x else y) := by
  split
  · exact hx
  · exact hy

/-- A fold of steps that each keep the property keeps it. -/
theorem foldl {α : Type} {f : State → α → State} (h : Closed P) (hf : ∀ t x, P t → P (f t x)) :
    ∀ (l : List α) {s : State}, P s → P (l.foldl f s)
  | [], _, hs => hs
  | x :: rest, _, hs => foldl h hf rest (hf _ x hs)

include h

/-! ## Ops -/

theorem modLoad {s : State} (a : Fin 8) (f : Load → Load) (hs : P s) : P (s.modLoad a f) := h.arm a _ hs

theorem modLine {s : State} (a : Fin 8) (i : Nat) (f : Line → Line) (hs : P s) : P (s.modLine a i f) :=
  h.modLoad a _ hs

theorem modTxn {s : State} (f : Txn → Txn) (hs : P s) : P (s.modTxn f) := h.bus _ hs

theorem dropShares {s : State} (a : Fin 8) (hs : P s) : P (s.dropShares a) := h.header _ hs

theorem appendTrace {s : State} (a : Fin 8) (c : TraceCause) (hs : P s) : P (s.appendTrace a c) := by
  unfold State.appendTrace
  split
  · exact hs
  · exact h.page _ _ hs

theorem bumpRevisions {s0 s : State} (hs : P s) : P (State.bumpRevisions s0 s) := by
  refine foldl h (fun t a ht => ?_) _ hs
  split
  · exact h.modLoad _ _ ht
  · exact ht

/-! ## Bus -/

theorem modShot {s : State} (st : Fin 4) (f : Shot → Shot) (hs : P s) : P (s.modShot st f) :=
  h.modTxn _ (h.station _ _ hs)

theorem dropShot {s : State} (st : Fin 4) (hs : P s) : P (s.dropShot st) := h.modTxn _ (h.station _ _ hs)

theorem arbitrate {s : State} (hs : P s) : P s.arbitrate := by
  unfold State.arbitrate
  split
  · exact hs
  · split
    · exact hs
    · exact h.bus _ (h.station _ _ hs)

theorem gainRequest {s : State} (st : Fin 4) (hs : P s) : P (s.gainRequest st) := h.arbitrate (h.station _ _ hs)

theorem appendEntry {s : State} (st : Fin 4) (e : QueueEntry) (hs : P s) : P (s.appendEntry st e) := by
  simp only [State.appendEntry]
  split
  · exact h.gainRequest _ (h.station _ _ hs)
  · exact h.station _ _ hs

theorem dropEntry {s : State} (st : Fin 4) (a : Fin 8) (hs : P s) : P (s.dropEntry st a) :=
  h.modShot _ _ (h.station _ _ hs)

theorem withdrawLine {s : State} (a : Fin 8) (keep : Bool) (i : Nat) (hs : P s) : P (s.withdrawLine a keep i) := by
  unfold State.withdrawLine
  split
  · exact hs
  · split
    · exact hs
    · exact h.modLine _ _ _ (h.dropEntry _ _ hs)

theorem withdrawLines {s : State} (a : Fin 8) (keep : Bool) (hs : P s) : P (s.withdrawLines a keep) :=
  foldl h (fun _ i ht => h.withdrawLine a keep i ht) _ hs

theorem requeueLine {s : State} (a : Fin 8) (i : Nat) (hs : P s) : P (s.requeueLine a i) := by
  unfold State.requeueLine
  split
  · exact hs
  · split
    · split
      · exact hs
      · simp only
        split
        · exact h.modLine _ _ _ hs
        · exact h.appendEntry _ _ (h.modLine _ _ _ hs)
    · exact hs
    · exact hs

theorem requeueLines {s : State} (a : Fin 8) (hs : P s) : P (s.requeueLines a) :=
  foldl h (fun _ i ht => h.requeueLine a i ht) _ hs

/-! ## Arms -/

theorem addFault {s : State} (a : Fin 8) (f : FaultSet → FaultSet) (hs : P s) : P (s.addFault a f) := h.modLoad _ _ hs

theorem setDue {s : State} (a : Fin 8) (e : EndStatus) (hs : P s) : P (s.setDue a e) := h.modLoad _ _ hs

theorem enterClosing {s : State} (a : Fin 8) (hs : P s) : P (s.enterClosing a) :=
  h.appendTrace _ _ (h.withdrawLines _ _ (h.dropShares _ (h.modLoad _ _ (h.arm _ _ hs))))

theorem enterHeld {s : State} (a : Fin 8) (r : ResumePhase) (hs : P s) : P (s.enterHeld a r) :=
  h.appendTrace _ _ (h.withdrawLines _ _ (h.dropShares _ (h.modLoad _ _ (h.arm _ _ hs))))

theorem closeIfFlushed {s : State} (a : Fin 8) (hs : P s) : P (s.closeIfFlushed a) := by
  unfold State.closeIfFlushed
  split
  · exact h.enterClosing _ hs
  · exact hs

theorem enterFlush {s : State} (a : Fin 8) (k : FlushKind) (hs : P s) : P (s.enterFlush a k) := by
  unfold State.enterFlush
  split
  · exact hs
  · exact h.closeIfFlushed _ (h.appendTrace _ _ (h.withdrawLines _ _ (h.dropShares _ (h.modLoad _ _ (h.arm _ _ hs)))))

theorem cutFlush {s : State} (a : Fin 8) (e : EndStatus) (hs : P s) : P (s.cutFlush a e) :=
  h.enterFlush _ _ (h.setDue _ _ hs)

theorem resumeFlush {s : State} (a : Fin 8) (hs : P s) : P (s.resumeFlush a) := by
  unfold State.resumeFlush
  split
  · exact hs
  · exact h.closeIfFlushed _ (h.appendTrace _ _ (h.modLoad _ _ (h.arm _ _ hs)))

theorem addCauses {s : State} (a : Fin 8) (c : HoldCauses) (hs : P s) : P (s.addCauses a c) := by
  simp only [State.addCauses]
  split
  · exact hs
  · split <;> first
      | with_reducible exact hs
      | with_reducible exact h.modLoad _ _ hs
      | with_reducible exact h.enterHeld _ _ (h.modLoad _ _ hs)

theorem fireEvent {s : State} (a : Fin 8) (ev : EventKind) (hs : P s) : P (s.fireEvent a ev) := by
  unfold State.fireEvent
  split
  · exact hs
  · split
    · exact h.addCauses _ _ (h.raise _ _ (raisable_lane _ _ (by decide)) (h.modLoad _ _ hs))
    · exact hs

theorem enterRamp {s : State} (a : Fin 8) (hs : P s) : P (s.enterRamp a) := by
  unfold State.enterRamp
  split
  · exact hs
  · exact h.appendTrace _ _ (h.requeueLines _ (h.modLoad _ _ (h.arm _ _ hs)))

theorem fireIfFirst {s : State} (a : Fin 8) (b : Bool) (hs : P s) : P (s.fireIfFirst a b) := by
  unfold State.fireIfFirst
  split
  · exact h.fireEvent _ _ hs
  · exact hs

theorem enterTaperAtStep {s : State} (a : Fin 8) (hs : P s) : P (s.enterTaperAtStep a) := by
  unfold State.enterTaperAtStep
  split
  · exact hs
  · exact h.fireIfFirst _ _ (h.appendTrace _ _ (h.requeueLines _ (h.modLoad _ _ (h.arm _ _ hs))))

theorem enterTaperFromRun {s : State} (a : Fin 8) (hs : P s) : P (s.enterTaperFromRun a) := by
  unfold State.enterTaperFromRun
  split
  · exact hs
  · exact h.fireIfFirst _ _ (h.appendTrace _ _ (h.modLoad _ _ (h.arm _ _ hs)))

theorem goToTarget {s : State} (a : Fin 8) (w : WaitTarget) (hs : P s) : P (s.goToTarget a w) := by
  cases w
  · exact h.enterRamp _ hs
  · exact h.enterTaperAtStep _ hs

theorem enterShareWait {s : State} (a : Fin 8) (w : WaitTarget) (n : Nat) (hs : P s) : P (s.enterShareWait a w n) :=
  h.appendTrace _ _ (h.header _ (h.modLoad _ _ (h.arm _ _ hs)))

theorem supplyFault {s : State} (a : Fin 8) (hs : P s) : P (s.supplyFault a) := h.setDue _ _ (h.addFault _ _ hs)

theorem requestShares {s : State} (a : Fin 8) (w : WaitTarget) (hs : P s) : P (s.requestShares a w) := by
  unfold State.requestShares
  split
  · exact hs
  · split
    · exact h.goToTarget _ _ hs
    · split
      · exact h.enterClosing _ (h.supplyFault _ hs)
      · split
        · exact h.goToTarget _ _ (h.header _ hs)
        · exact h.enterShareWait _ _ _ hs

theorem leavePrime {s : State} (a : Fin 8) (hs : P s) : P (s.leavePrime a) := by
  unfold State.leavePrime
  split
  · exact hs
  · refine h.fireEvent _ _ ?_
    split
    · exact h.enterClosing _ hs
    · split
      · exact h.enterFlush _ _ hs
      · split
        · exact h.requestShares _ _ hs
        · exact h.requestShares _ _ hs

theorem resumePrime {s : State} (a : Fin 8) (hs : P s) : P (s.resumePrime a) := by
  unfold State.resumePrime
  split
  · exact hs
  · simp only
    split
    · exact h.leavePrime _ (h.appendTrace _ _ (h.modLoad _ _ (h.arm _ _ hs)))
    · exact h.appendTrace _ _ (h.modLoad _ _ (h.arm _ _ hs))

theorem resumeBlending {s : State} (a : Fin 8) (b : Bool) (hs : P s) : P (s.resumeBlending a b) := by
  unfold State.resumeBlending
  split
  · exact hs
  · split
    · exact h.enterClosing _ hs
    · split
      · exact h.enterFlush _ _ hs
      · split
        · exact h.requestShares _ _ hs
        · exact h.requestShares _ _ hs

theorem leaveHeld {s : State} (a : Fin 8) (hs : P s) : P (s.leaveHeld a) := by
  unfold State.leaveHeld
  split
  · exact hs
  · simp only
    split
    · exact h.enterClosing _ (h.arm _ _ hs)
    · split <;> first
        | with_reducible exact h.arm _ _ hs
        | with_reducible exact h.resumePrime _ (h.arm _ _ hs)
        | with_reducible exact h.resumeBlending _ _ (h.arm _ _ hs)
        | with_reducible exact h.resumeFlush _ (h.arm _ _ hs)

theorem removeCause {s : State} (a : Fin 8) (c : HoldCause) (hs : P s) : P (s.removeCause a c) := by
  unfold State.removeCause
  simp only
  split
  · exact h.modLoad _ _ hs
  · split
    · exact h.leaveHeld _ (h.modLoad _ _ hs)
    · exact h.modLoad _ _ hs

theorem receiveGrant {s : State} (a : Fin 8) (hs : P s) : P (s.receiveGrant a) := by
  unfold State.receiveGrant
  split
  · exact hs
  · split
    · exact h.enterClosing _ hs
    · split
      · exact h.enterFlush _ _ hs
      · split
        · exact h.enterTaperAtStep _ hs
        · exact h.enterRamp _ hs

theorem serveUpTo : ∀ (n : Nat) {s : State}, P s → P (State.serveUpTo n s)
  | 0, _, hs => hs
  | n + 1, s, hs => by
    unfold State.serveUpTo
    split
    · exact hs
    · split
      · exact serveUpTo n (h.receiveGrant _ (h.header _ hs))
      · exact hs

theorem serve {s : State} (hs : P s) : P s.serve := h.serveUpTo _ hs

theorem serveAfter {s0 s : State} (hs : P s) : P (State.serveAfter s0 s) := by
  unfold State.serveAfter
  split
  · exact hs
  · exact h.serve hs

theorem endEvent {s0 s : State} (hs : P s) : P (State.endEvent s0 s) := h.bumpRevisions (h.serveAfter hs)

theorem completeLoad {s : State} (a : Fin 8) (e : EndStatus) (hs : P s) : P (s.completeLoad a e) := by
  unfold State.completeLoad
  split
  · exact hs
  · simp only
    split
    · exact h.raise _ _ (raisable_terminals _) (h.raise _ _ (raisable_lane _ _ (by decide)) (h.deliver _ _ (h.arm _ _ (h.appendTrace _ _ (h.modLoad _ _ (h.arm _ _ hs))))))
    · exact h.raise _ _ (raisable_lane _ _ (by decide)) (h.deliver _ _ (h.arm _ _ (h.appendTrace _ _ (h.modLoad _ _ (h.arm _ _ hs)))))

theorem completeIfSettled {s : State} (a : Fin 8) (hs : P s) : P (s.completeIfSettled a) := by
  unfold State.completeIfSettled
  split
  · exact hs
  · split
    · exact h.completeLoad _ _ hs
    · exact hs

/-! ## Ticks -/

theorem countNetVolume {s : State} (a : Fin 8) (m : Fin 16) (hs : P s) : P (s.countNetVolume a m) :=
  h.modLoad _ _ (h.meter _ _ hs)

theorem countGrossVolume {s : State} (a : Fin 8) (m : Fin 16) (hs : P s) : P (s.countGrossVolume a m) :=
  h.modLoad _ _ hs

theorem strayTick {s : State} (m : Fin 16) (hs : P s) : P (s.strayTick m) := by
  simp only [State.strayTick]
  split
  · exact hs
  · split
    · exact h.raise _ _ (raisable_terminals _) (h.meter _ _ hs)
    · exact h.meter _ _ hs

theorem closingTick {s : State} (a : Fin 8) (m : Fin 16) (hs : P s) : P (s.closingTick a m) := by
  have ht := h.arm a (fun x => { x with settle := s.settleStart })
    (h.countGrossVolume a m (h.modLoad a (fun l => { l with data := l.data.countOverrun }) hs))
  unfold State.closingTick
  simp only
  split
  · split
    · exact h.raise _ _ (raisable_terminals _) (h.addFault _ _ ht)
    · exact ht
  · exact ht
  · exact ht

theorem rampStep {s : State} (a : Fin 8) (hs : P s) : P (s.rampStep a) := by
  unfold State.rampStep
  split
  · exact hs
  · split
    · exact hs
    · split
      · exact h.appendTrace _ _ (h.arm _ _ hs)
      · exact h.arm _ _ hs

theorem taperStep {s : State} (a : Fin 8) (hs : P s) : P (s.taperStep a) := by
  unfold State.taperStep
  split
  · exact hs
  · exact h.arm _ _ hs

theorem trimWork {s : State} (a : Fin 8) (hs : P s) : P (s.trimWork a) := by
  unfold State.trimWork
  split
  · exact hs
  · simp only
    split
    · exact h.cutFlush _ _ (h.addFault _ _ (h.appendTrace _ _ (h.modLoad _ _ (h.arm _ _ hs))))
    · exact h.appendTrace _ _ (h.modLoad _ _ (h.arm _ _ hs))

theorem evaluatePoints {s : State} (a : Fin 8) (hs : P s) : P (s.evaluatePoints a) := by
  unfold State.evaluatePoints
  split
  · exact hs
  · split
    · exact h.enterClosing _ hs
    · split
      · exact h.enterFlush _ _ hs
      · split <;> (try split) <;> first
          | with_reducible exact hs
          | with_reducible exact h.leavePrime _ hs
          | with_reducible exact h.enterTaperFromRun _ hs
          | with_reducible exact h.rampStep _ hs
          | with_reducible exact h.taperStep _ hs

theorem flowSteps {s : State} (a : Fin 8) (hs : P s) : P (s.flowSteps a) := by
  unfold State.flowSteps
  split
  · simp only
    split
    · exact h.trimWork _ (h.evaluatePoints _ (h.modLoad _ _ hs))
    · exact h.evaluatePoints _ (h.modLoad _ _ hs)
  · exact h.evaluatePoints _ hs

theorem placeShot {s : State} (a : Fin 8) (i : Nat) (st : Fin 4) (n : Nat) (hs : P s) : P (s.placeShot a i st n).1 := by
  unfold State.placeShot
  simp only
  split
  · exact h.appendEntry _ _ (h.modLine _ _ _ hs)
  · split
    · dsimp only
      exact h.station _ _ (h.modLine _ _ _ hs)
    · exact h.modLine _ _ _ hs

theorem missOutOfService {s : State} (a : Fin 8) (i : Nat) (b : Bool) (hs : P s) : P (s.missOutOfService a i b) := by
  simp only [State.missOutOfService]
  split
  · exact h.cutFlush _ _ (h.addFault _ _ (h.modLine _ _ _ hs))
  · exact h.modLine _ _ _ hs

theorem judgeLine {x : State × Bool} (a : Fin 8) (i : Nat) (hs : P x.1) : P (State.judgeLine x a i).1 := by
  unfold State.judgeLine
  split
  · exact hs
  · split
    · split
      · exact hs
      · split
        · simp only
          split
          · exact h.placeShot _ _ _ _ (h.modLine _ _ _ hs)
          · exact h.missOutOfService _ _ _ (h.modLine _ _ _ hs)
        · exact hs
    · exact hs
    · exact hs

theorem judgeShots {s : State} (a : Fin 8) (hs : P s) : P (s.judgeShots a) := by
  have h3 : P (State.judgeLine (State.judgeLine (State.judgeLine (s, false) a 0) a 1) a 2).1 :=
    h.judgeLine _ _ (h.judgeLine _ _ (h.judgeLine _ _ hs))
  unfold State.judgeShots
  exact ite h (h.fireEvent _ _ h3) h3

theorem judgeVolume {s : State} (a : Fin 8) (hs : P s) : P (s.judgeVolume a) := by
  unfold State.judgeVolume
  split
  · exact hs
  · split
    · exact hs
    · exact h.fireEvent _ _ hs

theorem flowTick {s : State} (a : Fin 8) (m : Fin 16) (hs : P s) : P (s.flowTick a m) := by
  simp only [State.flowTick]
  refine h.flowSteps _ ?_
  split
  · exact h.arm _ _ (h.countGrossVolume _ _ hs)
  · exact h.countGrossVolume _ _ hs

theorem loadTick {s : State} (a : Fin 8) (m : Fin 16) (hs : P s) : P (s.loadTick a m) := by
  have ht := h.countNetVolume a m hs
  simp only [State.loadTick]
  split <;> first
    | with_reducible exact hs
    | with_reducible exact h.closingTick _ _ ht
    | with_reducible exact h.judgeVolume _ (h.countGrossVolume _ _ ht)
    | with_reducible exact h.judgeVolume _ (h.judgeShots _ (h.flowTick _ _ ht))

theorem tick {s : State} (m : Fin 16) (hs : P s) : P (s.tick m) := by
  unfold State.tick
  split
  · exact h.strayTick _ hs
  · exact h.endEvent (h.loadTick _ _ hs)

theorem pulse {s : State} (m : Fin 16) (hs : P s) : P (s.pulse m) := by
  unfold State.pulse
  split
  · exact hs
  · split
    · exact h.meter _ _ hs
    · exact h.tick _ (h.meter _ _ hs)

/-! ## Stations -/

theorem faultStation {s : State} (st : Fin 4) (hs : P s) : P (s.faultStation st) := h.modTxn _ (h.station _ _ hs)

theorem unconfirmShot {s : State} (st : Fin 4) (hs : P s) : P (s.unconfirmShot st) := by
  unfold State.unconfirmShot
  split
  · exact hs
  · simp only
    split
    · exact h.dropShot _ hs
    · exact h.modLine _ _ _ (h.dropShot _ hs)

theorem missQueue {s : State} (st : Fin 4) (x : Option (Fin 8)) (hs : P s) : P (s.missQueue st x) :=
  foldl h (fun _ _ ht => h.modLine _ _ _ ht) _ (h.station _ _ hs)

theorem faultArm {s : State} (st : Fin 4) (a : Fin 8) (hs : P s) : P (State.faultArm st s a) := by
  unfold State.faultArm
  split
  · exact hs
  · simp only
    split
    · split
      · exact h.cutFlush _ _ (h.addFault _ _ (h.modLoad _ _ hs))
      · exact h.addFault _ _ (h.modLoad _ _ hs)
    · exact h.modLoad _ _ hs

theorem enterFault {s : State} (st : Fin 4) (hs : P s) : P (s.enterFault st) :=
  foldl h (fun _ a ht => h.completeIfSettled a ht) _
    (h.raise _ _ (raisable_terminals _) (foldl h (fun _ a ht => h.faultArm st a ht) _ (h.missQueue _ _ (h.unconfirmShot _ (h.faultStation _ hs)))))

theorem backToIdle {s : State} (st : Fin 4) (hs : P s) : P (s.backToIdle st) := by
  simp only [State.backToIdle]
  split
  · exact h.station _ _ (h.dropShot _ hs)
  · exact h.gainRequest _ (h.station _ _ (h.dropShot _ hs))

theorem settleQueue {s : State} (st : Fin 4) (sh : Shot) (hs : P s) : P (s.settleQueue st sh) := by
  unfold State.settleQueue
  split
  · exact h.station _ _ hs
  · exact hs

theorem shotReport {s : State} (st : Fin 4) (v : Nat) (hs : P s) : P (s.shotReport st v) := by
  unfold State.shotReport
  split
  · exact h.backToIdle _ hs
  · simp only
    split
    · exact h.backToIdle _ (h.settleQueue _ _ hs)
    · exact h.completeIfSettled _ (h.modLine _ _ _ (h.backToIdle _ (h.settleQueue _ _ hs)))

theorem shotNotTaken {s : State} (st : Fin 4) (hs : P s) : P (s.shotNotTaken st) := by
  unfold State.shotNotTaken
  split
  · exact h.backToIdle _ hs
  · simp only
    split
    · exact h.backToIdle _ (h.settleQueue _ _ hs)
    · exact h.completeIfSettled _ (h.fireEvent _ _ (h.modLine _ _ _ (h.backToIdle _ (h.settleQueue _ _ hs))))

theorem noReply {s : State} (st : Fin 4) (f : Station → Station) (hs : P s) : P (s.noReply st f) := by
  simp only [State.noReply]
  split
  · exact h.enterFault _ (h.station _ _ hs)
  · exact h.station _ _ (h.station _ _ hs)

theorem acceptReply {s : State} (st : Fin 4) (low : Bool) (hs : P s) : P (s.acceptReply st low) := by
  simp only [State.acceptReply]
  split
  · exact h.raise _ _ (raisable_terminals _) (h.station _ _ hs)
  · exact h.station _ _ hs

theorem changeOver {s : State} (st : Fin 4) (a : Fin 8) (hs : P s) : P (s.changeOver st a) := h.station _ _ hs

theorem selectOutcome {s : State} (st : Fin 4) (a : Fin 8) (r : Option Reply) (hs : P s) :
    P (s.selectOutcome st a r) := by
  unfold State.selectOutcome
  split
  · exact h.noReply _ _ hs
  · split <;> first
      | with_reducible exact hs
      | with_reducible exact h.changeOver _ _ (h.acceptReply _ _ hs)
      | with_reducible exact h.enterFault _ (h.acceptReply _ _ hs)

theorem shotOutcome {s : State} (st : Fin 4) (r : Option Reply) (hs : P s) : P (s.shotOutcome st r) := by
  unfold State.shotOutcome
  split
  · exact h.noReply _ _ hs
  · split <;> first
      | with_reducible exact hs
      | with_reducible exact h.station _ _ (h.acceptReply _ _ hs)
      | with_reducible exact h.shotReport _ _ (h.acceptReply _ _ hs)
      | with_reducible exact h.shotNotTaken _ (h.acceptReply _ _ hs)
      | with_reducible exact h.enterFault _ (h.acceptReply _ _ hs)

theorem pollOutcome {s : State} (st : Fin 4) (r : Option Reply) (hs : P s) : P (s.pollOutcome st r) := by
  unfold State.pollOutcome
  split
  · exact h.noReply _ _ hs
  · split <;> first
      | with_reducible exact h.station _ _ (h.acceptReply _ _ hs)
      | with_reducible exact h.shotReport _ _ (h.acceptReply _ _ hs)
      | with_reducible exact h.shotNotTaken _ (h.acceptReply _ _ hs)
      | with_reducible exact h.enterFault _ (h.acceptReply _ _ hs)

theorem answerRestore {s : State} (st : Fin 4) (r : Option ReplyState) (hs : P s) : P (s.answerRestore st r) := by
  unfold State.answerRestore
  split
  · exact hs
  · exact h.respond _ _ (h.station _ _ hs)

theorem clearOutcome {s : State} (st : Fin 4) (r : Option Reply) (hs : P s) : P (s.clearOutcome st r) := by
  unfold State.clearOutcome
  split
  · exact h.answerRestore _ _ hs
  · simp only
    split <;> first
      | with_reducible exact h.answerRestore _ _ (h.station _ _ (h.acceptReply _ _ hs))
      | with_reducible exact h.answerRestore _ _ (h.acceptReply _ _ hs)

theorem outcome {s : State} (t : Txn) (r : Option Reply) (hs : P s) : P (s.outcome t r) := by
  unfold State.outcome
  split
  · split <;> first
      | with_reducible exact hs
      | with_reducible exact h.answerRestore _ _ hs
  · split <;> first
      | with_reducible exact h.selectOutcome _ _ _ hs
      | with_reducible exact h.shotOutcome _ _ hs
      | with_reducible exact h.pollOutcome _ _ hs
      | with_reducible exact h.clearOutcome _ _ hs

theorem endTxn {s : State} (t : Txn) (r : Option Reply) (hs : P s) : P (s.endTxn t r) :=
  h.arbitrate (h.bus _ (h.endEvent (h.outcome _ _ hs)))

theorem restoreRequested {s : State} (p : Port) (b : Byte) (hs : P s) : P (s.restoreRequested p b).1 := by
  unfold State.restoreRequested
  split
  · simp only
    split
    · exact hs
    · split
      · exact hs
      · exact h.gainRequest _ (h.station _ _ hs)
  · exact hs

theorem busReplied {s : State} (b0 b1 b2 : Byte) (hs : P s) : P (s.busReplied b0 b1 b2) := by
  unfold State.busReplied
  split
  · exact hs
  · split
    · exact hs
    · split
      · exact hs
      · exact h.endTxn _ _ hs

theorem windowClosed {s : State} (hs : P s) : P s.windowClosed := by
  unfold State.windowClosed
  split
  · exact hs
  · split
    · exact hs
    · exact h.endTxn _ _ hs

theorem frameSent {s : State} (hs : P s) : P s.frameSent := by
  unfold State.frameSent
  split
  · exact hs
  · split
    · exact hs
    · simp only
      split
      · exact h.modTxn _ hs
      · exact h.station _ _ (h.modTxn _ hs)

theorem changeoverOver {s : State} (st : Fin 4) (hs : P s) : P (s.changeoverOver st) := by
  simp only [State.changeoverOver]
  split
  · split
    · exact h.station _ _ hs
    · exact h.gainRequest _ (h.station _ _ hs)
  · exact hs

theorem pollDue {s : State} (st : Fin 4) (hs : P s) : P (s.pollDue st) := by
  unfold State.pollDue
  split
  · exact h.gainRequest _ (h.station _ _ hs)
  · exact hs

theorem shotTimedOut {s : State} (st : Fin 4) (hs : P s) : P (s.shotTimedOut st) := by
  unfold State.shotTimedOut
  split
  · exact h.endEvent (h.enterFault _ hs)
  · exact hs

/-! ## Loads and holds -/

theorem stopFlush {s : State} (a : Fin 8) (l : Load) (hs : P s) : P (s.stopFlush a l) := by
  unfold State.stopFlush
  split
  · exact hs
  · split
    · simp only
      split
      · exact h.enterClosing _ (h.setDue _ _ (h.modLoad _ _ hs))
      · exact h.setDue _ _ (h.modLoad _ _ hs)
    · exact hs

theorem stopArm {s : State} (a : Fin 8) (l : Load) (hs : P s) : P (s.stopArm a l) := by
  unfold State.stopArm
  split <;> first
    | with_reducible exact hs
    | with_reducible exact h.cutFlush _ _ hs
    | with_reducible exact h.enterClosing _ (h.setDue _ _ hs)
    | with_reducible exact h.stopFlush _ _ hs

theorem loadStopped {s : State} (p : Port) (arm : Byte) (load : Word24) (hs : P s) : P (s.loadStopped p arm load).1 := by
  unfold State.loadStopped
  split
  · exact hs
  · exact h.endEvent (h.stopArm _ _ hs)

theorem amendArm {s : State} (a : Fin 8) (v : Nat) (hs : P s) : P (s.amendArm a v) := by
  unfold State.amendArm
  simp only
  split <;> (try split) <;> (try split) <;> first
    | with_reducible exact hs
    | with_reducible exact h.modLoad _ _ hs
    | with_reducible exact h.enterFlush _ _ (h.modLoad _ _ hs)

theorem loadAmended {s : State} (p : Port) (load preset : Word24) (hs : P s) : P (s.loadAmended p load preset).1 := by
  unfold State.loadAmended
  split
  · exact hs
  · split
    · exact hs
    · split
      · exact hs
      · split
        · exact hs
        · split
          · exact hs
          · exact h.modLoad _ _ (h.endEvent (h.amendArm _ _ hs))

theorem noFlowElapsed {s : State} (a : Fin 8) (hs : P s) : P (s.noFlowElapsed a) := by
  unfold State.noFlowElapsed
  split
  · exact h.endEvent (h.enterClosing _ (h.setDue _ _ (h.addFault _ _ hs)))
  · exact hs

theorem settleElapsed {s : State} (a : Fin 8) (hs : P s) : P (s.settleElapsed a) := by
  unfold State.settleElapsed
  split
  · exact h.endEvent (h.completeIfSettled _ (h.arm _ _ hs))
  · exact hs

theorem loadHeld {s : State} (p : Port) (arm : Byte) (load : Word24) (hs : P s) : P (s.loadHeld p arm load).1 := by
  unfold State.loadHeld
  split
  · exact hs
  · exact h.endEvent (h.addCauses _ _ hs)

theorem holdReleased {s : State} (p : Port) (arm : Byte) (load : Word24) (hs : P s) :
    P (s.holdReleased p arm load).1 := by
  unfold State.holdReleased
  split
  · exact hs
  · split
    · exact h.endEvent (h.removeCause _ _ hs)
    · exact hs

theorem loadResumed {s : State} (p : Port) (arm : Byte) (load : Word24) (hs : P s) : P (s.loadResumed p arm load).1 := by
  unfold State.loadResumed
  split
  · exact hs
  · split
    · exact hs
    · split
      · exact h.endEvent (h.removeCause _ _ hs)
      · exact hs

theorem markFlag {s : State} (a : Fin 8) (l : Load) (n : Fin 2) (hs : P s) : P (s.markFlag a l n) := by
  unfold State.markFlag
  split
  · exact hs
  · exact h.raise _ _ (raisable_lane _ _ (by decide)) (h.modLoad _ _ hs)

theorem checkpointMarked {s : State} (p : Port) (arm : Byte) (load : Word24) (n m : Byte) (hs : P s) :
    P (s.checkpointMarked p arm load n m).1 := by
  unfold State.checkpointMarked
  split
  · exact hs
  · split
    · exact hs
    · split
      · exact hs
      · exact h.endEvent (h.markFlag _ _ _ hs)
      · exact h.endEvent (h.addCauses _ _ (h.markFlag _ _ _ hs))

theorem checkpointCleared {s : State} (p : Port) (arm : Byte) (load : Word24) (n : Byte) (hs : P s) :
    P (s.checkpointCleared p arm load n).1 := by
  unfold State.checkpointCleared
  split
  · exact hs
  · split
    · exact hs
    · split
      · exact h.endEvent (h.removeCause _ _ (h.modLoad _ _ hs))
      · exact hs

theorem holdElapsed {s : State} (a : Fin 8) (hs : P s) : P (s.holdElapsed a) := by
  unfold State.holdElapsed
  split
  · exact h.endEvent (h.enterClosing _ (h.setDue _ _ hs))
  · exact hs

theorem shareWaitElapsed {s : State} (a : Fin 8) (hs : P s) : P (s.shareWaitElapsed a) := by
  unfold State.shareWaitElapsed
  split
  · exact h.endEvent (h.fireEvent _ _ (h.raise _ _ (raisable_lane _ _ (by decide)) (h.header _ hs)))
  · exact hs

theorem capacitySet {s : State} (b : Byte) (hs : P s) : P (s.capacitySet b).1 := by
  unfold State.capacitySet
  simp only
  split
  · exact hs
  · split
    · exact hs
    · simp only [answer]
      split
      · exact h.endEvent (h.header _ hs)
      · exact h.header _ hs

/-! ## Trips, once the Trip Unit has taken the change -/

theorem settleForEsd {s : State} (a : Fin 8) (hs : P s) : P (s.settleForEsd a) := by
  unfold State.settleForEsd
  split
  · exact hs
  · exact foldl h (fun _ st ht => h.modShot st _ ht) _ (h.modLoad _ _ hs)

theorem markSupplyLost {s : State} (a : Fin 8) (hs : P s) : P (s.markSupplyLost a) :=
  h.modLoad _ _ (h.supplyFault _ hs)

theorem supplyLostArm {s : State} (a : Fin 8) (hs : P s) : P (s.supplyLostArm a) := by
  unfold State.supplyLostArm
  split
  · exact hs
  · split
    · exact hs
    · split <;> (try split) <;> first
        | with_reducible exact hs
        | with_reducible exact h.enterFlush _ _ (h.supplyFault _ hs)
        | with_reducible exact h.addFault _ _ hs
        | with_reducible exact h.enterClosing _ (h.supplyFault _ hs)
        | with_reducible exact h.markSupplyLost _ hs

theorem esdAsserted {s : State} (hs : P s) (ht : P { s with trips := { s.trips with esd := true } }) :
    P s.esdAsserted := by
  unfold State.esdAsserted
  split
  · exact hs
  · exact foldl h (fun _ a hv => h.completeLoad a _ hv) _
      (foldl h (fun _ st hv => h.station st _ hv) _
        (foldl h (fun _ a hv => h.settleForEsd a hv) _ (h.header _ (h.raise _ _ (raisable_lane _ _ (by decide)) ht))))

theorem headerLost {s : State} (hs : P s) (ht : P { s with trips := { s.trips with header := false } }) :
    P s.headerLost := by
  unfold State.headerLost
  split
  · exact h.endEvent (foldl h (fun _ a hv => h.supplyLostArm a hv) _ (h.raise _ _ (raisable_lane _ _ (by decide)) ht))
  · exact hs

theorem laneLost {s : State} (l : Fin 4) (hs : P s)
    (ht : P { s with trips := { s.trips with lanes := s.trips.lanes.set l.val false } }) : P (s.laneLost l) := by
  unfold State.laneLost
  split
  · exact h.endEvent (foldl h (fun _ _ hv => h.addCauses _ _ hv) _ (h.raise _ _ (raisable_lane _ _ (by decide)) ht))
  · exact hs

end Closed

end Sys2Proof.Machine
end

