-- ==== Sys2Proof/Laws/Requests.lean ====
section
/-! SUPPORT. What taking a request does (R12, R182, R185), said once for all 30 requests. -/

namespace Sys2Proof.Machine

/-- A port is free exactly when its answer state is not BUSY. -/
theorem isBusy_of_free {s : State} {p : Port} (h : s.free p = true) : (s.port p).answer.isBusy = false := by
  simpa [State.free] using h

/-- A port that is not free is BUSY. -/
theorem isBusy_of_not_free {s : State} {p : Port} (h : s.free p = false) : (s.port p).answer.isBusy = true := by
  simpa [State.free] using h

/-- Taking a request keeps the arms, and so on: everything but the ports. -/
theorem accept_eq_modPort (s : State) (p : Port) (c t : Byte) :
    s.accept p c t = s.modPort p fun x => { x with receive := .hunting, answer := .busy c t none } := rfl

/-- Forming the response of a request just taken. -/
theorem accept_respond (s : State) (p : Port) (rc : ReqCode) (tag : Byte) (r : Response) :
    (s.accept p rc.toByte tag).respond p r = s.answered p rc tag r := by
  simp [State.accept, State.respond, State.answered, State.modPort_modPort, Answer.form]

/-- Clearing the link of a request just taken. -/
theorem accept_setLink (s : State) (p : Port) (c t : Byte) (l : Option Link) :
    (s.accept p c t).setLink p l = (s.setLink p l).accept p c t := by
  simp [State.accept, State.setLink, State.modPort_modPort]

/-- The conditional clearing of a request just taken. -/
theorem accept_clearIfConditional (s : State) (p : Port) (c t : Byte) (rc : ReqCode) :
    (s.accept p c t).clearIfConditional p rc = (s.clearIfConditional p rc).accept p c t := by
  unfold State.clearIfConditional
  split
  · exact accept_setLink s p c t none
  · rfl

/-- A BUSY port's complete frame collides. -/
theorem collide_eq_collided (s : State) (p : Port) : s.collide p = s.collided p := by
  simp [State.collide, State.collided, State.raise, State.modPort_modPort, PortState.raise, PortState.withFlags,
    attentionOf, Notice.set, Notice.bit]

/-- A request at a BUSY port collides and does nothing else. -/
theorem takeRequest_busy {s : State} {p : Port} (h : s.free p = false) (rc : ReqCode) (tag : Byte)
    (act : State → State × Option Response) : s.takeRequest p rc tag act = s.collided p := by
  rw [State.takeRequest, if_pos (isBusy_of_not_free h), collide_eq_collided]

/-- A request that the port's class may not issue is answered NOT_PERMITTED and reaches no block. -/
theorem takeRequest_forbidden {s : State} {p : Port} (h : s.free p = true) {rc : ReqCode} (hp : p.mayIssue rc = false)
    (tag : Byte) (act : State → State × Option Response) :
    s.takeRequest p rc tag act = (s.clearIfConditional p rc).answered p rc tag (refused .notPermitted) := by
  rw [State.takeRequest, if_neg (by simp [isBusy_of_free h])]
  simp only [hp, Bool.false_eq_true, if_false, accept_clearIfConditional, accept_respond]
  rfl

/-- A request whose checks and effect come out as `u` with the response `r`, both before the port's answer is formed. -/
theorem takeRequest_answered {s u : State} {p : Port} (h : s.free p = true) {rc : ReqCode} (hp : p.mayIssue rc = true)
    {tag : Byte} {act : State → State × Option Response} {r : Response}
    (ha : act (s.accept p rc.toByte tag) = (u.accept p rc.toByte tag, some r)) :
    s.takeRequest p rc tag act = (u.clearIfConditional p rc).answered p rc tag r := by
  rw [State.takeRequest, if_neg (by simp [isBusy_of_free h])]
  simp only [hp, if_true, ha, accept_clearIfConditional, accept_respond]

/-- A request that changes nothing but its answer. -/
theorem takeRequest_unchanged {s : State} {p : Port} (h : s.free p = true) {rc : ReqCode} (hp : p.mayIssue rc = true)
    {tag : Byte} {act : State → State × Option Response} {r : Response}
    (ha : act (s.accept p rc.toByte tag) = answer (s.accept p rc.toByte tag) r) :
    s.takeRequest p rc tag act = (s.clearIfConditional p rc).answered p rc tag r :=
  takeRequest_answered h hp ha

/-- A request that is not conditional leaves the link. -/
theorem clearIfConditional_of_not {rc : ReqCode} (h : rc.conditional = false) (s : State) (p : Port) :
    s.clearIfConditional p rc = s := by
  simp [State.clearIfConditional, h]

/-- A conditional request clears the link. -/
theorem clearIfConditional_of {rc : ReqCode} (h : rc.conditional = true) (s : State) (p : Port) :
    s.clearIfConditional p rc = s.modPort p fun x => { x with link := none } := by
  simp [State.clearIfConditional, h, State.setLink]

/-- Updates of the arms pass the taking of a request. -/
theorem accept_modArm (s : State) (p : Port) (c t : Byte) (a : Fin 8) (f : Arm → Arm) :
    (s.accept p c t).modArm a f = (s.modArm a f).accept p c t := rfl

theorem accept_modLoad (s : State) (p : Port) (c t : Byte) (a : Fin 8) (f : Load → Load) :
    (s.accept p c t).modLoad a f = (s.modLoad a f).accept p c t := rfl

theorem accept_modMeter (s : State) (p : Port) (c t : Byte) (m : Fin 16) (f : Meter → Meter) :
    (s.accept p c t).modMeter m f = (s.modMeter m f).accept p c t := rfl

theorem accept_modHeader (s : State) (p : Port) (c t : Byte) (f : Header → Header) :
    (s.accept p c t).modHeader f = (s.modHeader f).accept p c t := rfl

theorem accept_modStation (s : State) (p : Port) (c t : Byte) (st : Fin 4) (f : Station → Station) :
    (s.accept p c t).modStation st f = (s.modStation st f).accept p c t := rfl

theorem accept_modPage (s : State) (p : Port) (c t : Byte) (a : Fin 8) (f : TracePage → TracePage) :
    (s.accept p c t).modPage a f = (s.modPage a f).accept p c t := rfl

theorem accept_setQueue (s : State) (p : Port) (c t : Byte) (l : Fin 4) (q : List Authorization) :
    (s.accept p c t).setQueue l q = (s.setQueue l q).accept p c t := rfl

theorem accept_setSlot (s : State) (p : Port) (c t : Byte) (k : Fin 32) (r : RecipeSlot) :
    (s.accept p c t).setSlot k r = (s.setSlot k r).accept p c t := rfl

/-- What the port of a request just taken holds: all but receive and answer states are as before. -/
theorem accept_port_self (s : State) (p : Port) (c t : Byte) :
    (s.accept p c t).port p = { s.port p with receive := .hunting, answer := .busy c t none } := by
  simp [State.accept]

theorem accept_link (s : State) (p : Port) (c t : Byte) : ((s.accept p c t).port p).link = (s.port p).link := by
  simp [accept_port_self]

theorem accept_flags (s : State) (p : Port) (c t : Byte) : ((s.accept p c t).port p).flags = (s.port p).flags := by
  simp [accept_port_self]

theorem accept_mask (s : State) (p : Port) (c t : Byte) : ((s.accept p c t).port p).mask = (s.port p).mask := by
  simp [accept_port_self]

theorem accept_window (s : State) (p : Port) (c t : Byte) : ((s.accept p c t).port p).window = (s.port p).window := by
  simp [accept_port_self]

/-! ## Raising notices (R186, R187) -/

/-- Raising a notice changes the ports and nothing else. -/
theorem raise_ports_only (s : State) (n : Notice) (ps : List Port) : { s.raise n ps with ports := s.ports } = s := by
  unfold State.raise
  induction ps generalizing s with
  | nil => rfl
  | cons p rest ih =>
    have h := ih (s.modPort p (PortState.raise n))
    simp only [List.foldl_cons]
    have e : ({ s.modPort p (PortState.raise n) with ports := s.ports } : State) = s := rfl
    rw [← h] at e
    exact e

/-- A port that a notice is not raised on is as it was. -/
theorem raise_port_of_not_mem (s : State) (n : Notice) (ps : List Port) (p : Port) (h : p ∉ ps) :
    (s.raise n ps).port p = s.port p := by
  unfold State.raise
  induction ps generalizing s with
  | nil => rfl
  | cons q rest ih =>
    simp only [List.foldl_cons]
    rw [ih _ (fun hm => h (List.mem_cons_of_mem _ hm))]
    exact State.modPort_port_ne _ _ _ _ (fun e => h (e ▸ List.mem_cons_self))

/-- One port's raise: the flag is set, the others stay. -/
theorem raise_getLsbD (n k : Notice) (x : PortState) :
    (x.raise n).flags.getLsbD k.bit = (x.flags.getLsbD k.bit || decide (k = n)) := by
  cases n <;> cases k <;> simp [PortState.raise, PortState.withFlags, Notice.set, Notice.bit]

/-- The flags after a raise: the notice's own on the ports named, and those set before. -/
theorem raise_flagged (s : State) (n k : Notice) (ps : List Port) (p : Port) :
    (s.raise n ps).flagged p k = (s.flagged p k || (decide (p ∈ ps) && decide (k = n))) := by
  unfold State.raise
  induction ps generalizing s with
  | nil => simp
  | cons q rest ih =>
    simp only [List.foldl_cons]
    rw [ih]
    by_cases hq : p = q
    · subst hq
      simp only [State.flagged, State.modPort_port_self, raise_getLsbD, List.mem_cons, true_or, decide_true,
        Bool.true_and]
      cases (s.port p).flags.getLsbD k.bit <;> cases decide (k = n) <;> simp
    · have : (s.modPort q (PortState.raise n)).flagged p k = s.flagged p k := by
        simp [State.flagged, State.modPort_port_ne _ _ _ _ hq]
      rw [this]
      simp [hq]

/-- Raising a notice twice is raising it once. -/
theorem raise_raise (n : Notice) (x : PortState) : (x.raise n).raise n = x.raise n := by
  simp [PortState.raise, PortState.withFlags, BitVec.or_assoc]

/-- Each port after a raise. -/
theorem raise_port (s : State) (n : Notice) (ps : List Port) (p : Port) :
    (s.raise n ps).port p = if p ∈ ps then (s.port p).raise n else s.port p := by
  unfold State.raise
  induction ps generalizing s with
  | nil => simp
  | cons q rest ih =>
    simp only [List.foldl_cons]
    rw [ih]
    by_cases hq : p = q
    · subst hq
      simp [raise_raise]
    · simp [State.modPort_port_ne _ _ _ _ hq, hq]

/-- A raise is what the statements say of it. -/
theorem raise_portsRaised (s : State) (n : Notice) (ps : List Port) : s.portsRaised (s.raise n ps) n ps := by
  constructor
  · intro p hp
    rw [raise_port, if_pos hp]
    rfl
  · intro p hp
    rw [raise_port, if_neg hp]

/-- Raising a notice on ports is what the statements call it. -/
theorem raise_raisedOn (s : State) (n : Notice) (ps : List Port) : s.raisedOn (s.raise n ps) n ps := by
  constructor
  · intro p hp
    simp [raise_flagged, hp]
  · intro p hp
    simp [raise_flagged, hp]

/-- A raise leaves every port's answer. -/
theorem raise_answer (s : State) (n : Notice) (ps : List Port) (p : Port) :
    ((s.raise n ps).port p).answer = (s.port p).answer := by
  unfold State.raise
  induction ps generalizing s with
  | nil => rfl
  | cons q rest ih =>
    simp only [List.foldl_cons]
    rw [ih]
    by_cases hq : p = q
    · subst hq
      simp [PortState.raise, PortState.withFlags]
    · rw [State.modPort_port_ne _ _ _ _ hq]

/-- A raise leaves every port's link. -/
theorem raise_link (s : State) (n : Notice) (ps : List Port) (p : Port) :
    ((s.raise n ps).port p).link = (s.port p).link := by
  unfold State.raise
  induction ps generalizing s with
  | nil => rfl
  | cons q rest ih =>
    simp only [List.foldl_cons]
    rw [ih]
    by_cases hq : p = q
    · subst hq
      simp [PortState.raise, PortState.withFlags]
    · rw [State.modPort_port_ne _ _ _ _ hq]

end Sys2Proof.Machine
end

