-- ==== Sys2Proof/Laws/Kept.lean ====
section
/-! SUPPORT. What the progress of loads keeps, each property said once through `Closed`: all that lies outside the loads,
the waiting commands, the attention lines and the classes of the flags, the read pointers. -/

namespace Sys2Proof.Machine

/-- What every change of a port keeps, a raise keeps. -/
theorem raise_kept {β : Type} (g : State → β) (hport : ∀ s p f, g (s.modPort p f) = g s) (n : Notice) :
    ∀ (ps : List Port) (s : State), g (s.raise n ps) = g s
  | [], _ => rfl
  | p :: rest, s => (raise_kept g hport n rest (s.modPort p (PortState.raise n))).trans (hport s p _)

/-- The nine updates keep every function of the state that each of them keeps. -/
theorem closed_of_eq {β : Type} (g : State → β) (b : β)
    (harm : ∀ s a f, g (s.modArm a f) = g s) (hheader : ∀ s f, g (s.modHeader f) = g s)
    (hstation : ∀ s st f, g (s.modStation st f) = g s) (hbus : ∀ (s : State) b, g { s with bus := b } = g s)
    (hpage : ∀ s a f, g (s.modPage a f) = g s) (hmeter : ∀ s m f, g (s.modMeter m f) = g s)
    (hport : ∀ s p f, g (s.modPort p f) = g s)
    (hdeliver : ∀ (s : State) d r, g { s with delivered := d, reservations := r } = g s) :
    Closed (fun s => g s = b) where
  arm a f h := (harm _ a f).trans h
  header f h := (hheader _ f).trans h
  station st f h := (hstation _ st f).trans h
  bus x h := (hbus _ x).trans h
  page a f h := (hpage _ a f).trans h
  meter m f h := (hmeter _ m f).trans h
  raise n ps _ h := (raise_kept g hport n ps _).trans h
  deliver d n h := (hdeliver _ d n).trans h
  respond p _ h := (hport _ p _).trans h

/-- All that lies outside the loads is kept by the progress of loads. -/
theorem closed_sameOutsideLoads (s : State) : Closed (fun t => s.SameOutsideLoads t) := by
  refine
    { arm := fun a f k => ⟨k.mode, k.recipes, k.queues, k.authCounter, k.probes, k.scan, k.settings, k.loadCounter,
        k.seconds, k.freeCount, k.pending⟩
      header := fun f k => ⟨k.mode, k.recipes, k.queues, k.authCounter, k.probes, k.scan, k.settings, k.loadCounter,
        k.seconds, k.freeCount, k.pending⟩
      station := fun st f k => ⟨k.mode, k.recipes, k.queues, k.authCounter, k.probes, k.scan, k.settings, k.loadCounter,
        k.seconds, k.freeCount, k.pending⟩
      bus := fun b k => ⟨k.mode, k.recipes, k.queues, k.authCounter, k.probes, k.scan, k.settings, k.loadCounter,
        k.seconds, k.freeCount, k.pending⟩
      page := fun a f k => ⟨k.mode, k.recipes, k.queues, k.authCounter, k.probes, k.scan, k.settings, k.loadCounter,
        k.seconds, k.freeCount, k.pending⟩
      meter := fun m f k => ⟨k.mode, k.recipes, k.queues, k.authCounter, k.probes, k.scan, k.settings, k.loadCounter,
        k.seconds, k.freeCount, k.pending⟩
      raise := fun n ps _ k =>
        ⟨(raise_kept State.mode (fun _ _ _ => rfl) n ps _).trans k.mode,
          (raise_kept State.recipes (fun _ _ _ => rfl) n ps _).trans k.recipes,
          (raise_kept State.queues (fun _ _ _ => rfl) n ps _).trans k.queues,
          (raise_kept State.authCounter (fun _ _ _ => rfl) n ps _).trans k.authCounter,
          (raise_kept State.probes (fun _ _ _ => rfl) n ps _).trans k.probes,
          (raise_kept State.scan (fun _ _ _ => rfl) n ps _).trans k.scan,
          (raise_kept State.settings (fun _ _ _ => rfl) n ps _).trans k.settings,
          (raise_kept State.loadCounter (fun _ _ _ => rfl) n ps _).trans k.loadCounter,
          (raise_kept State.seconds (fun _ _ _ => rfl) n ps _).trans k.seconds,
          (raise_kept State.freeCount (fun _ _ _ => rfl) n ps _).trans k.freeCount,
          (raise_kept State.pending (fun _ _ _ => rfl) n ps _).trans k.pending⟩
      deliver := fun d r k => ⟨k.mode, k.recipes, k.queues, k.authCounter, k.probes, k.scan, k.settings, k.loadCounter,
        k.seconds, k.freeCount, k.pending⟩
      respond := fun p r k => ⟨k.mode, k.recipes, k.queues, k.authCounter, k.probes, k.scan, k.settings, k.loadCounter,
        k.seconds, k.freeCount, k.pending⟩ }

/-- The waiting commands are kept by the progress of loads. -/
theorem closed_pending (q : List Instr) : Closed (fun t => t.pending = q) :=
  closed_of_eq State.pending q (fun _ _ _ => rfl) (fun _ _ => rfl) (fun _ _ _ => rfl) (fun _ _ => rfl)
    (fun _ _ _ => rfl) (fun _ _ _ => rfl) (fun _ _ _ => rfl) (fun _ _ _ => rfl)

/-- The trip states are kept by the progress of loads. -/
theorem closed_trips (x : Trips) : Closed (fun t => t.trips = x) :=
  closed_of_eq State.trips x (fun _ _ _ => rfl) (fun _ _ => rfl) (fun _ _ _ => rfl) (fun _ _ => rfl)
    (fun _ _ _ => rfl) (fun _ _ _ => rfl) (fun _ _ _ => rfl) (fun _ _ _ => rfl)

/-- A property of every port that a raise within its class and the forming of a response keep is kept by the progress of
loads. -/
theorem closed_of_ports (Q : Port → PortState → Prop)
    (hraise : ∀ n p x, n.set &&& ~~~(classFlags p) = 0#16 → Q p x → Q p (x.raise n))
    (hform : ∀ p x r, Q p x → Q p { x with answer := x.answer.form r }) : Closed (fun t => ∀ p, Q p (t.port p)) where
  arm _ _ h := h
  header _ h := h
  station _ _ h := h
  bus _ h := h
  page _ _ h := h
  meter _ _ h := h
  raise n ps hr h := by
    rename_i s
    unfold State.raise
    induction ps generalizing s with
    | nil => exact h
    | cons q rest ih =>
      refine ih (fun p hp => hr p (List.mem_cons_of_mem _ hp)) ?_
      intro p
      by_cases hq : p = q
      · subst hq
        rw [State.modPort_port_self]
        exact hraise n p _ (hr p List.mem_cons_self) (h p)
      · rw [State.modPort_port_ne _ _ _ _ hq]
        exact h p
  deliver _ _ h := h
  respond q r h := by
    intro p
    by_cases hq : p = q
    · subst hq
      simp only [State.respond, State.modPort_port_self]
      exact hform p _ r (h p)
    · simp only [State.respond, State.modPort_port_ne _ _ _ _ hq]
      exact h p

/-- The progress of loads keeps every attention line right. -/
theorem closed_attentionRight : Closed State.attentionRight :=
  closed_of_ports (fun _ x => x.attention = attentionOf x.flags x.mask) (fun _ _ _ _ _ => rfl) (fun _ _ _ h => h)

/-- The progress of loads keeps every flag within its port's class. -/
theorem closed_flagsInClass : Closed State.flagsInClass :=
  closed_of_ports (fun p x => x.flags &&& ~~~(classFlags p) = 0#16 ∧ x.mask &&& ~~~(classFlags p) = 0#16)
    (fun n p x hn h => by
      refine ⟨?_, h.2⟩
      have e : (x.raise n).flags = x.flags ||| n.set := rfl
      rw [e]
      have : (x.flags ||| n.set) &&& ~~~(classFlags p) =
          (x.flags &&& ~~~(classFlags p)) ||| (n.set &&& ~~~(classFlags p)) := by
        ext i
        simp only [BitVec.getElem_and, BitVec.getElem_or, BitVec.getElem_not]
        cases x.flags[i] <;> cases n.set[i] <;> simp
      rw [this, h.1, hn]
      rfl)
    (fun _ _ _ h => h)

/-- The progress of loads keeps every read pointer within its window. -/
theorem closed_pointersInside : Closed State.pointersInside :=
  closed_of_ports (fun _ x => x.window.inside) (fun _ _ _ _ h => h) (fun _ _ _ h => h)

end Sys2Proof.Machine
end

