-- ==== Sys2Proof/Laws/Meters.lean ====
section
/-! SUPPORT. What a stray tick and a change of the stray threshold do (R90). -/

namespace Sys2Proof.Machine

/-- A stray tick of a silent counter raises nothing: it changes its meter alone. -/
theorem strayTick_of_silent {s : State} {m : Fin 16} (h : (s.meter m).silent = true) :
    s.strayTick m =
      if Config.maxStray ≤ (s.meter m).stray then s
      else s.modMeter m fun x =>
        { x with stray := x.stray + 1, silent := x.silent || decide ((s.meter m).stray + 1 = s.settings.strayThreshold) } := by
  simp [State.strayTick, h]

/-- A stray tick changes its meter, and besides it raises STRAY_FLOW at most. -/
theorem strayTick_cases (s : State) (m : Fin 16) :
    s.strayTick m = s ∨ ∃ f, s.strayTick m = s.modMeter m f ∨ s.strayTick m = (s.modMeter m f).raise .strayFlow terminalPorts := by
  simp only [State.strayTick]
  split
  · exact .inl rfl
  · split
    · exact .inr ⟨_, .inr rfl⟩
    · exact .inr ⟨_, .inl rfl⟩

/-- A change of the threshold touches nothing of a meter but its silence, and no counter that was silent speaks again. -/
theorem withThreshold_rest (before now : Nat) (x : Meter) :
    { x.withThreshold before now with silent := x.silent } = x ∧
      (x.silent = true → (x.withThreshold before now).silent = true) := by
  refine ⟨rfl, fun h => ?_⟩
  simp [Meter.withThreshold, h]

/-- Where every counter at or past the threshold before is silent, every one at or past the new threshold is. -/
theorem withThreshold_silent {before now : Nat} {x : Meter} (h : before ≤ x.stray → x.silent = true)
    (reached : now ≤ (x.withThreshold before now).stray) : (x.withThreshold before now).silent = true := by
  simp only [Meter.withThreshold, Bool.or_eq_true, decide_eq_true_eq] at reached ⊢
  by_cases b : before ≤ x.stray
  · exact .inl (h b)
  · exact .inr ⟨by omega, reached⟩

end Sys2Proof.Machine
end

