-- ==== Sys2Proof/Tests/Slice0.lean ====
section
/-! SUPPORT. The writer's own tests: the ill-formed terms that well-formedness refuses, examples of the spec, and, for each
statement, a state and operands that meet its hypotheses. -/

namespace Sys2Proof.Tests

set_option Elab.async false

open Sys2Proof Sys2Proof.Machine

/-! ## Small states -/

/-- The recipe of the worked example of Ratio Control, as a commit would carry it. -/
def recipe10 : Recipe :=
  { productCode := 1, ratio := 100, tolerance := 5, primeVolume := 200, primeOpening := 60, rampSteps := 2,
    rampStepVolume := 50, fullOpening := 200, taperVolume := 200, taperSteps := 2, taperEndOpening := 40,
    flushVolume := 100, ethanolStartOpening := 80, trimVolume := 100, trimStep := 8, deadband := 5, alarmLimit := 40,
    alarmCount := 3, shareCount := 1,
    lines := [{ station := 1, spacing := 100, shotSize := 60, required := true }],
    checkpoints := [{ event := .atVolume 500, mode := .halt }] }

/-- A neat gasoline recipe. -/
def neat : Recipe := { recipe10 with ratio := 0, shareCount := 0, lines := [], checkpoints := [] }

/-- An authorization of lane `l` for arm set `set`, slot 31. -/
def auth (id : Nat) (l : Fin 4) (set : Byte) : Authorization :=
  { id := id, lane := l, armSet := set, slot := 31, requiredRevision := 7, presetLimit := 2000, customer := 5#64,
    expiry := 240, issuer := .tb, timer := .running 14400000, elapsed := 0 }

/-- A load of a recipe with number 417, V = G + E and preset 1500, on arm `a`. -/
def load (a : Fin 8) (r : Recipe) (gasoline ethanol : Nat) : Load :=
  let x := State.reset.newLoad 417 a (auth 310 (laneOf a) 3#8) 7 r 1500
  { x with data := { x.data with gasoline := gasoline, ethanol := ethanol, product := gasoline + ethanol } }

/-- Reset with a load on an arm in a state. -/
def withLoad (a : Fin 8) (st : ArmState) (l : Load) : State :=
  { State.reset with mode := .operate }.modArm a fun x =>
    { x with enable := true, state := st, noFlow := .running 10000, settle := .running 2000, hold := .running 1800000,
             load := some l }

/-- A port that is answering a READ STATUS. -/
def busyAt (p : Port) : State := State.reset.answered p .readStatus 9#8 (okay .none)

/-- What a command leaves of a state. -/
def after (i : Instr) (s : State) : State :=
  match exec i s with
  | .next t => t
  | .fault _ => s
  | .refused _ => s

/-- The result code of the response that a request leaves at its port. -/
def resultOf (p : Port) (i : Instr) (s : State) : Option ResultCode := ((after i s).response? p).map Response.result

/-! ## Well-formedness -/

theorem test_wf_commit_length : (Instr.commitRecipe .ta 1#8 0#8 [1#8]).wellFormed = false := by decide
theorem test_wf_configure_length : (Instr.configure .ta 1#8 2#8 0#8 [1#8]).wellFormed = false := by decide
theorem test_wf_configure_frame :
    (Instr.configure .ta 1#8 9#8 0#8 (List.replicate 117 0#8)).wellFormed = false := by decide +kernel
theorem test_wf_bad_request_is_request : (Instr.badRequest .ta 0x01#8 1#8 []).wellFormed = false := by decide
theorem test_wf_bad_request_frame :
    (Instr.badRequest .ta 0xEE#8 1#8 (List.replicate 119 0#8)).wellFormed = false := by decide +kernel
theorem test_wf_expired_low : (Instr.authExpired 0).wellFormed = false := by decide
theorem test_wf_expired_high : (Instr.authExpired 65536).wellFormed = false := by decide
theorem test_wf_good :
    (Instr.authExpired 65535).wellFormed = true ∧ (Instr.configure .ta 1#8 2#8 0#8 [1#8, 250#8]).wellFormed = true ∧
      (Instr.badRequest (.lp 0) 0x01#8 1#8 [0#8]).wellFormed = true := by decide

/-! ## Examples of the spec -/

theorem test_table_word_none : decodeTableWord 8 1 = none := rfl
theorem test_crc_check_value :
    crcOf [0x31#8, 0x32#8, 0x33#8, 0x34#8, 0x35#8, 0x36#8, 0x37#8, 0x38#8, 0x39#8] = 0x29B1#16 := by decide +kernel
theorem test_crc_empty : crcOf [] = 0xFFFF#16 := by decide
theorem test_decode_start :
    decodeRequest (.lp 1) 0x20#8 5#8 [3#8, 0x01#8, 0x36#8, 0x00#8, 0x1F#8, 0x40#8] =
      some (.startLoad (.lp 1) 5#8 3#8 310#16 8000#24) := by decide
theorem test_decode_unknown : decodeRequest .ta 0x06#8 5#8 [] = none := by decide
theorem test_recipe_content_passes : (parseContent recipe10.bytes).offends = none := by decide +kernel
theorem test_recipe_content_kept : (parseContent recipe10.bytes).keep = recipe10 := by decide +kernel
theorem test_recipe_field_named :
    (parseContent ({ recipe10 with ratio := 900, tolerance := 0 } : Recipe).bytes).offends =
      some { ok := false, field := 2, index := none } := by decide +kernel
theorem test_minimum_preset : recipe10.minimumPreset = 600 := by decide
theorem test_points :
    (load 6 recipe10 0 0).data.blendSpan = 1200 ∧ (load 6 recipe10 0 0).data.flushPoint = 1400 ∧
      (load 6 recipe10 0 0).data.taperPoint = 1200 ∧ (load 6 recipe10 0 0).data.ethanolTarget = 150 := by decide
theorem test_openings :
    recipe10.rampOpening 1 = 130 ∧ recipe10.rampOpening 2 = 200 ∧ recipe10.taperOpening 1 = 120 ∧
      recipe10.taperOpening 2 = 40 ∧ recipe10.taperStepVolume 1200 2 = 1300 := by decide
theorem test_deviation :
    (load 6 recipe10 643 57).scaledDeviation = -6600 ∧ (load 6 recipe10 643 57).reportedDeviation = -5 ∧
      (load 6 recipe10 643 57).trimmedOpening 112 = 120 := by decide
theorem test_final_ratio : finalRatioOf 1351 151 = 1005 ∧ inToleranceOf 1005 100 5 = true := by decide
theorem test_next_trim : firstAbove 200 50 2437 = 2450 := by decide
theorem test_bands : bandOf 187 = 9 ∧ bandOf 212 = 10 ∧ bandOf 550 = 16 ∧ bandOf (-300) = 0 := by decide
theorem test_pulse_counts :
    ((after (.meterPulse 6) (State.reset.modMeter 6 fun x => { x with enable := true, kFactor := 40, divider := 13 })).meter
      6).divider = 12 := by decide
theorem test_stray_threshold :
    (after (.meterPulse 6) (State.reset.modMeter 6 fun x => { x with enable := true, stray := 19 })).flagged .tb
      .strayFlow = true := by decide
theorem test_lowered_threshold_silences :
    ((after (.configure .ta 1#8 6#8 0#8 ([10#8, 20#8, 30#8] ++ bytes16 0#16 ++ bytes16 50#16 ++ bytes16 10#16))
      (State.reset.modMeter 6 fun x => { x with stray := 10 })).meter 6).silent = true := by decide +kernel
theorem test_silent_climb :
    (after (.meterPulse 6) (State.reset.modMeter 6 fun x => { x with enable := true, stray := 19, silent := true })).flagged
      .tb .strayFlow = false := by decide
theorem test_prime_done :
    ((after (.meterPulse 12) ((withLoad 6 .prime (load 6 neat 199 0)).modMeter 12 fun x => { x with enable := true })).arm
      6).state = .ramp := by decide +kernel
theorem test_shares_queued :
    ((after (.meterPulse 12) ((withLoad 6 .prime (load 6 recipe10 199 0)).modMeter 12 fun x =>
      { x with enable := true })).arm 6).state = .shareWait := by decide +kernel
theorem test_halt_at_volume :
    ((after (.meterPulse 12) ((withLoad 6 .full (load 6 { recipe10 with lines := [] } 499 0)).modMeter 12 fun x =>
      { x with enable := true })).arm 6).state = .held := by decide +kernel
theorem test_volume_at_preset_does_not_fire :
    ((after (.meterPulse 12) ((withLoad 6 .held
      { load 6 recipe10 499 0 with data := { (load 6 recipe10 499 0).data with preset := 500 } }).modMeter 12 fun x =>
        { x with enable := true })).load? 6).map (fun l => (l.data.product, l.data.flag0)) = some (500, false) := by
  decide +kernel
theorem test_shot_frame :
    ({ station := 1, kind := .shot, arm := 2, size := 40, phase := .sending, discarded := false, shot := none }
      : Txn).frame = [0x52#8, 0x02#8, 0x8D#8] := by decide
theorem test_power_on_takes_inputs :
    (after (.powerOn true false true true false true) State.reset).trips =
      { esd := true, header := false, lanes := #v[true, true, false, true] } := by decide
theorem test_lane_port_not_permitted :
    resultOf (.lp 2) (.clearStray (.lp 2) 1#8 3#8) State.reset = some .notPermitted := by decide
theorem test_wrong_mode : resultOf (.lp 0) (.startLoad (.lp 0) 1#8 0#8 0#16 1000#24) State.reset = some .wrongMode := by
  decide
theorem test_step_of_queue :
    (match step { State.reset with pending := [.secondsTick, .esdAssert] } with
      | .next t => decide (t.seconds = 1 ∧ t.pending = [.esdAssert])
      | .fault _ => false
      | .refused _ => false) = true := by decide +kernel
theorem test_idle_step : step State.reset = .next State.reset := rfl

/-! ## Witnesses: for each statement with hypotheses, a state and operands that meet them -/

theorem test_hyp_StepRunsFrontCommand :
    ({ State.reset with pending := [.secondsTick] } : State).pending = .secondsTick :: [] ∧ State.reset.pending = [] := by
  decide
theorem test_hyp_PortLineEvents :
    ((busyAt (.lp 3)).port (.lp 3)).answer = .busy 0x01#8 9#8 (some (okay .none)) := by decide
theorem test_hyp_FrameAtBusyPortCollides :
    (busyAt .ta).free .ta = false ∧ (Instr.traceRead .ta 1#8 8#8).wellFormed = true ∧
      encodeRequest (.traceRead .ta 1#8 8#8) = some (.ta, .traceRead, 1#8, [8#8]) := by decide
theorem test_hyp_RequestFromWrongClassRefused :
    State.reset.free .ta = true ∧ Port.mayIssue .ta .startLoad = false ∧ Port.mayIssue (.lp 3) .withdrawRecipe = false ∧
      encodeRequest (.withdrawRecipe (.lp 3) 1#8 31#8) = some (.lp 3, .withdrawRecipe, 1#8, [31#8]) := by decide
theorem test_hyp_BadRequestAnswered :
    State.reset.free .tb = true ∧ decodeRequest .tb 0xFF#8 1#8 [] = none ∧ decodeRequest .tb 0x11#8 1#8 [0#8] = none ∧
      decodeRequest .tb 0x22#8 1#8 [] = none := by decide

/-- A port that has received part of a frame. -/
def partway (bs : List Byte) : State := State.reset.modPort .ta fun x => { x with receive := .assembling bs }

theorem test_hyp_FrameByteAssembles_sync :
    (State.reset.port .ta).receive = .hunting ∧ (0xC2#8 : Byte) ≠ 0xC3#8 := by decide
theorem test_hyp_FrameByteAssembles_len :
    ((partway [0xC3#8]).port .ta).receive = .assembling [0xC3#8] ∧ (1#8 : Byte).toNat < 2 ∧ 120 < (121#8 : Byte).toNat :=
  by decide
theorem test_hyp_FrameByteAssembles_check :
    ((partway (0xC3#8 :: 2#8 :: [0x01#8, 9#8] ++ [0#8])).port .ta).receive =
        .assembling (0xC3#8 :: 2#8 :: [0x01#8, 9#8] ++ [0#8]) ∧
      [0#8, 0#8] ≠ bytes16 (crcOf [2#8, 0x01#8, 9#8]) := by decide +kernel
theorem test_hyp_FrameByteAssembles_request :
    encodeRequest (.readStatus .ta 9#8) = some (.ta, .readStatus, 9#8, []) ∧
      frameOf [0x01#8, 9#8] =
        (0xC3#8 :: 2#8 :: 0x01#8 :: 9#8 :: (bytes16 (crcOf [2#8, 0x01#8, 9#8])).take 1) ++
          [(bytes16 (crcOf [2#8, 0x01#8, 9#8])).getLast (by decide)] := by decide +kernel
theorem test_hyp_FrameByteAssembles_middle :
    ((partway [0xC3#8, 2#8]).port .ta).receive = .assembling (0xC3#8 :: 2#8 :: []) ∧ 2 ≤ (2#8 : Byte).toNat ∧
      (120#8 : Byte).toNat ≤ 120 := by decide
theorem test_hyp_FrameByteAssembles_no_request :
    decodeRequest .ta 0x06#8 9#8 [] = none ∧
      frameOf [0x06#8, 9#8] =
        (0xC3#8 :: 2#8 :: 0x06#8 :: 9#8 :: (bytes16 (crcOf [2#8, 0x06#8, 9#8])).take 1) ++
          [(bytes16 (crcOf [2#8, 0x06#8, 9#8])).getLast (by decide)] := by decide +kernel
theorem test_hyp_ReadStatusShowsState : State.reset.free (.lp 0) = true := by decide
theorem test_hyp_NoticeRequestsActOnOwnPort :
    (0x07FF#16 : Word16) &&& ~~~(classFlags .ta) = 0#16 ∧ (0x003F#16 : Word16) &&& ~~~(classFlags (.lp 0)) = 0#16 ∧
      State.reset.free .ta = true := by decide
theorem test_hyp_ConfigureSetsItsGroup :
    State.reset.free .tb = true ∧ Port.isTerminal .tb = true ∧ State.reset.mode = .configure ∧ 1 ≤ (1#8 : Byte).toNat ∧
      (250#8 : Byte).toNat ≤ 250 ∧ (16#8 : Byte).toNat ≤ 16 ∧ 120 ≤ (120#8 : Byte).toNat ∧ (600#16 : Word16).toNat ≤ 600 ∧
      10 ≤ (10#16 : Word16).toNat ∧ (500#16 : Word16).toNat ≤ 500 ∧ (1000#16 : Word16).toNat ≤ 1000 := by decide
theorem test_hyp_ConfigureSetsItsGroup_probe :
    (State.reset.probe 15).enable = false ∧ State.reset.scan = none ∧
      ((State.reset.modProbe 15 fun x => { x with enable := true }).probe 15).enable = true ∧
      ({ State.reset with scan := some { channel := 15, discard := false } } : State).scan ≠ none := by decide
theorem test_hyp_ConfigureSetsItsGroup_table :
    (∀ f ∈ (Vector.replicate 17 9000#16).toList, 9000 ≤ f.toNat ∧ f.toNat ≤ 11000) ∧
      ∀ f ∈ (Vector.replicate 17 11000#16).toList, 9000 ≤ f.toNat ∧ f.toNat ≤ 11000 := by
  refine ⟨fun f h => ?_, fun f h => ?_⟩ <;> rw [Vector.toList_replicate] at h <;>
    rw [List.eq_of_mem_replicate h] <;> decide
theorem test_hyp_RefusalsChangeNothing :
    resultOf .ta (.configure .ta 1#8 0#8 8#8 [1#8]) State.reset = some .badField ∧
      resultOf .ta (.startLoad .ta 1#8 0#8 0#16 100#24) State.reset = some .notPermitted := by decide

/-- Reset with arm 7 ready for BEGIN OPERATION. -/
def ready : State :=
  { ((State.reset.modArm 7 fun x => { x with enable := true }).modMeter 14 fun x =>
      { x with enable := true }).modMeter 15 fun x => { x with enable := true } with
    settings := { Settings.reset with laneEnable := #v[false, false, false, true] } }

theorem test_hyp_ModeRequestsChangeMode_begin :
    ready.mode = .configure ∧ ready.free .ta = true ∧ (ready.arm 7).enable = true ∧
      ∀ a, (ready.arm a).enable = true →
        (ready.meter (gasolineOf a)).enable = true ∧ (ready.meter (ethanolOf a)).enable = true ∧
          ready.settings.laneEnable[(laneOf a).val] = true := by decide
theorem test_hyp_ModeRequestsChangeMode_return :
    ({ State.reset with mode := .operate } : State).mode = .operate ∧ ∀ a, (State.reset.arm a).state = .idle := by decide
theorem test_hyp_ReadRecipeTakesLink : State.reset.free (.lp 1) = true ∧ 31 < (32#8 : Byte).toNat := by decide

/-- Slot 31 READY at revision 65535, TA linked to it, TB linked to slot 0, which is EMPTY. -/
def linked : State :=
  (((State.reset.setSlot 31 { revision := 65535, content := some recipe10 }).modPort .ta fun x =>
    { x with link := some (.recipe 31 65535) })).modPort .tb fun x => { x with link := some (.recipe 0 0) }

theorem test_hyp_LinkedEditsWriteSlot :
    linked.free .ta = true ∧ (linked.port .ta).link = some (.recipe 31 (linked.slot 31).revision) ∧
      (linked.slot 31).content ≠ none ∧ (linked.port .tb).link = some (.recipe 0 (linked.slot 0).revision) ∧
      (linked.slot 0).content = none := by decide +kernel
theorem test_hyp_LinkedEditsWriteSlot_content :
    recipe10.bytes.length = 58 ∧ (parseContent recipe10.bytes).offends = none := by decide +kernel
theorem test_hyp_LinkedEditsWriteSlot_unlinked :
    (∀ k : Fin 32, k.val = (32#8 : Byte).toNat → (linked.port .ta).link ≠ some (.recipe k.val (linked.slot k).revision)) ∧
      ∀ k : Fin 32, k.val = (30#8 : Byte).toNat →
        (linked.port .ta).link ≠ some (.recipe k.val (linked.slot k).revision) := by decide +kernel

/-- Lane 2 with five authorizations queued. -/
def queued : State := State.reset.setQueue 2 [auth 1 2 0x10#8, auth 2 2 0x20#8, auth 3 2 0x30#8, auth 4 2 0x10#8, auth 5 2 0x20#8]

theorem test_hyp_IssueJoinsTail :
    queued.free .tb = true ∧ (0x30#8 : Byte) ≠ 0#8 ∧
      (∀ a : Fin 8, (0x30#8 : Byte).getLsbD a.val = true → laneOf a = 2) ∧ (31#8 : Byte).toNat ≤ 31 ∧
      100 ≤ (100#24 : Word24).toNat ∧ (200000#24 : Word24).toNat ≤ 200000 ∧ 1 ≤ (1#8 : Byte).toNat ∧
      (240#8 : Byte).toNat ≤ 240 ∧ (queued.queue 2).length < 6 := by decide
theorem test_hyp_IssueJoinsTail_counter :
    1 ≤ queued.authCounter ∧ queued.authCounter ≤ 65535 ∧ queued.queuesBounded ∧
      ∀ l, ∀ x ∈ ({ queued with authCounter := 6 } : State).queue l, x.id ≠ 6 := by
  refine ⟨by decide, by decide, ?_, by decide⟩
  unfold State.queuesBounded
  decide
theorem test_issue_passes_over : queued.drawId = 6 := by decide +kernel
theorem test_hyp_RevokeRemoves :
    queued.free .ta = true ∧ Port.isTerminal (.lp 0) = false ∧ queued.free (.lp 0) = true ∧
      (∃ x ∈ queued.queue 2, x.id = (5#16 : Word16).toNat) ∧
      (∀ k, k ≠ 2 → ∀ x ∈ queued.queue k, x.id ≠ (5#16 : Word16).toNat) ∧
      ∀ l, ∀ x ∈ queued.queue l, x.id ≠ (6#16 : Word16).toNat := by decide
theorem test_hyp_ListReportsQueue : queued.free (.lp 2) = true ∧ Port.isTerminal .tb = true := by decide
theorem test_hyp_ExpiryRemovesAndRaises :
    (∃ x ∈ queued.queue 2, x.id = 1) ∧ ∀ k, k ≠ 2 → ∀ x ∈ queued.queue k, x.id ≠ 1 := by decide

/-- A rack on which a START on arm 5 passes every check: station 1 in service and reaching the arm, one record delivered
short of the list's limit. -/
def startable : State :=
  { (((State.reset.setSlot 31 { revision := 7, content := some recipe10 }).setQueue 2 [auth 310 2 0x30#8]).modArm 5
      fun x => { x with enable := true }).modStation 1 fun x => { x with state := .idle, reach := 0x20#8 } with
    mode := .operate, reservations := 31 }

theorem test_hyp_StartCreatesLoad :
    startable.free (.lp (laneOf 5)) = true ∧ startable.mode = .operate ∧ (startable.arm 5).enable = true ∧
      (startable.arm 5).state = .idle ∧ startable.trips.esd = false ∧ startable.trips.lanes[(laneOf 5).val] = true ∧
      startable.trips.header = true ∧
      (startable.queue (laneOf 5)).find? (fun y =>
        (decide ((0#16 : Word16).toNat = 0) || decide (y.id = (0#16 : Word16).toNat)) && y.armSet.getLsbD (5 : Fin 8).val) =
          some (auth 310 2 0x30#8) ∧
      (startable.slot 31).content = some recipe10 ∧ (auth 310 2 0x30#8).requiredRevision = (startable.slot 31).revision ∧
      600 ≤ (auth 310 2 0x30#8).presetLimit ∧ recipe10.minimumPreset ≤ (600#24 : Word24).toNat ∧
      (∀ y ∈ recipe10.lines, y.required = true → startable.lineAvailable 5 y = true) ∧
      startable.reservations + startable.delivered.length < 32 := by decide +kernel
theorem test_hyp_StartCreatesLoad_counter :
    1 ≤ startable.loadCounter ∧ startable.loadCounter ≤ 16777214 ∧
      (allArms.filterMap startable.load?).length + startable.delivered.length ≤ 32 ∧ (∀ b, startable.load? b = none) := by
  decide +kernel
theorem test_start_answered :
    resultOf (.lp 2) (.startLoad (.lp 2) 1#8 5#8 310#16 600#24) startable = some .ok := by decide +kernel

theorem test_hyp_StopEndsLoadEarly :
    (withLoad 4 .taper (load 4 neat 300 0)).free (.lp 2) = true ∧
      (withLoad 4 .taper (load 4 neat 300 0)).load? 4 = some (load 4 neat 300 0) ∧
      (417#24 : Word24).toNat = (load 4 neat 300 0).data.number ∧
      ((withLoad 4 .taper (load 4 neat 300 0)).arm 4).state.isBlending = true := by decide +kernel
theorem test_hyp_StopEndsLoadEarly_flush :
    ((withLoad 4 .flush { load 4 neat 1400 0 with flushEnd := some 1502 }).arm 4).state = .flush ∧ 0 < neat.flushVolume ∧
      (load 4 neat 1400 0).data.product + neat.flushVolume < 1502 ∧
      1500 ≤ (load 4 neat 1400 0).data.product + neat.flushVolume ∧ (load 4 neat 1400 0).data.product < 1500 ∧
      ({ neat with flushVolume := 0 } : Recipe).flushVolume = 0 := by decide +kernel
/-- A neat load of arm 4 with a staged amendment. -/
def staged (gasoline preset : Nat) : Load :=
  { load 4 neat gasoline 0 with data := { (load 4 neat gasoline 0).data with pending := some preset } }

theorem test_hyp_StopEndsLoadEarly_cut :
    (load 4 neat 300 0).cutEnd 300 = 400 ∧ (load 4 { neat with flushVolume := 0 } 300 0).cutEnd 300 = 300 ∧
      (staged 550 600).cutEnd 550 = 600 ∧ (staged 620 600).cutEnd 620 = 600 := by decide +kernel
theorem test_stop_applies :
    [300, 550, 620].map (fun v =>
      let t := after (.stopLoad .ta 1#8 4#8 0#24) (withLoad 4 .full (staged v 600))
      ((t.arm 4).state, (t.load? 4).map fun l => (l.data.preset, l.data.flushPoint, l.flushEnd))) =
      [(.flush, some (600, 500, some 400)), (.flush, some (600, 500, some 600)), (.closing, some (600, 500, none))] := by
  decide +kernel
theorem test_stop_prime :
    ((after (.stopLoad .ta 1#8 4#8 0#24) (withLoad 4 .prime (load 4 neat 30 0))).arm 4).state = .closing := by
  decide +kernel

/-- A load of 417 on arm 4 that TA has a load link on; its preset limit is 2000. -/
def amendable (st : ArmState) : State :=
  (withLoad 4 st (load 4 neat 300 0)).modPort .ta fun x => { x with link := some (.load 417 1) }

theorem test_hyp_AmendStagesOrApplies :
    (amendable .prime).free .ta = true ∧ (amendable .full).armOfLoad (417#24 : Word24).toNat = some 4 ∧
      (amendable .full).load? 4 = some (load 4 neat 300 0) ∧
      ((amendable .prime).port .ta).link = some (.load 417 (load 4 neat 300 0).data.revision) ∧
      (2000#24 : Word24).toNat ≤ (load 4 neat 300 0).data.presetLimit ∧
      (load 4 neat 300 0).data.product < (600#24 : Word24).toNat ∧ neat.minimumPreset ≤ (600#24 : Word24).toNat := by
  decide +kernel
/-- The same load of another volume, its flush end kept and of a kind, with a resume phase. -/
def amendableAt (st : ArmState) (gasoline : Nat) (k : FlushKind) (r : Option ResumePhase) : State :=
  (amendable st).modLoad 4 fun _ => { load 4 neat gasoline 0 with flushEnd := some 620, flushKind := some k, resume := r }

theorem test_hyp_AmendStagesOrApplies_points :
    (600#24 : Word24).toNat - neat.flushVolume ≤ 550 ∧ 300 < (600#24 : Word24).toNat - neat.flushVolume ∧
      550 < (600#24 : Word24).toNat ∧ neat.minimumPreset ≤ (600#24 : Word24).toNat ∧
      ((amendable .shareWait).arm 4).state = .shareWait ∧ (load 4 neat 300 0).resume ≠ some .flush ∧
      (amendableAt .held 550 .cut (some .flush)).armOfLoad 417 = some 4 ∧
      (amendableAt .held 550 .cut (some .flush)).free .ta = true := by decide +kernel
theorem test_amend_flush_end :
    ([(ArmState.flush, FlushKind.ordered, none), (.flush, .cut, none), (.held, .ordered, some .flush),
        (.held, .cut, some .flush), (.shareWait, .cut, none)].map fun (st, k, r) =>
      ((after (.amendLoad .ta 1#8 417#24 700#24) (amendableAt st 605 k r)).load? 4).map Load.flushEnd) =
      [some (some 700), some (some 620), some (some 700), some (some 620), some (some 700)] := by decide +kernel
theorem test_amend_staged :
    resultOf .ta (.amendLoad .ta 1#8 417#24 2000#24) (amendable .full) = some .ok := by decide +kernel
theorem test_hyp_HoldEntersHeld :
    ∀ st ∈ [ArmState.prime, .ramp, .full, .taper, .flush, .shareWait], (withLoad 4 st (load 4 neat 300 0)).free .tb = true ∧
      ((withLoad 4 st (load 4 neat 300 0)).arm 4).state.toResume.isSome = true := by decide +kernel

theorem test_hold_applies :
    ((after (.holdLoad .ta 1#8 4#8 0#24) (withLoad 4 .full (staged 300 600))).load? 4).map (fun l =>
      (l.data.preset, l.data.blendSpan, l.data.flushPoint, l.data.taperPoint)) = some (600, 300, 500, 300) := by
  decide +kernel

/-- A load of arm 4 held with some causes and a resume phase. -/
def heldWith (c : HoldCauses) (r : ResumePhase) : Load :=
  let l := load 4 neat 300 0
  { l with resume := some r, flushEnd := some 301, flushKind := some .cut,
           data := { l.data with causes := c, flag1 := true } }

theorem test_hyp_RemovingOneCauseKeepsHeld :
    (heldWith { laneHold := true, permissive := true, checkpoint1 := true } .full).data.causes.has (classCause (.lp 2)) =
        true ∧
      ((heldWith { laneHold := true, permissive := true, checkpoint1 := true } .full).data.causes.put false
        (classCause (.lp 2))).isEmpty = false ∧
      ((heldWith { laneHold := true, permissive := true, checkpoint1 := true } .full).data.causes.put false
        .permissive).isEmpty = false ∧
      ((heldWith { laneHold := true, permissive := true, checkpoint1 := true } .full).data.causes.put false
        .checkpoint1).isEmpty = false ∧
      (withLoad 4 .held (heldWith {} .full)).trips.lanes[(laneOf 4).val] = true := by decide +kernel
theorem test_hyp_RemovingLastCauseResumes :
    (heldWith { terminalHold := true } .flush).data.causes.has (classCause .ta) = true ∧
      ((heldWith { terminalHold := true } .flush).data.causes.put false (classCause .ta)).isEmpty = true ∧
      (heldWith { terminalHold := true } .flush).data.product < 301 ∧
      (heldWith { terminalHold := true } .ramp).recipe.shareCount = 0 ∧
      (heldWith { terminalHold := true } .ramp).data.product <
        (heldWith { terminalHold := true } .ramp).data.taperPoint := by decide +kernel
/-- The last cause of a held load by each of the three requests. -/
theorem test_hyp_RemovingLastCauseResumes_requests :
    (withLoad 4 .held (heldWith { permissive := true } .full)).names (.lp 2) 4 0#24 (heldWith { permissive := true } .full) ∧
      (Port.lp 2).isTerminal = false ∧
      (withLoad 4 .held (heldWith { permissive := true } .full)).trips.lanes[(laneOf 4).val] = true ∧
      ((heldWith { permissive := true } .full).data.causes.put false .permissive).isEmpty = true ∧
      (heldWith { checkpoint1 := true } .full).data.flag1 = true ∧
      ((heldWith { checkpoint1 := true } .full).data.causes.put false .checkpoint1).isEmpty = true ∧
      ((heldWith { checkpoint0 := true } .full).data.causes.put false .checkpoint0).isEmpty = true := by
  unfold State.names
  decide +kernel

/-- A neat load of arm 4 held for its permissive at a volume, with a resume phase, waiting for TAPER if it waited. -/
def heldAt (r : ResumePhase) (gasoline : Nat) : Load :=
  let l := load 4 neat gasoline 0
  { l with
    resume := some r, waitTarget := some .taper
    flushEnd := some 1450, flushKind := some .cut
    data := { l.data with causes := { permissive := true } } }

theorem test_hyp_RemovingLastCauseResumes_points :
    (heldAt .prime 30).data.product < (heldAt .prime 30).recipe.primeVolume ∧
      (heldAt .prime 300).recipe.primeVolume ≤ (heldAt .prime 300).data.product ∧ (heldAt .prime 300).recipe.checkpoints = [] ∧
      (heldAt .ramp 1500).data.preset ≤ (heldAt .ramp 1500).data.product ∧
      (heldAt .ramp 1400).data.flushPoint ≤ (heldAt .ramp 1400).data.product ∧
      (heldAt .ramp 1400).data.product < (heldAt .ramp 1400).data.pending.getD (heldAt .ramp 1400).data.preset ∧
      (heldAt .flush 1450).flushEnd = some 1450 ∧ (heldAt .full 1200).data.taperPoint ≤ 1200 ∧
      (heldAt .shareWait 300).waitTarget = some .taper ∧ (heldAt .full 300).supplyLost = false ∧
      ((heldAt .full 1200).taperCeiling = none) := by decide +kernel
theorem test_resume_phases :
    ([(ResumePhase.prime, 30), (.prime, 300), (.ramp, 300), (.full, 1200), (.taper, 300), (.shareWait, 300), (.ramp, 1400),
        (.full, 1500), (.flush, 1449), (.flush, 1450)].map fun (r, v) =>
      ((after (.resumeLoad (.lp 2) 1#8 4#8 0#24) (withLoad 4 .held (heldAt r v))).arm 4).state) =
      [.prime, .ramp, .ramp, .taper, .taper, .taper, .flush, .closing, .flush, .closing] := by decide +kernel
theorem test_clear_ends_hold :
    ((after (.clearCheckpoint .ta 1#8 4#8 0#24 1#8) (withLoad 4 .held (heldWith { checkpoint1 := true } .full))).load? 4).map
      (fun l => (l.data.flag1, l.resume)) = some (false, none) := by decide +kernel
/-- A blended load of arm 4 held at 330 dL with one cause left, its line having two kept shots. -/
def heldKept (r : ResumePhase) : Load :=
  let l := load 4 recipe10 300 30
  { l with
    resume := some r, taperCeiling := some 130
    lines := [{ counts := { station := 1, skipped := false, due := 2, owed := 2 }, nextBoundary := some 300, kept := 2 }]
    data := { l.data with causes := { terminalHold := true } } }

/-- The header with the permissive present, a capacity of 2 and some shares in use, no one waiting. -/
def sharesUsed (n : Nat) (s : State) : State := s.modHeader fun h => { h with capacity := 2, inUse := n }

theorem test_hyp_RemovingLastCauseResumes_shares :
    (heldKept .ramp).recipe.shareCount = 1 ∧ (sharesUsed 1 (withLoad 4 .held (heldKept .ramp))).header.inUse + 1 ≤ 2 ∧
      (sharesUsed 2 (withLoad 4 .held (heldKept .ramp))).header.capacity < 2 + 1 ∧
      (sharesUsed 2 (withLoad 4 .held (heldKept .ramp))).trips.header = true ∧
      (sharesUsed 2 (withLoad 4 .held (heldKept .ramp))).header.wait = [] ∧
      (withLoad 4 .held (heldKept .full)).names .ta 4 0#24 (heldKept .full) ∧
      (heldKept .full).data.product < (heldKept .full).data.taperPoint ∧
      (heldKept .taper).data.product < (heldKept .taper).data.flushPoint ∧ 0 < (heldKept .ramp).lines.length := by
  unfold State.names
  decide +kernel
theorem test_release_ramps :
    ((after (.releaseHold .ta 1#8 4#8 0#24) (sharesUsed 1 (withLoad 4 .held (heldKept .full)))).station 1).queue =
      [{ arm := 4, load := 417, line := 0, owed := 2 }] := by decide +kernel
theorem test_release_waits :
    ((after (.releaseHold .ta 1#8 4#8 0#24) (sharesUsed 2 (withLoad 4 .held (heldKept .full)))).arm 4).state =
      .shareWait := by decide +kernel
theorem test_release_resumes :
    ((after (.releaseHold .ta 1#8 4#8 0#24) (withLoad 4 .held (heldWith { terminalHold := true } .flush))).arm 4).state =
      .flush := by decide +kernel
theorem test_hyp_MarkCheckpointSetsFlag :
    (withLoad 4 .idle (load 4 neat 300 0)).free .ta = true ∧ (load 4 neat 300 0).data.flag0 = false ∧
      ((withLoad 4 .idle (load 4 neat 300 0)).arm 4).state ≠ .closing ∧
      ((withLoad 4 .shareWait (load 4 neat 300 0)).arm 4).state.toResume = some .shareWait ∧
      (heldWith { checkpoint1 := true } .full).data.flag1 = true ∧
      (withLoad 4 .held (heldWith {} .full)).names .tb 4 417#24 (heldWith {} .full) := by
  unfold State.names
  decide +kernel
theorem test_mark_halts :
    ((after (.markCheckpoint .ta 1#8 4#8 0#24 1#8 1#8) (withLoad 4 .full (load 4 neat 300 0))).load? 4).map
      (fun l => (l.data.causes, l.data.flag1)) = some ({ checkpoint1 := true }, true) := by decide +kernel
theorem test_hyp_LoadTimersClose :
    (∀ st ∈ [ArmState.prime, .ramp, .full, .taper, .flush],
      ((withLoad 4 st (load 4 neat 300 0)).arm 4).state.isFlowing = true ∧
        ((withLoad 4 st (load 4 neat 300 0)).arm 4).noFlow.isRunning = true) ∧
      ((withLoad 4 .held (load 4 neat 300 0)).arm 4).hold.isRunning = true := by decide +kernel
theorem test_hyp_SettleTimeoutCompletes :
    ((withLoad 4 .closing (load 4 neat 300 0)).arm 4).settle.isRunning = true ∧
      (withLoad 4 .closing (load 4 neat 300 0)).shotInFlight 4 417 = false := by decide +kernel
theorem test_hyp_ShareWaitLongRaises :
    (∃ w ∈ [({ arm := 4, shares := 1, timer := .running 120000 } : Waiter)], w.arm = 4 ∧ w.timer.isRunning = true) ∧
      ∀ c ∈ neat.checkpoints, c.event ≠ .shareWaitLong := by decide
/-- A load of arm 4 with one checkpoint entry. -/
def withEntry (ev : EventKind) (md : CheckpointMode) (gasoline : Nat) : Load :=
  load 4 { neat with checkpoints := [{ event := ev, mode := md }] } gasoline 0

/-- Arm 4 in SHARE_WAIT with its share wait timer running. -/
def sharesAwaited (l : Load) : State :=
  (withLoad 4 .shareWait l).modHeader fun h => { h with wait := [{ arm := 4, shares := 1, timer := .running 120000 }] }

theorem test_hyp_ShareWaitLongRaises_entry :
    (withEntry .shareWaitLong .halt 300).entryAnswers .shareWaitLong 0 false true true ∧
      (withEntry .shareWaitLong .note 300).entryAnswers .shareWaitLong 0 false true false ∧
      (withEntry .shareWaitLong .halt 300).entryAnswers .shareWaitLong 1 false false false ∧
      ((sharesAwaited (withEntry .shareWaitLong .halt 300)).arm 4).state = .shareWait := by
  refine ⟨⟨?_, ?_⟩, ⟨?_, ?_⟩, ⟨?_, ?_⟩, by decide +kernel⟩ <;> simp [withEntry, load, State.newLoad]
theorem test_share_wait_halts :
    [CheckpointMode.note, .halt].map (fun md =>
      let t := after (.shareWaitLong 4) (sharesAwaited (withEntry .shareWaitLong md 300))
      ((t.arm 4).state, t.header.wait.length, (t.load? 4).map fun l => l.data.flag0)) =
      [(.shareWait, 1, some true), (.held, 0, some true)] := by decide +kernel
theorem test_hyp_ReadLoadReturnsRecord :
    (withLoad 4 .full (load 4 neat 300 0)).free (.lp (laneOf 4)) = true ∧ (load 4 neat 300 0).data.lane = laneOf 4 := by
  decide +kernel

/-- A delivered record of load 417. -/
def record : LoadRecord := State.reset.recordOf 4 (load 4 neat 300 0)

theorem test_hyp_DeliveredListRequests :
    ({ State.reset with delivered := [record] } : State).delivered = record :: [] ∧ 1 ≤ (417#24 : Word24).toNat ∧
      (417#24 : Word24).toNat ≤ 16777214 ∧ (∀ a, State.reset.load? a = none) ∧
      ∃ r ∈ [record], r.data.number = (417#24 : Word24).toNat := by decide +kernel
theorem test_hyp_ClearStrayReturnsCount :
    State.reset.free .ta = true ∧ State.reset.free (.lp 0) = true ∧ 15 < (16#8 : Byte).toNat ∧
      (15 : Fin 16).val = (15#8 : Byte).toNat := by decide
theorem test_hyp_SetHeaderCapacityServes_checked :
    16 < (17#8 : Byte).toNat ∧ (1#8 : Byte).toNat < 2 ∧ (16#8 : Byte).toNat ≤ 16 ∧ State.reset.header.wait = [] ∧
      (State.reset.modHeader fun h => { h with capacity := 4, inUse := 2 }).header.inUse = 2 := by decide
/-- Arms 4 and 6 in SHARE_WAIT for one share each, all of the two shares in use. -/
def waiting (gasoline : Nat) (target : WaitTarget) : State :=
  let l : Load := { load 4 { recipe10 with checkpoints := [] } gasoline 0 with waitTarget := some target }
  sharesUsed 2
    (((withLoad 4 .shareWait l).modArm 6 fun _ => (withLoad 6 .shareWait { l with data := { l.data with arm := 6 } }).arm 6).modHeader
      fun h => { h with wait := [{ arm := 4, shares := 1, timer := .stopped }, { arm := 6, shares := 1, timer := .stopped }] })

theorem test_hyp_SetHeaderCapacityServes :
    (waiting 300 .ramp).header.inUse + 1 ≤ (3#8 : Byte).toNat ∧ (waiting 300 .ramp).header.capacity < (3#8 : Byte).toNat ∧
      (waiting 300 .ramp).trips.header = true ∧ (∀ g ∈ (waiting 300 .ramp).header.grants, g.arm ≠ 4) ∧
      ((waiting 300 .ramp).arm 4).state = .shareWait ∧
      ((waiting 300 .ramp).load? 4).map (fun l => decide (l.data.product < l.data.taperPoint ∧ l.data.pending = none)) =
        some true ∧
      ((waiting 1200 .ramp).load? 4).map (fun l => decide (l.data.taperPoint ≤ l.data.product)) = some true ∧
      ((waiting 1400 .ramp).load? 4).map (fun l => decide (l.data.flushPoint ≤ l.data.product)) = some true ∧
      ((waiting 1500 .ramp).load? 4).map (fun l => decide (l.data.preset ≤ l.data.product)) = some true ∧
      ((waiting 300 .taper).load? 4).map Load.waitTarget = some (some .taper) := by decide +kernel
theorem test_capacity_serves :
    (resultOf .ta (.setHeaderCapacity .ta 1#8 3#8) (waiting 300 .ramp),
      (after (.setHeaderCapacity .ta 1#8 3#8) (waiting 300 .ramp)).header) =
        (some .ok,
          { capacity := 3, inUse := 3, grants := [{ arm := 4, shares := 1 }],
            wait := [{ arm := 6, shares := 1, timer := .stopped }] }) := by decide +kernel

/-- Station 3 in a state, its timers running. -/
def stationIn (st : StationState) : State :=
  State.reset.modStation 3 fun x =>
    { x with state := st, changeover := .running 500, poll := .running 100, shotTimer := .running 2000 }

/-- The bus with a transaction of station 3. -/
def onBus (k : FrameKind) (ph : TxnPhase) (sh : Option Shot) : Txn :=
  { station := 3, kind := k, arm := 7, size := 0, phase := ph, discarded := false, shot := sh }

theorem test_hyp_ConfigureSetsItsGroup_station :
    (State.reset.station 3).state = .off ∧ (stationIn .fault).mode = .configure ∧ ((stationIn .fault).station 3).state ≠ .off ∧
      ((stationIn .fault).station 3).restore = none ∧ 50 ≤ (50#16 : Word16).toNat ∧ (5000#16 : Word16).toNat ≤ 5000 ∧
      200 ≤ (200#16 : Word16).toNat := by decide

/-- Station 3 in FAULT with a RESTORE STATION of TB pending, its CLEAR on the bus or another frame there. -/
def restoring (k : FrameKind) : State :=
  { ((stationIn .fault).modStation 3 fun x => { x with restore := some .tb, manifold := some 7, failures := 3 }).taken .tb
      .restoreStation 9#8 with
    bus := { pointer := 3, txn := some (onBus k .window none) } }

theorem test_hyp_ConfigureSetsItsGroup_restoring :
    ((restoring .poll).station 3).restore = some .tb ∧
      ((restoring .poll).port .tb).answer = .busy ReqCode.restoreStation.toByte 9#8 none ∧
      (onBus .poll .window none).kind ≠ .clear ∧ (restoring .poll).free .ta = true ∧
      (restoring .clear).bus.txn = some (onBus .clear .window none) ∧ (onBus .clear .window none).kind = .clear := by decide
theorem test_hyp_RestoreStationAnswered_request :
    (stationIn .fault).free .tb = true ∧ ((stationIn .fault).station 3).state = .fault ∧
      ((stationIn .fault).station 3).restore = none ∧ (stationIn .fault).bus.txn = none ∧
      (∀ k, ((stationIn .fault).station k).request = false) ∧ some (onBus .poll .window none) ≠ none := by decide
theorem test_hyp_RestoreStationAnswered :
    (restoring .clear).bus.txn = some (onBus .clear .window none) ∧ (onBus .clear .window none).phase = .window ∧
      ((restoring .clear).station 3).restore = some .tb ∧
      ((restoring .clear).port .tb).answer = .busy ReqCode.restoreStation.toByte 9#8 none ∧
      (onBus .clear .window none).accepts 0xF0#8 0x00#8 0x0F#8 = some { state := .ready, low := false, volume := 0 } ∧
      (onBus .clear .window none).accepts 0xFB#8 0x00#8 0x04#8 = some { state := .faulted, low := true, volume := 0 } ∧
      ({ onBus .clear .window none with discarded := true } : Txn).accepts 0xF0#8 0x00#8 0x0F#8 =
        some { state := .ready, low := false, volume := 0 } := by decide
theorem test_restore_ready :
    ((after (.busReply 0xF0#8 0x00#8 0x0F#8) (restoring .clear)).response? .tb) =
      some (okay (.restored .idle (some .ready))) := by decide +kernel
theorem test_restore_no_reply :
    ((after .replyWindowClose (restoring .clear)).response? .tb) = some (okay (.restored .fault none)) := by
  decide +kernel
theorem test_hyp_StationTimersRunOut :
    ((stationIn .changeover).station 3).changeover.isRunning = true ∧ ((stationIn .changeover).station 3).queue = [] ∧
      ((stationIn .shooting).station 3).poll.isRunning = true ∧
      ((stationIn .shooting).station 3).shotTimer.isRunning = true ∧ (stationIn .shooting).bus.txn = none := by decide

/-- A load of arm 4 with one required line on station 3 that has two shots queued, one of them in flight. -/
def shotLoad : Load :=
  let l := load 4 { neat with lines := [{ station := 3, spacing := 100, shotSize := 60, required := true }] } 300 0
  { l with lines := [{ counts := { station := 3, skipped := false, due := 2, owed := 2 }, nextBoundary := some 301 }] }

/-- The shot in flight of that load. -/
def flying : Shot := { load := 417, arm := 4, line := 0, size := 60, standing := .inEntry }

/-- Station 3 in SHOOTING with that shot, its POLL on the bus, the arm in a state. -/
def shooting (st : ArmState) : State :=
  { (withLoad 4 st shotLoad).modStation 3 fun x =>
      { x with
        state := .shooting, manifold := some 4, shot := some flying, poll := .running 100, shotTimer := .running 2000
        queue := [{ arm := 4, load := 417, line := 0, owed := 2 }] } with
    bus := { pointer := 3, txn := some (onBus .poll .window none) } }

theorem test_poll_granted :
    (after (.pollTimerExpiry 3) { shooting .full with bus := { pointer := 3, txn := none } }).bus.txn =
      some { onBus .poll .sending none with arm := 4 } := by decide +kernel
theorem test_hyp_StationTimersRunOut_fault :
    shotLoad.hasRequired 3 ∧ ((shooting .full).station 3).state = .shooting ∧
      ((shooting .full).station 3).shotTimer.isRunning = true ∧ ((shooting .full).arm 4).state.isBlending = true ∧
      ((shooting .prime).arm 4).state.isBlending = false ∧ (shooting .full).notListed 4 := by
  refine ⟨⟨0, _, _, rfl, rfl, rfl, rfl, rfl⟩, by decide +kernel, by decide +kernel, by decide +kernel, by decide +kernel,
    ?_⟩
  unfold State.notListed
  decide +kernel
theorem test_hyp_StationTimersRunOut_owed (y : Line) (h : shotLoad.lines[0]? = some y) :
    (shooting .full).load? 4 = some shotLoad ∧ (shooting .full).owedSums 4 0 y := by
  have hy : y = shotLoad.lines[0] := by
    rw [List.getElem?_eq_getElem (by decide)] at h
    exact (Option.some.inj h).symm
  subst hy
  refine ⟨by decide +kernel, by decide +kernel, by decide +kernel, fun sh e _ => ?_, by decide +kernel⟩
  have f : (shooting .full).shotOf shotLoad.lines[0].counts.station = some flying := by decide +kernel
  obtain rfl := Option.some.inj (f.symm.trans e)
  decide +kernel
theorem test_fault_counts :
    ((after (.shotTimeout 3) (shooting .full)).load? 4).map (fun l => l.lines.map Line.counts) =
      some [{ station := 3, skipped := false, due := 2, missed := 1, unconfirmed := 1 }] := by decide +kernel
theorem test_hyp_BusReplyTaken :
    (onBus .select .window none).accepts 0x33#8 0x00#8 0x00#8 = some { state := .moving, low := true, volume := 0 } ∧
      (onBus .select .window none).accepts 0x30#8 0x00#8 0x03#8 = some { state := .ready, low := false, volume := 0 } ∧
      (onBus .select .window none).accepts 0x30#8 0x00#8 0x02#8 = none := by decide
theorem test_hyp_BusReplyTaken_shot :
    (onBus .poll .window none).accepts 0xB6#8 0x03#8 0x97#8 = some { state := .done, low := false, volume := 57 } ∧
      (onBus .poll .window none).accepts 0xB8#8 0x00#8 0x03#8 = some { state := .refused, low := false, volume := 0 } ∧
      (onBus .poll .window none).accepts 0xB2#8 0x00#8 0x09#8 = some { state := .moving, low := false, volume := 0 } ∧
      (onBus .poll .window none).accepts 0xBA#8 0x00#8 0x01#8 = some { state := .faulted, low := false, volume := 0 } ∧
      (shooting .full).shotOf 3 = some flying ∧ flying.standing = .inEntry ∧
      (shooting .full).load? flying.arm = some shotLoad ∧ (shotLoad.lines.map fun y => decide (0 < y.counts.owed)) = [true] ∧
      ((shooting .full).arm flying.arm).state ≠ .closing := by decide +kernel
theorem test_hyp_BusReplyTaken_completes :
    (((shooting .closing).modArm 4 fun x => { x with settle := .expired }).arm 4).settle = .expired ∧
      flying.load = shotLoad.data.number ∧ ∀ k, k ≠ 3 → (shooting .closing).shotOf k = none := by decide +kernel
theorem test_shot_done :
    ((after (.busReply 0xB6#8 0x03#8 0x97#8) (shooting .full)).load? 4).map (fun l => l.lines.map Line.counts) =
      some [{ station := 3, skipped := false, due := 2, delivered := 1, owed := 1, volume := 57 }] := by decide +kernel
theorem test_hyp_ReplyWindowCloseCountsFailure :
    ({ (stationIn .idle) with bus := { pointer := 3, txn := some (onBus .select .window none) } } : State).bus.txn =
        some (onBus .select .window none) ∧
      ((stationIn .idle).station 3).failures + 1 < 3 ∧
      3 ≤ (((stationIn .idle).modStation 3 fun x => { x with failures := 2 }).station 3).failures + 1 := by decide
theorem test_hyp_CommandFrameSentOpensWindow :
    (onBus .select .sending none).phase = .sending ∧
      (onBus .shot .sending (some { load := 417, arm := 7, line := 0, size := 60, standing := .inEntry })).shot ≠ none := by
  decide
theorem test_hyp_PulseCountsDownOrStrays :
    (State.reset.meter 0).enable = false ∧
      1 < ((State.reset.modMeter 0 fun x => { x with enable := true, kFactor := 250, divider := 2 }).meter 0).divider ∧
      (State.reset.meter 0).divider ≤ 1 ∧ State.reset.load? (armOfMeter 0) = none := by decide

/-- A load on arm 4 whose meter 8 completes a tick at each pulse. -/
def tickable (st : ArmState) (l : Load) : State := (withLoad 4 st l).modMeter 8 fun x => { x with enable := true }

theorem test_hyp_LoadTickAdvancesVolumes :
    ∀ st ∈ [ArmState.prime, .ramp, .full, .taper, .flush, .shareWait, .held, .closing],
      ((tickable st (load 4 neat 300 0)).meter 8).enable = true ∧ ((tickable st (load 4 neat 300 0)).meter 8).divider ≤ 1 ∧
        (tickable st (load 4 neat 300 0)).load? (armOfMeter 8) = some (load 4 neat 300 0) ∧
        ((tickable st (load 4 neat 300 0)).arm (armOfMeter 8)).state ≠ .idle := by decide +kernel
theorem test_overrun_limit :
    (after (.meterPulse 8) (tickable .closing { load 4 neat 1550 0 with data := { (load 4 neat 1550 0).data with overrun := 50 } })).flagged
      .tb .overrun = true := by decide +kernel
theorem test_net_volume :
    ((after (.meterPulse 8) ((tickable .full (load 4 neat 300 0)).modMeter 8 fun x => { x with remainder := 9999 })).load?
      4).map (fun l => (l.data.gasolineNet, l.data.tempSubstituted)) = some (1, true) := by decide +kernel
theorem test_hyp_TickMeetsVolumePoints :
    (load 4 neat 1499 0).data.preset ≤ (load 4 neat 1499 0).data.product + 1 ∧
      (load 4 neat 1399 0).data.flushPoint ≤ (load 4 neat 1399 0).data.product + 1 ∧
      (staged 1399 1600).data.product + 1 < (staged 1399 1600).data.pending.getD 0 ∧
      (staged 1399 1400).data.pending.getD 0 ≤ (staged 1399 1400).data.product + 1 ∧
      (load 4 neat 1449 0).data.product + 1 < (load 4 neat 1449 0).data.preset ∧
      (∃ e ∈ (heldAt .flush 1449).flushEnd, e ≤ (heldAt .flush 1449).data.product + 1) ∧
      (load 4 neat 1399 0).data.product + 1 < (load 4 neat 1399 0).data.preset ∧
      neat.primeVolume ≤ (load 4 neat 199 0).data.product + 1 ∧
      (load 4 neat 199 0).data.product + 1 < (load 4 neat 199 0).data.taperPoint ∧ neat.checkpoints = [] ∧
      neat.shareCount = 0 ∧ (∀ k ∈ neat.lines, 0 < k.spacing) ∧ (load 4 neat 199 0).data.pending = none := by
  decide +kernel
theorem test_tick_ends_flush :
    ((after (.meterPulse 8) (tickable .flush { heldAt .flush 1449 with resume := none })).arm 4).state = .closing := by
  decide +kernel

/-- A neat load of arm 4 at a volume, its ramp begun at 200 dL. -/
def ramping (gasoline : Nat) : Load := { load 4 neat gasoline 0 with rampBase := some 200 }

theorem test_hyp_TickMeetsVolumePoints_shares :
    (load 4 recipe10 199 0).recipe.shareCount ≠ 0 ∧ (∀ k ∈ recipe10.lines, 0 < k.spacing) ∧
      (sharesUsed 1 (tickable .prime (load 4 recipe10 199 0))).header.inUse + recipe10.shareCount ≤ 2 ∧
      (sharesUsed 2 (tickable .prime (load 4 recipe10 199 0))).header.capacity < 2 + recipe10.shareCount := by
  decide +kernel
theorem test_hyp_TickMeetsVolumePoints_steps :
    (ramping 249).data.product + 1 = 200 + 1 * neat.rampStepVolume ∧ 1 < neat.rampSteps ∧
      (ramping 299).data.product + 1 = 200 + neat.rampSteps * neat.rampStepVolume ∧
      (ramping 299).nextTrim ≠ some 300 ∧ (ramping 299).lines = [] ∧
      (load 4 neat 1199 0).data.taperPoint ≤ 1199 + 1 ∧
      (load 4 neat 1299 0).data.product + 1 = 1200 + (2 - 1) * neat.taperVolume / neat.taperSteps := by decide +kernel
theorem test_hyp_TickMeetsVolumePoints_entries :
    (tickable .full (withEntry (.atVolume 700) .halt 699)).quietBlending 4 (withEntry (.atVolume 700) .halt 699) ∧
      (withEntry (.atVolume 700) .halt 699).data.product + 1 < (withEntry (.atVolume 700) .halt 699).data.taperPoint ∧
      (withEntry (.atVolume 700) .halt 699).entryAnswers (.atVolume 700) 0 false true true ∧
      (withEntry .primeDone .note 199).recipe.primeVolume ≤ 199 + 1 ∧
      (withEntry .primeDone .note 199).entryAnswers .primeDone 0 false true false ∧
      (withEntry .taperBegin .halt 1199).data.taperPoint ≤ 1199 + 1 ∧ (withEntry .taperBegin .halt 1199).taperCeiling = none ∧
      (load 4 neat 1499 0).data.preset ≤ (load 4 neat 1499 0).data.product + 1 := by
  refine ⟨⟨by decide +kernel, by decide +kernel, by decide +kernel, ?_⟩, by decide +kernel, ⟨?_, ?_⟩, by decide +kernel,
    ⟨?_, ?_⟩, by decide +kernel, by decide +kernel, by decide +kernel⟩ <;>
      simp [withEntry, load, State.newLoad, neat]
theorem test_entries_fire :
    [(ArmState.full, withEntry (.atVolume 700) .halt 699), (.held, withEntry (.atVolume 700) .note 699),
        (.prime, withEntry .primeDone .note 199), (.full, withEntry .taperBegin .halt 1199),
        (.shareWait, withEntry (.atVolume 1500) .halt 1499)].map (fun (st, l) =>
      let t := after (.meterPulse 8) (tickable st l)
      ((t.arm 4).state, (t.load? 4).map fun l => l.data.flag0)) =
      [(.held, some true), (.held, some true), (.ramp, some true), (.held, some true), (.shareWait, some false)] := by
  decide +kernel
theorem test_ramp_step :
    ((after (.meterPulse 8) (tickable .ramp (ramping 249))).arm 4).mainOpening = 130 := by decide +kernel
theorem test_taper_step :
    ((after (.meterPulse 8) ((tickable .taper (load 4 neat 1299 0)).modArm 4 fun x => { x with mainOpening := 120 })).arm
      4).mainOpening = 40 := by decide +kernel

/-- A load at the tick before a trim point, with an alarm run. -/
def atTrimPoint (run : Nat) (ethanol : Nat) : Load :=
  { load 4 { recipe10 with lines := [], checkpoints := [] } (699 - ethanol) ethanol with nextTrim := some 700, alarmRun := run }

theorem test_hyp_TrimPointTrims :
    (tickable .full (atTrimPoint 2 57)).load? (armOfMeter 8) = some (atTrimPoint 2 57) ∧
      (atTrimPoint 2 57).nextTrim = some ((atTrimPoint 2 57).data.product + 1) ∧
      (atTrimPoint 2 57).data.product + 1 < (atTrimPoint 2 57).data.taperPoint ∧ (atTrimPoint 2 57).lines = [] ∧
      (atTrimPoint 2 57).scaledDeviation.natAbs ≤ 40 * 1200 ∧ 40 * 1200 < (atTrimPoint 2 0).scaledDeviation.natAbs ∧
      (atTrimPoint 2 0).recipe.alarmCount ≤ (atTrimPoint 2 0).alarmRun + 1 ∧
      (atTrimPoint 1 0).alarmRun + 1 < (atTrimPoint 1 0).recipe.alarmCount := by decide +kernel
/-- The same with a staged amendment. -/
def stagedTrim (preset : Nat) : Load :=
  { atTrimPoint 2 57 with data := { (atTrimPoint 2 57).data with pending := some preset } }

theorem test_hyp_TrimPointTrims_staged :
    (stagedTrim 700).amendedData.preset ≤ 700 ∧ (stagedTrim 750).amendedData.flushPoint ≤ 700 ∧
      700 < (stagedTrim 750).amendedData.preset ∧ (stagedTrim 950).amendedData.taperPoint ≤ 700 ∧
      700 < (stagedTrim 950).amendedData.flushPoint ∧ 700 < (stagedTrim 1300).amendedData.taperPoint ∧
      0 < (stagedTrim 950).recipe.alarmCount := by decide +kernel
theorem test_trim_applies :
    [700, 750, 950, 1300].map (fun q =>
      let t := after (.meterPulse 8) (tickable .full (stagedTrim q))
      ((t.arm 4).state, (t.load? 4).map fun l => (l.data.preset, l.data.pending, l.data.blendSpan))) =
      [(.closing, some (700, none, 400)), (.flush, some (750, none, 450)), (.taper, some (950, none, 650)),
        (.full, some (1300, none, 1000))] := by decide +kernel
theorem test_trim_opens :
    ((after (.meterPulse 8) ((tickable .full (atTrimPoint 0 57)).modArm 4 fun x => { x with ethanolOpening := 112 })).arm
      4).ethanolOpening = 120 := by decide +kernel
theorem test_ratio_fault :
    ((after (.meterPulse 8) (tickable .full (atTrimPoint 2 0))).arm 4).state = .flush := by decide +kernel
/-- The blended load of arm 4 in FULL at the tick before its line's boundary at 400 dL; the arm's entry at station 1, if it
has one, owes some shots. -/
def atBoundary (st : StationState) (owed : Nat) : State :=
  let l : Load :=
    { load 4 { recipe10 with checkpoints := [] } 399 0 with
      lines := [{ counts := { station := 1, skipped := false, due := owed, owed := owed }, nextBoundary := some 400 }] }
  (tickable .full l).modStation 1 fun x =>
    { x with state := st, queue := if owed = 0 then [] else [{ arm := 4, load := 417, line := 0, owed := owed }] }

theorem test_hyp_ShotBoundaryPlacesShot :
    armOfMeter 8 = 4 ∧ ((atBoundary .idle 0).arm 4).state = .full ∧ ((atBoundary .idle 0).station 1).queue = [] ∧
      (atBoundary .idle 0).bus.txn = none ∧ ((atBoundary .shooting 2).station 1).queue.map QueueEntry.owed = [2] ∧
      ((atBoundary .changeover 3).station 1).queue.map QueueEntry.owed = [3] ∧
      ((atBoundary .fault 0).station 1).state = .fault ∧
      ((atBoundary .idle 0).load? 4).map (fun l =>
        (decide (l.data.product + 1 < l.data.taperPoint ∧ l.nextTrim ≠ some 400), l.lines.map Line.nextBoundary,
          l.recipe.lines.map RecipeLine.required)) = some (true, [some 400], [true]) := by decide +kernel
theorem test_shot_falls_due :
    ((after (.meterPulse 8) (atBoundary .shooting 2)).station 1).queue.map QueueEntry.owed = [3] := by decide +kernel
theorem test_shot_missed :
    ((after (.meterPulse 8) (atBoundary .changeover 3)).load? 4).map (fun l => l.lines.map Line.counts) =
      some [{ station := 1, skipped := false, due := 4, owed := 3, missed := 1 }] := by decide +kernel
theorem test_required_line_cuts :
    ((after (.meterPulse 8) (atBoundary .fault 0)).arm 4).state = .flush := by decide +kernel
theorem test_hyp_ConversionSetsReading :
    ((State.reset.modProbe 15 fun x => { x with enable := true }).probe 15).enable = true ∧
      ({ State.reset with scan := some { channel := 15, discard := false } } : State).scan =
        some { channel := 15, discard := false } := by decide
theorem test_conversion_beyond_span :
    ((after (.conversionComplete 900)
      { State.reset.modProbe 15 fun x => { x with enable := true } with
        scan := some { channel := 15, discard := false } }).probe 15) =
      { enable := true, reading := 700, condition := .fault } := by decide
theorem test_hyp_EsdEndsEveryLoad : (withLoad 4 .full (load 4 neat 300 0)).trips.esd = false := by decide
theorem test_esd_delivers :
    (after .esdAssert (withLoad 4 .full (load 4 neat 300 0))).delivered.map (fun r => r.data.endStatus) = [some .esd] := by
  decide +kernel
theorem test_hyp_TripInputsRestore :
    (after .esdAssert State.reset).trips.esd = true ∧
      (after .headerPermissiveLoss State.reset).trips.header = false ∧
      (after (.lanePermissiveLoss 3) State.reset).trips.lanes[(3 : Fin 4).val] = false := by decide +kernel

/-- A blended load of arm 4 that was held in FULL. -/
def heldBlended : Load := { load 4 recipe10 300 30 with resume := some .full }

theorem test_hyp_HeaderLossTakesSupply :
    State.reset.trips.header = true ∧ neat.shareCount = 0 ∧ recipe10.shareCount ≠ 0 ∧
      (withLoad 4 .held heldBlended).load? 4 = some heldBlended ∧ heldBlended.resume = some .full := by decide +kernel

/-- A blended load of arm 4 that a ratio fault has sent to FLUSH at a trim point, its next one lying at some volume. -/
def ratioFaulted (next : Nat) : Load :=
  { heldBlended with
    nextTrim := some next
    data := { heldBlended.data with faults := { heldBlended.data.faults with ratioFault := true } } }

theorem test_hyp_HeaderLossTakesSupply_flush :
    (ratioFaulted 430).recipe.shareCount ≠ 0 ∧ ((withLoad 4 .flush (ratioFaulted 430)).arm 4).state = .flush ∧
      (ratioFaulted 430).data.faults.ratioFault = true ∧
      (ratioFaulted 430).nextTrim = some ((ratioFaulted 430).data.product + recipe10.trimVolume) ∧
      (after .headerPermissiveLoss (withLoad 4 .flush (ratioFaulted 429))).load? 4 = some (ratioFaulted 429) := by
  decide +kernel
theorem test_supply_fault_after_ratio_fault :
    ((after .headerPermissiveLoss (withLoad 4 .flush (ratioFaulted 430))).load? 4).map
      (fun l => (l.data.faults, l.endDue)) = some ({ ratioFault := true, ethanolSupply := true }, none) := by decide +kernel
theorem test_supply_lost_marked :
    ((after .headerPermissiveLoss (withLoad 4 .held heldBlended)).load? 4).map Load.supplyLost = some true := by
  decide +kernel
theorem test_hyp_LaneLossHoldsLoads :
    State.reset.trips.lanes[(2 : Fin 4).val] = true ∧ laneOf 4 = 2 ∧ ArmState.shareWait.toResume = some .shareWait := by
  decide
theorem test_hyp_TraceWindowSets :
    2 < (3#8 : Byte).toNat ∧ 7 < (8#8 : Byte).toNat ∧ (4#8 : Byte).toNat < (5#8 : Byte).toNat ∧
      63 < (64#8 : Byte).toNat ∧ (7#8 : Byte).toNat ≤ 7 ∧ (63#8 : Byte).toNat ≤ 63 ∧ State.reset.free (.lp 3) = true := by
  decide
theorem test_trace_window_edges :
    resultOf .ta (.traceWindow .ta 1#8 2#8 7#8 7#8 63#8 63#8) State.reset = some .ok ∧
      resultOf .ta (.traceWindow .ta 1#8 2#8 7#8 6#8 63#8 63#8) State.reset = some .badField ∧
      resultOf .ta (.traceWindow .ta 1#8 3#8 7#8 7#8 63#8 63#8) State.reset = some .badField := by decide
theorem test_hyp_TraceReadMovesPointer :
    1 ≤ (1#8 : Byte).toNat ∧ (8#8 : Byte).toNat ≤ 8 ∧ (0#8 : Byte).toNat = 0 ∧ 8 < (9#8 : Byte).toNat := by decide
theorem test_hyp_TraceReadMovesPointer_entries :
    TraceWindow.reset.pointerPage = (0 : Fin 8).val ∧ Port.isTerminal (.lp 3) = false ∧ Port.lp 3 ≠ .lp (laneOf 0) ∧
      (State.reset.page 0).records.length ≤ TraceWindow.reset.pointerColumn ∧
      State.reset.entryAt (.lp 3) TraceWindow.reset = .withheld 0 0 ∧
      State.reset.entryAt (.lp 0) TraceWindow.reset = .empty 0 0 0 := by decide
theorem test_hyp_PointerAdvance :
    TraceWindow.reset.inside ∧
      ({ TraceWindow.reset with mode := .down, pageStart := 7, pointerPage := 7, columnStart := 63, pointerColumn := 63 }
        : TraceWindow).inside := by
  unfold TraceWindow.inside
  decide
theorem test_hyp_RequestsRoundTrip :
    (Instr.startLoad (.lp 0) 255#8 255#8 65535#16 16777215#24).wellFormed = true ∧
      (encodeRequest (.startLoad (.lp 0) 255#8 255#8 65535#16 16777215#24)).isSome = true := by decide

/-- A load in FULL with a command waiting. -/
def running : State := { withLoad 6 .full (load 6 recipe10 499 0) with pending := [.meterPulse 12] }

theorem test_hyp_AttentionKept :
    running.attentionRight ∧ running.flagsInClass ∧ ∃ t, step running = .next t := by
  refine ⟨fun p => ?_, fun p => ?_, _, rfl⟩
  · rcases p with _ | _ | l
    · decide
    · decide
    · revert l; decide
  · rcases p with _ | _ | l
    · decide
    · decide
    · revert l; decide
theorem test_hyp_ValvesKept : running.valvesRight ∧ ∃ t, step running = .next t := by
  refine ⟨fun a => ?_, _, rfl⟩
  revert a; unfold Arm.valvesRight; decide
theorem test_hyp_RecordSumsKept :
    running.volumesAdd ∧ running.linesBalanced ∧ (running.load? 6).isSome = true ∧ ∃ t, step running = .next t := by
  have sums : ∀ a, (running.load? a).all (fun l => decide (l.data.product = l.data.gasoline + l.data.ethanol) &&
      l.lines.all fun x => decide (x.counts.due =
        x.counts.delivered + x.counts.owed + x.counts.missed + x.counts.unconfirmed)) = true := by decide
  refine ⟨⟨fun a l h => ?_, fun r h => absurd h List.not_mem_nil⟩,
    ⟨fun a l h x hx => ?_, fun r h => absurd h List.not_mem_nil⟩, by decide, _, rfl⟩
  · have k := sums a
    simp only [h, Option.all_some, Bool.and_eq_true, decide_eq_true_eq] at k
    exact k.1
  · have k := sums a
    simp only [h, Option.all_some, Bool.and_eq_true, List.all_eq_true, decide_eq_true_eq] at k
    exact k.2 x hx
theorem test_hyp_BoundsKept :
    running.metersRight ∧ running.pagesBounded ∧ running.queuesBounded ∧ running.pointersInside ∧
      (running.modMeter 6 fun x => { x with stray := 20, silent := true }).straySilent ∧ ∃ t, step running = .next t := by
  refine ⟨?_, ?_, ?_, fun p => ?_, ⟨by decide, by decide⟩, _, rfl⟩
  · unfold State.metersRight Meter.right; decide
  · unfold State.pagesBounded; decide
  · unfold State.queuesBounded; decide
  · unfold TraceWindow.inside
    rcases p with _ | _ | l
    · decide
    · decide
    · revert l; decide
theorem test_hyp_ConfigureModeKeepsArmsIdle : running.configureIdle ∧ ∃ t, step running = .next t := by
  refine ⟨⟨?_, ?_⟩, _, rfl⟩
  · unfold State.loadsRight; decide
  · intro h; exact absurd h (by decide)

/-- Arm 6 in FULL with its share granted, arm 4 waiting for one, a pulse waiting. -/
def sharing : State :=
  { (withLoad 6 .full (load 6 recipe10 499 0)).modArm 4 fun _ => (withLoad 4 .shareWait (load 4 recipe10 300 0)).arm 4 with
    header :=
      { capacity := 1, inUse := 1, grants := [{ arm := 6, shares := 1 }], wait := [{ arm := 4, shares := 1, timer := .stopped }] }
    pending := [.meterPulse 12] }

theorem test_hyp_HeaderSharesKept : sharing.configureIdle ∧ sharing.headerRight ∧ ∃ t, step sharing = .next t := by
  have blends : ∀ a, (sharing.arm a).state.isBlending = true → a = 6 := by decide +kernel
  have waits : ∀ a, (sharing.arm a).state = .shareWait → a = 4 := by decide +kernel
  refine ⟨⟨?_, fun h => absurd h (by decide)⟩, ⟨by decide, by decide, by decide, by decide, ?_, ?_, ?_, ?_, ?_, ?_⟩, _, rfl⟩
  · unfold State.loadsRight; decide +kernel
  · intro g h
    obtain rfl := List.mem_singleton.mp h
    exact ⟨by decide +kernel, load 6 recipe10 499 0, by decide +kernel, by decide +kernel, by decide⟩
  · intro a _ _ h _
    exact ⟨_, List.mem_singleton.mpr rfl, (blends a h).symm⟩
  · intro w h
    obtain rfl := List.mem_singleton.mp h
    exact ⟨by decide +kernel, load 4 recipe10 300 0, by decide +kernel, by decide +kernel, by decide⟩
  · intro a h
    exact ⟨_, List.mem_singleton.mpr rfl, (waits a h).symm⟩
  · intro w rest h
    obtain ⟨rfl, -⟩ := List.cons.inj h
    decide
  · intro h
    exact absurd h (by decide)

end Sys2Proof.Tests
end

section
/-! PROOFS. The authorizations: what REVOKE AUTHORIZATION removes and answers (R25). -/

namespace Sys2Proof.Machine

/-! ## The lane in whose queue an id stands -/

/-- The scan for an id visits every lane. -/
theorem mem_allLanes (l : Fin 4) : l ∈ allLanes := by
  revert l; decide

namespace State

/-- The test of one lane of the scan for an id. -/
theorem any_id_eq_true_iff {q : List Authorization} {id : Nat} :
    (q.any fun x => x.id == id) = true ↔ ∃ x ∈ q, x.id = id := by
  simp

/-- An id has no lane exactly when no queue holds it. -/
theorem laneOfId_eq_none_iff {s : State} {id : Nat} :
    s.laneOfId id = none ↔ ∀ l, ∀ x ∈ s.queue l, x.id ≠ id := by
  simp only [laneOfId, List.find?_eq_none, any_id_eq_true_iff, not_exists, not_and]
  exact ⟨fun h l => h l (mem_allLanes l), fun h l _ => h l⟩

/-- The lane found for an id is one whose queue holds it. -/
theorem id_mem_queue_of_laneOfId_eq_some {s : State} {id : Nat} {l : Fin 4} (h : s.laneOfId id = some l) :
    ∃ x ∈ s.queue l, x.id = id := by
  have passed : ((s.queue l).any fun x => x.id == id) = true :=
    List.find?_some (p := fun k => (s.queue k).any fun x => x.id == id) h
  exact any_id_eq_true_iff.mp passed

/-- An id that one queue alone holds has the lane of that queue. -/
theorem laneOfId_eq_some_of_unique {s : State} {id : Nat} {l : Fin 4} (held : ∃ x ∈ s.queue l, x.id = id)
    (alone : ∀ k, k ≠ l → ∀ x ∈ s.queue k, x.id ≠ id) : s.laneOfId id = some l := by
  cases found : s.laneOfId id with
  | none =>
    obtain ⟨x, hx, hid⟩ := held
    exact absurd hid (laneOfId_eq_none_iff.mp found l x hx)
  | some k =>
    obtain ⟨x, hx, hid⟩ := id_mem_queue_of_laneOfId_eq_some found
    by_cases same : k = l
    · rw [same]
    · exact absurd hid (alone k same x hx)

/-- The queues, and so the lane of an id, are the same once a request has been taken. -/
theorem laneOfId_accept (s : State) (p : Port) (c t : Byte) (id : Nat) :
    (s.accept p c t).laneOfId id = s.laneOfId id := rfl

/-- Removing an id passes the taking of a request. -/
theorem removeId_accept (s : State) (p : Port) (c t : Byte) (l : Fin 4) (id : Nat) :
    (s.accept p c t).removeId l id = (s.removeId l id).accept p c t :=
  accept_setQueue s p c t l _

/-! ## REVOKE AUTHORIZATION past the Port Unit (R25) -/

/-- Revoking an id that is queued nowhere is NO_SUCH. -/
theorem authorizationRevoked_of_laneOfId_none {s : State} {id : Word16} (h : s.laneOfId id.toNat = none) :
    authorizationRevoked id s = answer s (refused .noSuch) := by
  simp only [authorizationRevoked, h]
  rfl

/-- Revoking a queued id removes it from its lane's queue and answers with the id and the lane. -/
theorem authorizationRevoked_of_laneOfId_some {s : State} {id : Word16} {l : Fin 4}
    (h : s.laneOfId id.toNat = some l) :
    authorizationRevoked id s = answer (s.removeId l id.toNat) (okay (.revoked id.toNat l)) := by
  simp only [authorizationRevoked, h]
  rfl

end State

/-! ## The command -/

/-- What REVOKE_AUTHORIZATION runs. -/
theorem exec_revokeAuthorization (p : Port) (tag : Byte) (id : Word16) (s : State) :
    exec (.revokeAuthorization p tag id) s =
      .next (s.takeRequest p .revokeAuthorization tag (State.authorizationRevoked id)) := rfl


/-- The terminal ports, and they alone, may issue REVOKE AUTHORIZATION (R185). -/
theorem mayIssue_revokeAuthorization (p : Port) : p.mayIssue .revokeAuthorization = p.isTerminal := rfl

/-- REVOKE AUTHORIZATION is not conditional: it leaves the port's link (R12). -/
theorem clearIfConditional_revokeAuthorization (s : State) (p : Port) :
    s.clearIfConditional p .revokeAuthorization = s :=
  clearIfConditional_of_not rfl s p

/-- REVOKE AUTHORIZATION from a lane port is NOT_PERMITTED. -/
theorem exec_revokeAuthorization_of_lanePort {p : Port} {s : State} (free : s.free p = true)
    (lanePort : p.isTerminal = false) (tag : Byte) (id : Word16) :
    exec (.revokeAuthorization p tag id) s =
      .next (s.answered p .revokeAuthorization tag (refused .notPermitted)) := by
  have forbidden := (mayIssue_revokeAuthorization p).trans lanePort
  rw [exec_revokeAuthorization, takeRequest_forbidden free forbidden, clearIfConditional_revokeAuthorization]

/-- REVOKE AUTHORIZATION of a queued id from a terminal port. -/
theorem exec_revokeAuthorization_of_queued {p : Port} {s : State} {id : Word16} {l : Fin 4} (free : s.free p = true)
    (terminal : p.isTerminal = true) (queued : s.laneOfId id.toNat = some l) (tag : Byte) :
    exec (.revokeAuthorization p tag id) s =
      .next ((s.removeId l id.toNat).answered p .revokeAuthorization tag (okay (.revoked id.toNat l))) := by
  have permitted := (mayIssue_revokeAuthorization p).trans terminal
  have effect : State.authorizationRevoked id (s.accept p ReqCode.revokeAuthorization.toByte tag) =
      ((s.removeId l id.toNat).accept p ReqCode.revokeAuthorization.toByte tag, some (okay (.revoked id.toNat l))) := by
    rw [State.authorizationRevoked_of_laneOfId_some ((s.laneOfId_accept p _ tag _).trans queued), State.removeId_accept]
    rfl
  rw [exec_revokeAuthorization, takeRequest_answered free permitted effect, clearIfConditional_revokeAuthorization]

/-- REVOKE AUTHORIZATION of an id that is queued nowhere, from a terminal port. -/
theorem exec_revokeAuthorization_of_not_queued {p : Port} {s : State} {id : Word16} (free : s.free p = true)
    (terminal : p.isTerminal = true) (absent : s.laneOfId id.toNat = none) (tag : Byte) :
    exec (.revokeAuthorization p tag id) s =
      .next (s.answered p .revokeAuthorization tag (refused .noSuch)) := by
  have permitted := (mayIssue_revokeAuthorization p).trans terminal
  have effect := State.authorizationRevoked_of_laneOfId_none
    ((s.laneOfId_accept p ReqCode.revokeAuthorization.toByte tag _).trans absent)
  rw [exec_revokeAuthorization, takeRequest_unchanged free permitted effect, clearIfConditional_revokeAuthorization]

/-- Settles O17: the Port Unit's check of the class, then the lane that the scan finds for the id. -/
theorem revokeRemoves : Obligations.RevokeRemoves := by
  unfold Obligations.RevokeRemoves
  intro p tag id s free
  refine ⟨fun lanePort => ?notPermitted, fun l terminal held alone => ?removed, fun terminal absent => ?noSuch⟩
  case notPermitted => exact exec_revokeAuthorization_of_lanePort free lanePort tag id
  case removed =>
    exact exec_revokeAuthorization_of_queued free terminal (State.laneOfId_eq_some_of_unique held alone) tag
  case noSuch =>
    exact exec_revokeAuthorization_of_not_queued free terminal (State.laneOfId_eq_none_iff.mpr absent) tag

end Sys2Proof.Machine
end

section
/-! PROOFS. The trace windows: how a pointer advances (R179), and what TRACE WINDOW checks and sets (R177). -/

namespace Sys2Proof.Machine

namespace TraceWindow

variable {w : TraceWindow}

/-! ## The next page and the next column (R179) -/

/-- Below the page end the next page is the one after the pointer's. -/
theorem nextPage_of_lt (h : w.pointerPage < w.pageEnd) : w.nextPage = w.pointerPage + 1 :=
  if_neg (Nat.not_le.mpr h)

/-- At the page end the next page is the page start. -/
theorem nextPage_of_eq (h : w.pointerPage = w.pageEnd) : w.nextPage = w.pageStart :=
  if_pos h.ge

/-- Below the column end the next column is the one after the pointer's. -/
theorem nextColumn_of_lt (h : w.pointerColumn < w.columnEnd) : w.nextColumn = w.pointerColumn + 1 :=
  if_neg (Nat.not_le.mpr h)

/-- At the column end the next column is the column start. -/
theorem nextColumn_of_eq (h : w.pointerColumn = w.columnEnd) : w.nextColumn = w.columnStart :=
  if_pos h.ge

/-- A pointer inside its window advances round the page range. -/
theorem nextPage_of_inside (h : w.inside) :
    w.nextPage = if w.pointerPage = w.pageEnd then w.pageStart else w.pointerPage + 1 := by
  obtain ⟨-, hPage, -, -⟩ := h
  split
  case isTrue atEnd => exact nextPage_of_eq atEnd
  case isFalse before => exact nextPage_of_lt (Nat.lt_of_le_of_ne hPage before)

/-- A pointer inside its window advances round the column range. -/
theorem nextColumn_of_inside (h : w.inside) :
    w.nextColumn = if w.pointerColumn = w.columnEnd then w.columnStart else w.pointerColumn + 1 := by
  obtain ⟨-, -, -, hColumn⟩ := h
  split
  case isTrue atEnd => exact nextColumn_of_eq atEnd
  case isFalse before => exact nextColumn_of_lt (Nat.lt_of_le_of_ne hColumn before)

/-- The next page lies in the page range. -/
theorem nextPage_mem_range (h : w.inside) : w.pageStart ≤ w.nextPage ∧ w.nextPage ≤ w.pageEnd := by
  rw [nextPage_of_inside h]
  obtain ⟨hStart, hEnd, -, -⟩ := h
  split <;> omega

/-- The next column lies in the column range. -/
theorem nextColumn_mem_range (h : w.inside) : w.columnStart ≤ w.nextColumn ∧ w.nextColumn ≤ w.columnEnd := by
  rw [nextColumn_of_inside h]
  obtain ⟨-, -, hStart, hEnd⟩ := h
  split <;> omega

/-- A range of one page has no other next page. -/
theorem nextPage_of_one_page (h : w.inside) (one : w.pageStart = w.pageEnd) : w.nextPage = w.pointerPage := by
  obtain ⟨hStart, hEnd⟩ := nextPage_mem_range h
  obtain ⟨hStart', hEnd', -, -⟩ := h
  omega

/-- A range of one column has no other next column. -/
theorem nextColumn_of_one_column (h : w.inside) (one : w.columnStart = w.columnEnd) :
    w.nextColumn = w.pointerColumn := by
  obtain ⟨hStart, hEnd⟩ := nextColumn_mem_range h
  obtain ⟨-, -, hStart', hEnd'⟩ := h
  omega

/-! ## The advance, mode by mode -/

/-- PAGE moves the column alone. -/
theorem advance_of_page (h : w.mode = .page) : w.advance = { w with pointerColumn := w.nextColumn } := by
  simp only [advance, h]

/-- ACROSS below the column end moves the column alone. -/
theorem advance_of_across_of_lt (h : w.mode = .across) (before : w.pointerColumn < w.columnEnd) :
    w.advance = { w with pointerColumn := w.nextColumn } := by
  simp only [advance, h, if_neg (Nat.not_le.mpr before)]

/-- ACROSS at the column end moves both. -/
theorem advance_of_across_of_eq (h : w.mode = .across) (atEnd : w.pointerColumn = w.columnEnd) :
    w.advance = { w with pointerPage := w.nextPage, pointerColumn := w.nextColumn } := by
  simp only [advance, h, if_pos atEnd.ge]

/-- DOWN below the page end moves the page alone. -/
theorem advance_of_down_of_lt (h : w.mode = .down) (before : w.pointerPage < w.pageEnd) :
    w.advance = { w with pointerPage := w.nextPage } := by
  simp only [advance, h, if_neg (Nat.not_le.mpr before)]

/-- DOWN at the page end moves both. -/
theorem advance_of_down_of_eq (h : w.mode = .down) (atEnd : w.pointerPage = w.pageEnd) :
    w.advance = { w with pointerPage := w.nextPage, pointerColumn := w.nextColumn } := by
  simp only [advance, h, if_pos atEnd.ge]

/-- The modes of a window are the three of R193. -/
theorem mode_cases (w : TraceWindow) : w.mode = .page ∨ w.mode = .across ∨ w.mode = .down := by
  cases w.mode <;> simp

/-- In every mode, each of the pointer's two parts stays or takes its next value, and nothing else moves. -/
theorem advance_cases (h : w.inside) :
    ∃ page column, (page = w.pointerPage ∨ page = w.nextPage) ∧
      (column = w.pointerColumn ∨ column = w.nextColumn) ∧
      w.advance = { w with pointerPage := page, pointerColumn := column } := by
  obtain ⟨-, hPage, -, hColumn⟩ := h
  obtain mode | mode | mode := w.mode_cases
  · exact ⟨_, _, .inl rfl, .inr rfl, advance_of_page mode⟩
  · rcases hColumn.lt_or_eq with before | atEnd
    · exact ⟨_, _, .inl rfl, .inr rfl, advance_of_across_of_lt mode before⟩
    · exact ⟨_, _, .inr rfl, .inr rfl, advance_of_across_of_eq mode atEnd⟩
  · rcases hPage.lt_or_eq with before | atEnd
    · exact ⟨_, _, .inr rfl, .inl rfl, advance_of_down_of_lt mode before⟩
    · exact ⟨_, _, .inr rfl, .inr rfl, advance_of_down_of_eq mode atEnd⟩

/-! ## What every mode keeps -/

/-- The advance keeps the pointer within the ranges. -/
theorem advance_inside (h : w.inside) : w.advance.inside := by
  obtain ⟨page, column, hPage, hColumn, moved⟩ := advance_cases h
  obtain ⟨nextPageLow, nextPageHigh⟩ := nextPage_mem_range h
  obtain ⟨nextColumnLow, nextColumnHigh⟩ := nextColumn_mem_range h
  obtain ⟨pageLow, pageHigh, columnLow, columnHigh⟩ := h
  rw [moved]
  refine ⟨?_, ?_, ?_, ?_⟩ <;> dsimp only <;> omega

/-- The advance leaves the mode and the ranges, for every window. -/
theorem advance_keeps_ranges (w : TraceWindow) :
    w.advance.mode = w.mode ∧ w.advance.pageStart = w.pageStart ∧ w.advance.pageEnd = w.pageEnd ∧
      w.advance.columnStart = w.columnStart ∧ w.advance.columnEnd = w.columnEnd := by
  unfold advance
  split <;> exact ⟨rfl, rfl, rfl, rfl, rfl⟩

/-- A window of one page and one column leaves the pointer where it is. -/
theorem advance_of_one_cell (h : w.inside) (onePage : w.pageStart = w.pageEnd)
    (oneColumn : w.columnStart = w.columnEnd) : w.advance = w := by
  obtain ⟨page, column, hPage, hColumn, moved⟩ := advance_cases h
  rw [nextPage_of_one_page h onePage, or_self] at hPage
  rw [nextColumn_of_one_column h oneColumn, or_self] at hColumn
  rw [moved, hPage, hColumn]

end TraceWindow

/-- Settles O51: each mode's table from the advance of that mode, what all modes share from `advance_cases`. -/
theorem pointerAdvance : Obligations.PointerAdvance := by
  unfold Obligations.PointerAdvance
  intro w h
  have ⟨_, pageHigh, _, columnHigh⟩ := h
  refine ⟨w.advance_inside h, w.advance_keeps_ranges, fun mode => ?page,
    fun mode => ⟨fun before => ?acrossWithin, fun atEnd => ?acrossEnd⟩,
    fun mode => ⟨fun before => ?downWithin, fun atEnd => ?downEnd⟩, w.advance_of_one_cell h⟩
  case page =>
    rw [TraceWindow.advance_of_page mode]
    exact ⟨rfl, TraceWindow.nextColumn_of_inside h⟩
  case acrossWithin =>
    have below := Nat.lt_of_le_of_ne columnHigh before
    rw [TraceWindow.advance_of_across_of_lt mode below]
    exact ⟨TraceWindow.nextColumn_of_lt below, rfl⟩
  case acrossEnd =>
    rw [TraceWindow.advance_of_across_of_eq mode atEnd]
    exact ⟨TraceWindow.nextColumn_of_eq atEnd, TraceWindow.nextPage_of_inside h⟩
  case downWithin =>
    have below := Nat.lt_of_le_of_ne pageHigh before
    rw [TraceWindow.advance_of_down_of_lt mode below]
    exact ⟨TraceWindow.nextPage_of_lt below, rfl⟩
  case downEnd =>
    rw [TraceWindow.advance_of_down_of_eq mode atEnd]
    exact ⟨TraceWindow.nextPage_of_eq atEnd, TraceWindow.nextColumn_of_inside h⟩

/-! ## The parameters of TRACE WINDOW (R177) -/

/-- A mode byte above 2 names no mode (R193). -/
theorem traceModeOf_eq_none {b : Byte} (h : 2 < b.toNat) : traceModeOf b = none := by
  obtain ⟨k, hk⟩ : ∃ k, b.toNat = k + 3 := ⟨b.toNat - 3, by omega⟩
  simp only [traceModeOf, hk]

/-- A mode byte up to 2 names a mode (R193). -/
theorem exists_traceModeOf_eq_some {b : Byte} (h : b.toNat ≤ 2) : ∃ m, traceModeOf b = some m := by
  obtain zero | one | two : b.toNat = 0 ∨ b.toNat = 1 ∨ b.toNat = 2 := by omega
  · exact ⟨.page, by simp only [traceModeOf, zero]⟩
  · exact ⟨.across, by simp only [traceModeOf, one]⟩
  · exact ⟨.down, by simp only [traceModeOf, two]⟩

/-- The mode that each of the three bytes names (R193). -/
theorem traceModeOf_eq_some {b : Byte} {m : TraceMode}
    (named : (b = 0#8 ∧ m = .page) ∨ (b = 1#8 ∧ m = .across) ∨ (b = 2#8 ∧ m = .down)) :
    traceModeOf b = some m := by
  obtain ⟨rfl, rfl⟩ | ⟨rfl, rfl⟩ | ⟨rfl, rfl⟩ := named
  · rfl
  · rfl
  · rfl

/-- A value lies in a range exactly when it is neither below nor above it. -/
theorem inRange_eq_true_iff {lo hi x : Nat} : inRange lo hi x = true ↔ lo ≤ x ∧ x ≤ hi := by
  simp [inRange]

/-- A value lies outside a range exactly when it is below or above it. -/
theorem inRange_eq_false_iff {lo hi x : Nat} : inRange lo hi x = false ↔ x < lo ∨ hi < x := by
  rw [← Bool.not_eq_true, inRange_eq_true_iff]
  omega

namespace State

section

variable {mode pageStart pageEnd columnStart columnEnd : Byte} (p : Port) (s : State)

/-- A mode byte that names no mode is refused with parameter 1. -/
theorem windowSet_of_mode_none (bad : traceModeOf mode = none) :
    windowSet p mode pageStart pageEnd columnStart columnEnd s = answer s (badFieldAt 1) := by
  simp only [windowSet, bad]
  rfl

variable {m : TraceMode} (known : traceModeOf mode = some m)
include known

/-- A page start that is no page is refused with parameter 2. -/
theorem windowSet_of_pageStart_outside (bad : inRange 0 7 pageStart.toNat = false) :
    windowSet p mode pageStart pageEnd columnStart columnEnd s = answer s (badFieldAt 2) := by
  simp only [windowSet, known, if_pos bad]
  rfl

variable (firstPage : inRange 0 7 pageStart.toNat = true)
include firstPage

/-- A page end below the page start or beyond the last page is refused with parameter 3. -/
theorem windowSet_of_pageEnd_outside (bad : inRange pageStart.toNat 7 pageEnd.toNat = false) :
    windowSet p mode pageStart pageEnd columnStart columnEnd s = answer s (badFieldAt 3) := by
  simp only [windowSet, known, firstPage, Bool.true_eq_false, if_false, if_pos bad]
  rfl

variable (lastPage : inRange pageStart.toNat 7 pageEnd.toNat = true)
include lastPage

/-- A column start that is no column is refused with parameter 4. -/
theorem windowSet_of_columnStart_outside (bad : inRange 0 63 columnStart.toNat = false) :
    windowSet p mode pageStart pageEnd columnStart columnEnd s = answer s (badFieldAt 4) := by
  simp only [windowSet, known, firstPage, lastPage, Bool.true_eq_false, if_false, if_pos bad]
  rfl

variable (firstColumn : inRange 0 63 columnStart.toNat = true)
include firstColumn

/-- A column end below the column start or beyond the last column is refused with parameter 5. -/
theorem windowSet_of_columnEnd_outside (bad : inRange columnStart.toNat 63 columnEnd.toNat = false) :
    windowSet p mode pageStart pageEnd columnStart columnEnd s = answer s (badFieldAt 5) := by
  simp only [windowSet, known, firstPage, lastPage, firstColumn, Bool.true_eq_false, if_false, if_pos bad]
  rfl

/-- Parameters that pass every check give the port their window, its pointer at the two starts. -/
theorem windowSet_of_inRange (lastColumn : inRange columnStart.toNat 63 columnEnd.toNat = true) {w : TraceWindow}
    (hw : w = { mode := m, pageStart := pageStart.toNat, pageEnd := pageEnd.toNat,
                columnStart := columnStart.toNat, columnEnd := columnEnd.toNat,
                pointerPage := pageStart.toNat, pointerColumn := columnStart.toNat }) :
    windowSet p mode pageStart pageEnd columnStart columnEnd s =
      answer (s.modPort p fun x => { x with window := w }) (okay (.window w)) := by
  subst hw
  simp only [windowSet, known, firstPage, lastPage, firstColumn, lastColumn, Bool.true_eq_false, if_false]
  rfl

end

/-- Setting the read window passes the taking of a request. -/
theorem accept_setWindow (s : State) (p : Port) (c t : Byte) (w : TraceWindow) :
    ((s.accept p c t).modPort p fun x => { x with window := w }) =
      (s.modPort p fun x => { x with window := w }).accept p c t := by
  simp only [accept, modPort_modPort]

end State

/-! ## The command -/

/-- What TRACE_WINDOW runs. -/
theorem exec_traceWindow (p : Port) (tag mode pageStart pageEnd columnStart columnEnd : Byte) (s : State) :
    exec (.traceWindow p tag mode pageStart pageEnd columnStart columnEnd) s =
      .next (s.takeRequest p .traceWindow tag
        (State.windowSet p mode pageStart pageEnd columnStart columnEnd)) := rfl

/-- Every port may issue TRACE WINDOW (R185). -/
theorem mayIssue_traceWindow (p : Port) : p.mayIssue .traceWindow = true := rfl

/-- TRACE WINDOW is not conditional: it leaves the port's link (R12). -/
theorem clearIfConditional_traceWindow (s : State) (p : Port) : s.clearIfConditional p .traceWindow = s :=
  clearIfConditional_of_not rfl s p

section

variable {p : Port} {mode pageStart pageEnd columnStart columnEnd : Byte} {s : State} (free : s.free p = true)
  (tag : Byte)
include free

/-- A TRACE WINDOW whose checks refuse it leaves everything but the port's answer. -/
theorem exec_traceWindow_of_refused {r : Response}
    (refusal : ∀ t, State.windowSet p mode pageStart pageEnd columnStart columnEnd t = answer t r) :
    exec (.traceWindow p tag mode pageStart pageEnd columnStart columnEnd) s =
      .next (s.answered p .traceWindow tag r) := by
  rw [exec_traceWindow, takeRequest_unchanged free (mayIssue_traceWindow p) (refusal _),
    clearIfConditional_traceWindow]

/-- A TRACE WINDOW whose checks pass sets the port's window and answers with it. -/
theorem exec_traceWindow_of_accepted {w : TraceWindow}
    (acceptance : ∀ t, State.windowSet p mode pageStart pageEnd columnStart columnEnd t =
      answer (t.modPort p fun x => { x with window := w }) (okay (.window w))) :
    exec (.traceWindow p tag mode pageStart pageEnd columnStart columnEnd) s =
      .next ((s.modPort p fun x => { x with window := w }).answered p .traceWindow tag (okay (.window w))) := by
  have effect := (acceptance (s.accept p ReqCode.traceWindow.toByte tag)).trans
    (congrArg (answer · (okay (.window w))) (s.accept_setWindow p _ tag w))
  rw [exec_traceWindow, takeRequest_answered free (mayIssue_traceWindow p) effect, clearIfConditional_traceWindow]

end

/-- Settles O49: one refusal of the checks for each parameter in ascending number, then the acceptance. -/
theorem traceWindowSets : Obligations.TraceWindowSets := by
  unfold Obligations.TraceWindowSets
  intro p tag mode pageStart pageEnd columnStart columnEnd s free
  refine ⟨fun badMode => ?mode, fun goodMode bad => ?pageStart, fun goodMode start bad => ?pageEnd,
    fun goodMode pages pageHigh bad => ?columnStart, fun goodMode pages pageHigh start bad => ?columnEnd,
    fun m named pages pageHigh columns columnHigh w hw => ?accepted⟩
  case mode =>
    exact exec_traceWindow_of_refused free tag
      fun t => t.windowSet_of_mode_none p (traceModeOf_eq_none badMode)
  case pageStart =>
    obtain ⟨m, known⟩ := exists_traceModeOf_eq_some goodMode
    exact exec_traceWindow_of_refused free tag
      fun t => t.windowSet_of_pageStart_outside p known (inRange_eq_false_iff.mpr (.inr bad))
  case pageEnd =>
    obtain ⟨m, known⟩ := exists_traceModeOf_eq_some goodMode
    have firstPage := inRange_eq_true_iff.mpr ⟨pageStart.toNat.zero_le, start⟩
    exact exec_traceWindow_of_refused free tag
      fun t => t.windowSet_of_pageEnd_outside p known firstPage (inRange_eq_false_iff.mpr bad)
  case columnStart =>
    obtain ⟨m, known⟩ := exists_traceModeOf_eq_some goodMode
    have firstPage := inRange_eq_true_iff.mpr ⟨pageStart.toNat.zero_le, pages.trans pageHigh⟩
    have lastPage := inRange_eq_true_iff.mpr ⟨pages, pageHigh⟩
    exact exec_traceWindow_of_refused free tag
      fun t => t.windowSet_of_columnStart_outside p known firstPage lastPage (inRange_eq_false_iff.mpr (.inr bad))
  case columnEnd =>
    obtain ⟨m, known⟩ := exists_traceModeOf_eq_some goodMode
    have firstPage := inRange_eq_true_iff.mpr ⟨pageStart.toNat.zero_le, pages.trans pageHigh⟩
    have lastPage := inRange_eq_true_iff.mpr ⟨pages, pageHigh⟩
    have firstColumn := inRange_eq_true_iff.mpr ⟨columnStart.toNat.zero_le, start⟩
    exact exec_traceWindow_of_refused free tag
      fun t => t.windowSet_of_columnEnd_outside p known firstPage lastPage firstColumn (inRange_eq_false_iff.mpr bad)
  case accepted =>
    have known := traceModeOf_eq_some named
    have firstPage := inRange_eq_true_iff.mpr ⟨pageStart.toNat.zero_le, pages.trans pageHigh⟩
    have lastPage := inRange_eq_true_iff.mpr ⟨pages, pageHigh⟩
    have firstColumn := inRange_eq_true_iff.mpr ⟨columnStart.toNat.zero_le, columns.trans columnHigh⟩
    have lastColumn := inRange_eq_true_iff.mpr ⟨columns, columnHigh⟩
    exact exec_traceWindow_of_accepted free tag
      fun t => t.windowSet_of_inRange p known firstPage lastPage firstColumn lastColumn hw

end Sys2Proof.Machine
end

section
/-! PROOFS. READ STATUS: the view it answers with, item by item, and that it leaves everything else (R190). -/

namespace Sys2Proof.Machine

namespace State

/-! ## The view of the whole controller (R190) -/

/-- The scan of the stations visits each at the place of its number. -/
theorem allStations_getElem (i : Nat) (h : i < allStations.length) : allStations[i] = ⟨i, h⟩ :=
  (by decide : ∀ k : Fin 4, allStations[k.val] = k) ⟨i, h⟩

/-- The stations in the order of their storage are those in ascending number. -/
theorem stations_toList (s : State) : s.stations.toList = allStations.map s.station := by
  refine List.ext_getElem (by simp [allStations]) fun i inStore inScan => ?_
  rw [List.getElem_map, allStations_getElem, Vector.getElem_toList]
  rfl

/-- The view shows every station in ascending number. -/
theorem statusView_stations (s : State) :
    s.statusView.stations = allStations.map fun st => stationView (s.station st) := by
  change s.stations.toList.map stationView = _
  rw [stations_toList, List.map_map]
  rfl

/-- The view shows each channel's condition at its place. -/
theorem statusView_probes_getElem? (s : State) (c : Fin 16) :
    s.statusView.probes[c.val]? = some (s.probe c).condition := by
  have stored : s.probes.toList[c.val]? = some (s.probe c) := by simp [probe]
  change (s.probes.toList.map Probe.condition)[c.val]? = _
  rw [List.getElem?_map, stored, Option.map_some]

/-- The view shows each meter's stray counter at its place. -/
theorem statusView_stray_getElem? (s : State) (m : Fin 16) :
    s.statusView.stray[m.val]? = some (s.meter m).stray := by
  have stored : s.meters.toList[m.val]? = some (s.meter m) := by simp [meter]
  change (s.meters.toList.map Meter.stray)[m.val]? = _
  rw [List.getElem?_map, stored, Option.map_some]

/-- The view shows nothing of the ports: it is the same once a request has been taken. -/
theorem statusView_accept (s : State) (p : Port) (c t : Byte) : (s.accept p c t).statusView = s.statusView := rfl

/-- READ STATUS past the Port Unit shows the view and changes nothing. -/
theorem statusRead_eq_answer (s : State) : s.statusRead = answer s (okay (.status s.statusView)) := rfl

end State

/-! ## The command -/

/-- What READ_STATUS runs. -/
theorem exec_readStatus (p : Port) (tag : Byte) (s : State) :
    exec (.readStatus p tag) s = .next (s.takeRequest p .readStatus tag State.statusRead) := rfl

/-- Every port may issue READ STATUS (R185). -/
theorem mayIssue_readStatus (p : Port) : p.mayIssue .readStatus = true := rfl

/-- READ STATUS is not conditional: it leaves the port's link (R12). -/
theorem clearIfConditional_readStatus (s : State) (p : Port) : s.clearIfConditional p .readStatus = s :=
  clearIfConditional_of_not rfl s p

/-- READ STATUS at a free port is answered with the view of the state before it, and only the port's answer changes. -/
theorem exec_readStatus_of_free {p : Port} {s : State} (free : s.free p = true) (tag : Byte) :
    exec (.readStatus p tag) s = .next (s.answered p .readStatus tag (okay (.status s.statusView))) := by
  have effect : State.statusRead (s.accept p ReqCode.readStatus.toByte tag) =
      answer (s.accept p ReqCode.readStatus.toByte tag) (okay (.status s.statusView)) := by
    rw [State.statusRead_eq_answer, State.statusView_accept]
  rw [exec_readStatus, takeRequest_unchanged free (mayIssue_readStatus p) effect, clearIfConditional_readStatus]

/-- Settles O9: the answer carries the view of the state; the stations, the channels and the stray counters, which it
reads from storage, by their lemmas, and each other item as the view names it. -/
theorem readStatusShowsState : Obligations.ReadStatusShowsState := by
  unfold Obligations.ReadStatusShowsState
  intro p tag s free
  refine ⟨s.statusView, exec_readStatus_of_free free tag, ?items⟩
  case items =>
    exact ⟨rfl, rfl, rfl, rfl, rfl, rfl, s.statusView_stations, s.statusView_probes_getElem?,
      s.statusView_stray_getElem?, rfl, rfl, rfl⟩

end Sys2Proof.Machine
end

section
/-! PROOFS. The changes that a command makes to one item: what each of them keeps of the invariants, said once for a port,
a load, an arm, a meter and a trace page. -/

namespace Sys2Proof.Machine

/-- Every arm is among the arms. -/
theorem mem_allArms (a : Fin 8) : a ∈ allArms := by
  revert a
  decide

/-! ## The items at power-on -/

section PowerOn

variable (x : Trips)

@[simp] theorem powerOn_arm (a : Fin 8) : (State.powerOn x).arm a = Arm.reset := Vector.getElem_replicate ..

@[simp] theorem powerOn_load? (a : Fin 8) : (State.powerOn x).load? a = none := by simp [State.load?, Arm.reset]

@[simp] theorem powerOn_meter (m : Fin 16) : (State.powerOn x).meter m = Meter.reset := Vector.getElem_replicate ..

@[simp] theorem powerOn_probe (c : Fin 16) : (State.powerOn x).probe c = Probe.reset := Vector.getElem_replicate ..

@[simp] theorem powerOn_station (st : Fin 4) : (State.powerOn x).station st = Station.reset := Vector.getElem_replicate ..

@[simp] theorem powerOn_slot (k : Fin 32) : (State.powerOn x).slot k = RecipeSlot.reset := Vector.getElem_replicate ..

@[simp] theorem powerOn_queue (l : Fin 4) : (State.powerOn x).queue l = [] := Vector.getElem_replicate ..

@[simp] theorem powerOn_page (a : Fin 8) : (State.powerOn x).page a = TracePage.reset := Vector.getElem_replicate ..

@[simp] theorem powerOn_port (p : Port) : (State.powerOn x).port p = PortState.reset (classFlags p) := by
  cases p with
  | ta => rfl
  | tb => rfl
  | lp l => fin_cases l <;> rfl

end PowerOn

/-! ## Ports -/

/-- A change of a port that keeps the attention line right, the flags within the class and the pointer in its window. -/
structure PortMove (p : Port) (x y : PortState) : Prop where
  attention : x.attention = attentionOf x.flags x.mask → y.attention = attentionOf y.flags y.mask
  flags : x.flags &&& ~~~(classFlags p) = 0#16 → y.flags &&& ~~~(classFlags p) = 0#16
  mask : x.mask &&& ~~~(classFlags p) = 0#16 → y.mask &&& ~~~(classFlags p) = 0#16
  window : x.window.inside → y.window.inside

/-- A change of a port's receive state, answer and link alone. -/
theorem PortMove.of_same {p : Port} {x y : PortState} (flags : y.flags = x.flags) (mask : y.mask = x.mask)
    (attention : y.attention = x.attention) (window : y.window = x.window) : PortMove p x y where
  attention h := by rw [attention, flags, mask, h]
  flags h := by rw [flags, h]
  mask h := by rw [mask, h]
  window h := by rw [window]; exact h

/-- A change of a port's read window alone. -/
theorem PortMove.of_window {p : Port} {x : PortState} {w : TraceWindow} (h : x.window.inside → w.inside) :
    PortMove p x { x with window := w } := ⟨id, id, id, h⟩

/-- Two sets within a class are together within it. -/
theorem or_within_class {c x y : Word16} (hx : x &&& ~~~c = 0#16) (hy : y &&& ~~~c = 0#16) :
    (x ||| y) &&& ~~~c = 0#16 := by
  have split : (x ||| y) &&& ~~~c = (x &&& ~~~c) ||| (y &&& ~~~c) := by
    ext i
    simp only [BitVec.getElem_and, BitVec.getElem_or, BitVec.getElem_not]
    cases x[i] <;> cases y[i] <;> simp
  rw [split, hx, hy, BitVec.or_zero]

/-- A part of a set within a class is within it. -/
theorem and_within_class {c x : Word16} (y : Word16) (hx : x &&& ~~~c = 0#16) : (x &&& y) &&& ~~~c = 0#16 := by
  rw [BitVec.and_assoc, BitVec.and_comm y, ← BitVec.and_assoc, hx, BitVec.zero_and]

/-- New flags within the class, the line following them. -/
theorem PortMove.withFlags {p : Port} {x : PortState} {w : Word16}
    (h : x.flags &&& ~~~(classFlags p) = 0#16 → w &&& ~~~(classFlags p) = 0#16) : PortMove p x (x.withFlags w) :=
  ⟨fun _ => rfl, h, id, id⟩

/-- A new mask within the class, the line following it. -/
theorem PortMove.withMask {p : Port} {x : PortState} {w : Word16} (h : w &&& ~~~(classFlags p) = 0#16) :
    PortMove p x (x.withMask w) := ⟨fun _ => rfl, id, fun _ => h, id⟩

/-- A notice that the port's class holds is raised. -/
theorem PortMove.raise {p : Port} {n : Notice} (h : n.set &&& ~~~(classFlags p) = 0#16) (x : PortState) :
    PortMove p x (x.raise n) := .withFlags fun hx => or_within_class hx h

/-! ## Additive lines -/

namespace LineRecord

/-- A shot that falls due and is queued keeps the sum of a line. -/
theorem balanced_fallDue {c : LineRecord} (h : c.balanced) : c.fallDue.balanced := by
  simp only [balanced, fallDue] at h ⊢; omega

/-- A shot that falls due and is missed keeps the sum of a line. -/
theorem balanced_fallMissed {c : LineRecord} (h : c.balanced) : c.fallMissed.balanced := by
  simp only [balanced, fallMissed] at h ⊢; omega

/-- Owed shots that become missed keep the sum of a line. -/
theorem balanced_miss {c : LineRecord} (n : Nat) (h : c.balanced) : (c.miss n).balanced := by
  simp only [balanced, miss] at h ⊢; omega

/-- An owed shot that is delivered keeps the sum of a line. -/
theorem balanced_deliver {c : LineRecord} (v : Nat) (h : c.balanced) : (c.deliver v).balanced := by
  simp only [balanced, deliver] at h ⊢; omega

/-- An owed shot that is left unconfirmed keeps the sum of a line. -/
theorem balanced_unconfirm {c : LineRecord} (h : c.balanced) : c.unconfirm.balanced := by
  simp only [balanced, unconfirm] at h ⊢; omega

end LineRecord

/-! ## Loads -/

/-- A change of an active load that keeps its recipe and the sums of its record. -/
structure LoadMove (l m : Load) : Prop where
  recipe : m.recipe = l.recipe
  volumes : l.data.volumesAdd → m.data.volumesAdd
  lines : (∀ x ∈ l.lines, x.counts.balanced) → ∀ x ∈ m.lines, x.counts.balanced

namespace LoadMove

/-- A change that leaves recipe, volumes and lines. -/
theorem of_same {l m : Load} (recipe : m.recipe = l.recipe) (product : m.data.product = l.data.product)
    (gasoline : m.data.gasoline = l.data.gasoline) (ethanol : m.data.ethanol = l.data.ethanol)
    (lines : m.lines = l.lines) : LoadMove l m where
  recipe := recipe
  volumes h := by simp only [LoadData.volumesAdd, product, gasoline, ethanol]; exact h
  lines h := by rw [lines]; exact h

/-- No change. -/
theorem refl (l : Load) : LoadMove l l := ⟨rfl, id, id⟩

/-- Two changes in a row. -/
theorem trans {l m n : Load} (h : LoadMove l m) (k : LoadMove m n) : LoadMove l n :=
  ⟨k.recipe.trans h.recipe, k.volumes ∘ h.volumes, k.lines ∘ h.lines⟩

/-- A change of the lines alone, each by a function that keeps a line's sum. -/
theorem of_lines {l m : Load} (recipe : m.recipe = l.recipe) (data : m.data = l.data)
    (lines : ∀ y ∈ m.lines, ∃ x ∈ l.lines, x.counts.balanced → y.counts.balanced) : LoadMove l m where
  recipe := recipe
  volumes h := by rw [data]; exact h
  lines h y hy := by
    obtain ⟨x, hx, keeps⟩ := lines y hy
    exact keeps (h x hx)

/-- An amendment. -/
theorem amend (l : Load) (p : Nat) : LoadMove l (l.amend p) := of_same rfl rfl rfl rfl rfl

/-- A pending amendment, applied. -/
theorem applyPending (l : Load) : LoadMove l l.applyPending := by
  unfold Load.applyPending
  split
  · exact refl l
  · exact amend l _

/-- The flush end of an amendment. -/
theorem adjustFlushEnd (l : Load) : LoadMove l l.adjustFlushEnd := by
  unfold Load.adjustFlushEnd
  split
  · exact of_same rfl rfl rfl rfl rfl
  · exact of_same rfl rfl rfl rfl rfl
  · exact refl l
  · exact refl l

/-- An end status due. -/
theorem setDue (l : Load) (e : EndStatus) : LoadMove l (l.setDue e) := by
  unfold Load.setDue
  split
  · exact of_same rfl rfl rfl rfl rfl
  · exact refl l

/-- The load's part of an entry to FLUSH. -/
theorem flushed (l : Load) (k : FlushKind) : LoadMove l (l.flushed k) := by
  refine trans (trans ?_ (applyPending _)) (adjustFlushEnd _)
  exact of_same rfl rfl rfl rfl rfl

/-- The load's part of an entry to CLOSING. -/
theorem closed (l : Load) : LoadMove l l.closed := by
  refine trans ?_ (applyPending _)
  exact of_same rfl rfl rfl rfl rfl

/-- The load's part of an entry to HELD. -/
theorem heldFrom (l : Load) (r : ResumePhase) : LoadMove l (l.heldFrom r) := by
  refine trans ?_ (applyPending _)
  exact of_same rfl rfl rfl rfl rfl

/-- The load's part of step 1 of R42 at a trim point. -/
theorem atTrimPoint (l : Load) : LoadMove l l.atTrimPoint :=
  (applyPending l).trans (of_same rfl rfl rfl rfl rfl)

/-- A gross decilitre is counted. -/
theorem countGross (l : Load) (gas : Bool) : LoadMove l { l with data := l.data.countGross gas } where
  recipe := rfl
  volumes h := by
    simp only [LoadData.volumesAdd, LoadData.countGross] at h ⊢
    split
    · exact h
    · split
      · simp only; omega
      · simp only; omega
  lines := id

/-- Net decilitres are counted. -/
theorem countNet (l : Load) (gas : Bool) (n : Nat) (b : Bool) :
    LoadMove l { l with data := l.data.countNet gas n b } := by
  unfold LoadData.countNet
  split
  · exact of_same rfl rfl rfl rfl rfl
  · exact of_same rfl rfl rfl rfl rfl

/-- An overrun decilitre is counted. -/
theorem countOverrun (l : Load) : LoadMove l { l with data := l.data.countOverrun } := by
  unfold LoadData.countOverrun
  split
  · exact refl l
  · exact of_same rfl rfl rfl rfl rfl

/-- A checkpoint flag is set or cleared. -/
theorem setFlag (l : Load) (n : Fin 2) (b : Bool) : LoadMove l { l with data := l.data.setFlag n b } := by
  unfold LoadData.setFlag
  split
  · exact of_same rfl rfl rfl rfl rfl
  · exact of_same rfl rfl rfl rfl rfl

/-- One line is changed by a function that keeps its sum. -/
theorem modifyLine (l : Load) (i : Nat) {f : Line → Line} (hf : ∀ x : Line, x.counts.balanced → (f x).counts.balanced) :
    LoadMove l { l with lines := l.lines.modify i f } := by
  refine of_lines rfl rfl fun y hy => ?_
  obtain ⟨j, hj⟩ := List.mem_iff_getElem?.mp hy
  rw [List.getElem?_modify] at hj
  obtain ⟨x, hx, rfl⟩ := Option.map_eq_some_iff.mp hj
  refine ⟨x, List.mem_of_getElem? hx, fun hb => ?_⟩
  split
  · exact hf x hb
  · exact hb

/-- Every line is changed by a function that keeps its sum. -/
theorem mapLines (l : Load) {f : Line → Line} (hf : ∀ x : Line, x.counts.balanced → (f x).counts.balanced) :
    LoadMove l { l with lines := l.lines.map f } := by
  refine of_lines rfl rfl fun y hy => ?_
  obtain ⟨x, hx, rfl⟩ := List.mem_map.mp hy
  exact ⟨x, hx, hf x⟩

/-- Every line is changed, by its number, by a function that keeps its sum. -/
theorem mapIdxLines (l : Load) {f : Nat → Line → Line}
    (hf : ∀ i (x : Line), x.counts.balanced → (f i x).counts.balanced) :
    LoadMove l { l with lines := l.lines.mapIdx f } := by
  refine of_lines rfl rfl fun y hy => ?_
  obtain ⟨i, hi, rfl⟩ := List.mem_mapIdx.mp hy
  exact ⟨_, List.getElem_mem hi, hf i _⟩

end LoadMove

/-! ## Arms -/

/-- The arm is not IDLE, or has a load. With the invariant of R36 both say the same. -/
def Arm.Active (x : Arm) : Prop := x.state ≠ .idle ∨ x.load.isSome = true

/-- A change of an arm that keeps the valves shut where R37 has them shut and its load, if it has one, by a change of the
load; an arm that leaves its state is active and does not become IDLE. -/
structure ArmMove (x y : Arm) : Prop where
  valves : x.valvesRight → y.valvesRight
  stays : y.state = x.state ∨ (x.Active ∧ y.state ≠ .idle)
  load : ∃ g : Load → Load, y.load = x.load.map g ∧ ∀ l, LoadMove l (g l)

namespace ArmMove

/-- A change of the timers and the enable alone. -/
theorem of_same {x y : Arm} (state : y.state = x.state) (main : y.mainOpening = x.mainOpening)
    (ethanol : y.ethanolOpening = x.ethanolOpening) (load : y.load = x.load) : ArmMove x y where
  valves h := by simp only [Arm.valvesRight, state, main, ethanol]; exact h
  stays := .inl state
  load := ⟨id, by simp [load], LoadMove.refl⟩

/-- A change of the load alone. -/
theorem of_load (x : Arm) {g : Load → Load} (hg : ∀ l, LoadMove l (g l)) : ArmMove x { x with load := x.load.map g } :=
  ⟨id, .inl rfl, g, rfl, hg⟩

/-- An active arm enters a state, with its valves as R37 says, and its load is changed. -/
theorem enter {x y : Arm} (active : x.Active) (state : y.state ≠ .idle) (valves : y.valvesRight) {g : Load → Load}
    (load : y.load = x.load.map g) (hg : ∀ l, LoadMove l (g l)) : ArmMove x y :=
  ⟨fun _ => valves, .inr ⟨active, state⟩, g, load, hg⟩

/-- A change of an arm that keeps its state, with its valves as R37 says, and its load is changed. -/
theorem keepState {x y : Arm} (state : y.state = x.state) (valves : y.valvesRight) {g : Load → Load}
    (load : y.load = x.load.map g) (hg : ∀ l, LoadMove l (g l)) : ArmMove x y :=
  ⟨fun _ => valves, .inl state, g, load, hg⟩

/-- A change of an arm neither makes nor takes a load. -/
theorem load_isSome {x y : Arm} (h : ArmMove x y) : y.load.isSome = x.load.isSome := by
  obtain ⟨g, load, -⟩ := h.load
  rw [load, Option.isSome_map]

/-- What a load is after a change of its arm. -/
theorem load_eq_some {x y : Arm} (h : ArmMove x y) {m : Load} (hm : y.load = some m) :
    ∃ l, x.load = some l ∧ LoadMove l m := by
  obtain ⟨g, load, hg⟩ := h.load
  obtain ⟨l, hl, rfl⟩ := Option.map_eq_some_iff.mp (load.symm.trans hm)
  exact ⟨l, hl, hg l⟩

/-- An arm's load is there after a change. -/
theorem exists_load {x y : Arm} (h : ArmMove x y) {l : Load} (hl : x.load = some l) :
    ∃ m, y.load = some m ∧ LoadMove l m := by
  obtain ⟨g, load, hg⟩ := h.load
  exact ⟨g l, by rw [load, hl]; rfl, hg l⟩

end ArmMove

/-- The valves of an arm in a blending phase may stand anyhow. -/
theorem Arm.valvesRight_of_blending {x : Arm} (h : x.state.isBlending = true) : x.valvesRight := by
  refine ⟨fun hb => ?_, fun hf => ?_⟩
  · rw [h] at hb; exact absurd hb (by decide)
  · cases e : x.state <;> rw [e] at h hf <;> first
      | exact absurd h (by decide)
      | exact absurd hf (by decide)

/-- With the ethanol valve shut the main valve of a flowing arm may stand anyhow. -/
theorem Arm.valvesRight_of_flowing {x : Arm} (h : x.state.isFlowing = true) (shut : x.ethanolOpening = 0) :
    x.valvesRight :=
  ⟨fun _ => shut, fun hf => absurd (h.symm.trans hf) (by decide)⟩

/-- With both valves shut an arm may be in any state. -/
theorem Arm.valvesRight_of_shut {x : Arm} (main : x.mainOpening = 0) (ethanol : x.ethanolOpening = 0) :
    x.valvesRight := ⟨fun _ => ethanol, fun _ => main⟩

/-! ## Meters and trace pages -/

/-- A change of a meter that keeps its divider and remainder in their ranges, and silent a counter past the threshold. -/
structure MeterMove (threshold : Nat) (x y : Meter) : Prop where
  right : x.right → y.right
  silent : 1 ≤ threshold → (threshold ≤ x.stray → x.silent = true) → threshold ≤ y.stray → y.silent = true

/-- A change of a trace page that keeps it to 64 records. -/
def PageMove (g k : TracePage) : Prop := g.records.length ≤ Config.traceDepth → k.records.length ≤ Config.traceDepth

/-- Appending a record. -/
theorem PageMove.append (g : TracePage) (r : TraceRecord) : PageMove g (g.append r) := by
  intro h
  have depth : Config.traceDepth = 64 := rfl
  simp only [TracePage.append, List.length_append, List.length_singleton]
  by_cases room : g.records.length < Config.traceDepth
  · rw [if_pos room]; omega
  · rw [if_neg room, List.length_drop]; omega

end Sys2Proof.Machine
end

section
/-! PROOFS. The progress of loads, gone through once: a property kept by the changes that the header's bookkeeping tells
apart (an arm stays in its place, leaves the shares, is granted some, enters a blending phase, begins to wait) is kept by
every operation of Bus, Arms, Ticks, Stations, Loads, Holds and TripEvents. -/

namespace Sys2Proof.Machine

/-! ## The place of an arm at the Header Allocator (R104) -/

/-- What an arm's state says of it at the allocator. -/
inductive Place where
  | outside
  | blending
  | waiting
deriving DecidableEq

/-- The place of an arm state: a blending phase may hold a grant, SHARE_WAIT a place on the wait list. -/
def ArmState.place : ArmState → Place
  | .ramp => .blending
  | .full => .blending
  | .taper => .blending
  | .shareWait => .waiting
  | .idle => .outside
  | .prime => .outside
  | .flush => .outside
  | .held => .outside
  | .closing => .outside

/-- The blending place is that of the blending phases. -/
theorem ArmState.place_eq_blending_iff {x : ArmState} : x.place = .blending ↔ x.isBlending = true := by
  cases x <;> decide

/-- The waiting place is that of SHARE_WAIT. -/
theorem ArmState.place_eq_waiting_iff {x : ArmState} : x.place = .waiting ↔ x = .shareWait := by
  cases x <;> decide

namespace State

/-! ## Updates of one arm in a row -/

/-- Two updates of one arm are one. -/
theorem modArm_modArm (s : State) (a : Fin 8) (f g : Arm → Arm) :
    (s.modArm a f).modArm a g = s.modArm a fun x => g (f x) := by
  simp [modArm]

/-- An update of an arm and then of its load is one update of the arm. -/
theorem modArm_modLoad (s : State) (a : Fin 8) (f : Arm → Arm) (g : Load → Load) :
    (s.modArm a f).modLoad a g = s.modArm a fun x => { f x with load := (f x).load.map g } :=
  modArm_modArm s a f _

/-- An update of a load as one of its arm. -/
theorem modLoad_eq_modArm (s : State) (a : Fin 8) (g : Load → Load) :
    s.modLoad a g = s.modArm a fun x => { x with load := x.load.map g } := rfl

/-- An update of a load leaves every arm's state. -/
@[simp] theorem modLoad_arm_state (s : State) (a : Fin 8) (g : Load → Load) (b : Fin 8) :
    ((s.modLoad a g).arm b).state = (s.arm b).state := by
  by_cases h : b = a
  · subst h; simp [modLoad]
  · simp [modLoad, h]

/-- The load of an arm that is changed. -/
theorem load?_modArm_self (s : State) (a : Fin 8) (f : Arm → Arm) : (s.modArm a f).load? a = (f (s.arm a)).load := by
  simp [load?]

/-- A trace record leaves every arm. -/
@[simp] theorem appendTrace_arm (s : State) (a : Fin 8) (c : TraceCause) (b : Fin 8) :
    (s.appendTrace a c).arm b = s.arm b := by
  unfold appendTrace
  split <;> rfl

/-- An arm with a load is active. -/
theorem active_of_load {s : State} {a : Fin 8} {l : Load} (h : s.load? a = some l) : (s.arm a).Active :=
  .inr (by rw [show (s.arm a).load = some l from h]; rfl)

/-- A change of a load leaves the arms active that are. -/
theorem active_modLoad {s : State} {a : Fin 8} (b : Fin 8) (g : Load → Load) (h : (s.arm a).Active) :
    ((s.modLoad b g).arm a).Active := by
  by_cases e : a = b
  · subst e
    exact h.imp (by simp) (by simp [modLoad])
  · simpa [modLoad, e] using h

/-- A load that a request addresses is the arm's. -/
theorem load?_of_addressLoad {s : State} {p : Port} {arm : Byte} {n : Word24} {a : Fin 8} {l : Load}
    (h : addressLoad s p arm n = .ok (a, l)) : s.load? a = some l := by
  unfold addressLoad at h
  split at h
  · exact absurd h (by simp)
  · split at h
    · exact absurd h (by simp)
    · rename_i hl
      split at h
      · obtain ⟨rfl, rfl⟩ := Prod.mk.inj (Except.ok.inj h)
        exact hl
      · exact absurd h (by simp)

/-- An open load that a request addresses is the arm's, and the arm is not in CLOSING. -/
theorem load?_of_addressOpenLoad {s : State} {p : Port} {arm : Byte} {n : Word24} {a : Fin 8} {l : Load}
    (h : addressOpenLoad s p arm n = .ok (a, l)) : s.load? a = some l := by
  unfold addressOpenLoad at h
  split at h
  · exact absurd h (by simp)
  · rename_i addressed
    split at h
    · exact absurd h (by simp)
    · obtain ⟨rfl, rfl⟩ := Prod.mk.inj (Except.ok.inj h)
      exact load?_of_addressLoad addressed

end State

/-! ## What the progress of loads is made of -/

/-- A property of states that the changes of a station, the bus and a port keep. -/
structure Aside (P : State → Prop) : Prop where
  station : ∀ {s : State} (st : Fin 4) (f : Station → Station), P s → P (s.modStation st f)
  bus : ∀ {s : State} (b : Bus), P s → P { s with bus := b }
  port : ∀ {s : State} (p : Port) (f : PortState → PortState), P s → PortMove p (s.port p) (f (s.port p)) →
    P (s.modPort p f)

/-- A property of states `P` that is kept while arms leave their shares, and a property `Q a` of the states in which the
arm `a` has its shares but has not yet acted on them. -/
structure Leaving (P : State → Prop) (Q : Fin 8 → State → Prop) : Prop extends Aside P where
  quiet : ∀ {s : State} (a : Fin 8) (f : Arm → Arm), P s → ArmMove (s.arm a) (f (s.arm a)) →
    (f (s.arm a)).state.place = (s.arm a).state.place → P (s.modArm a f)
  granted : ∀ {s : State} (a : Fin 8) (f : Arm → Arm), Q a s → ArmMove (s.arm a) (f (s.arm a)) →
    (f (s.arm a)).state.place = (s.arm a).state.place → Q a (s.modArm a f)
  leave : ∀ {s : State} (a : Fin 8) (f : Arm → Arm), P s ∨ Q a s → ArmMove (s.arm a) (f (s.arm a)) →
    (f (s.arm a)).state.place = .outside → P ((s.modArm a f).dropShares a)
  page : ∀ {s : State} (a : Fin 8) (f : TracePage → TracePage), P s → PageMove (s.page a) (f (s.page a)) →
    P (s.modPage a f)

/-- Moreover an arm may enter a blending phase with its shares. -/
structure Blending (P : State → Prop) (Q : Fin 8 → State → Prop) : Prop extends Leaving P Q where
  blend : ∀ {s : State} (a : Fin 8) (f : Arm → Arm), Q a s → ArmMove (s.arm a) (f (s.arm a)) →
    (f (s.arm a)).state.place = .blending → P (s.modArm a f)

/-- Moreover an arm may ask for its shares and wait for them, the allocator may serve it, a tick may be counted and a load
completed. -/
structure Progress (P : State → Prop) (Q : Fin 8 → State → Prop) : Prop extends Blending P Q where
  unshared : ∀ {s : State} {a : Fin 8} {l : Load}, P s → s.load? a = some l → (s.arm a).state.place = .outside →
    l.recipe.shareCount = 0 → Q a s
  grant : ∀ {s : State} {a : Fin 8} {l : Load}, P s → s.load? a = some l → (s.arm a).state.place = .outside →
    l.recipe.shareCount ≠ 0 → s.trips.header = true → s.header.wait = [] → l.recipe.shareCount ≤ s.header.free →
    Q a (s.modHeader fun h => h.grant a l.recipe.shareCount)
  queue : ∀ {s : State} {a : Fin 8} {l : Load} (f : Arm → Arm) (t : Timer), P s → s.load? a = some l →
    (s.arm a).state.place = .outside → l.recipe.shareCount ≠ 0 → s.trips.header = true →
    ArmMove (s.arm a) (f (s.arm a)) → (f (s.arm a)).state = .shareWait →
    P ((s.modArm a f).modHeader fun h =>
      { h with wait := h.wait ++ [{ arm := a, shares := l.recipe.shareCount, timer := t }] })
  serveHead : ∀ {s : State} {w : Waiter} {rest : List Waiter}, P s → s.header.wait = w :: rest → s.trips.header = true →
    w.shares ≤ s.header.free →
    Q w.arm (s.modHeader fun h => ({ h with wait := rest } : Header).grant w.arm w.shares)
  served : ∀ {s : State} {a : Fin 8}, Q a s → s.load? a = none → P s
  waitTimer : ∀ {s : State} (a : Fin 8), P s → P (s.shareTimerExpired a)
  meter : ∀ {s : State} (m : Fin 16) (f : Meter → Meter), P s →
    MeterMove s.settings.strayThreshold (s.meter m) (f (s.meter m)) → P (s.modMeter m f)
  complete : ∀ {s : State} (a : Fin 8) (e : EndStatus), P s → (s.arm a).state = .closing → P (s.completeLoad a e)

/-- Both branches of a choice keep the property. -/
theorem Leaving.ite {P : State → Prop} {c : Prop} [Decidable c] {x y : State} (hx : c → P x) (hy : ¬ c → P y) : P (if c then x else y) := by
  split
  · exact hx ‹_›
  · exact hy ‹_›

/-- A fold of steps that each keep a property keeps it. -/
theorem Leaving.foldl {P : State → Prop} {α : Type} {f : State → α → State} {s : State} (xs : List α) (hs : P s) (hf : ∀ t x, P t → P (f t x)) :
    P (xs.foldl f s) := List.foldlRecOn xs f hs fun t ht x _ => hf t x ht

/-! ## Operations of the stations, the bus and the ports alone -/

namespace Aside

variable {P : State → Prop} (h : Aside P)
include h

theorem modTxn {s : State} (f : Txn → Txn) (hs : P s) : P (s.modTxn f) := h.bus _ hs

theorem raise {s : State} (n : Notice) {ps : List Port} (hn : raisable n ps) (hs : P s) : P (s.raise n ps) :=
  List.foldlRecOn ps _ hs fun _ ht p hp => h.port p _ ht (.raise (hn p hp) _)

theorem raiseTerminals {s : State} (n : Notice) (hs : P s) : P (s.raise n terminalPorts) :=
  h.raise n (raisable_terminals n) hs

theorem respond {s : State} (p : Port) (r : Response) (hs : P s) : P (s.respond p r) :=
  h.port p _ hs (.of_same rfl rfl rfl rfl)

theorem arbitrate {s : State} (hs : P s) : P s.arbitrate := by
  unfold State.arbitrate
  split
  · exact hs
  · split
    · exact hs
    · exact h.bus _ (h.station _ _ hs)

theorem gainRequest {s : State} (st : Fin 4) (hs : P s) : P (s.gainRequest st) := h.arbitrate (h.station _ _ hs)

theorem answerRestore {s : State} (st : Fin 4) (r : Option ReplyState) (hs : P s) : P (s.answerRestore st r) := by
  unfold State.answerRestore
  split
  · exact hs
  · exact h.respond _ _ (h.station _ _ hs)

theorem restoreRequested {s : State} (p : Port) (b : Byte) (hs : P s) : P (s.restoreRequested p b).1 := by
  unfold State.restoreRequested
  split
  · simp only
    split
    · exact hs
    · split
      · exact hs
      · exact h.gainRequest _ (h.station _ _ hs)
  · exact hs

theorem frameSent {s : State} (hs : P s) : P s.frameSent := by
  unfold State.frameSent
  split
  · exact hs
  · split
    · exact hs
    · simp only
      split
      · exact h.modTxn _ hs
      · exact h.station _ _ (h.modTxn _ hs)

theorem changeoverOver {s : State} (st : Fin 4) (hs : P s) : P (s.changeoverOver st) :=
  Leaving.ite (fun _ => Leaving.ite (fun _ => h.station _ _ hs) fun _ => h.gainRequest _ (h.station _ _ hs)) fun _ => hs

theorem pollDue {s : State} (st : Fin 4) (hs : P s) : P (s.pollDue st) :=
  Leaving.ite (fun _ => h.gainRequest _ (h.station _ _ hs)) fun _ => hs

end Aside

/-! ## Operations that leave the allocator, or use nothing of it -/

namespace Leaving

variable {P : State → Prop} {Q : Fin 8 → State → Prop} (h : Leaving P Q)

include h

/-! ### Ops, Flags and Requests -/

/-- A change of the timers and the enable of an arm. -/
theorem timers {s : State} (a : Fin 8) (f : Arm → Arm) (hs : P s) (state : (f (s.arm a)).state = (s.arm a).state)
    (main : (f (s.arm a)).mainOpening = (s.arm a).mainOpening)
    (ethanol : (f (s.arm a)).ethanolOpening = (s.arm a).ethanolOpening) (load : (f (s.arm a)).load = (s.arm a).load) :
    P (s.modArm a f) :=
  h.quiet a f hs (.of_same state main ethanol load) (by rw [state])

theorem modLoad {s : State} (a : Fin 8) {g : Load → Load} (hg : ∀ l, LoadMove l (g l)) (hs : P s) :
    P (s.modLoad a g) := h.quiet a _ hs (.of_load _ hg) rfl

theorem modLoadGranted {s : State} (a : Fin 8) {g : Load → Load} (hg : ∀ l, LoadMove l (g l)) (hs : Q a s) :
    Q a (s.modLoad a g) := h.granted a _ hs (.of_load _ hg) rfl

theorem modLine {s : State} (a : Fin 8) (i : Nat) {f : Line → Line}
    (hf : ∀ x : Line, x.counts.balanced → (f x).counts.balanced) (hs : P s) : P (s.modLine a i f) :=
  h.modLoad a (fun l => .modifyLine l i hf) hs

theorem appendTrace {s : State} (a : Fin 8) (c : TraceCause) (hs : P s) : P (s.appendTrace a c) := by
  unfold State.appendTrace
  split
  · exact hs
  · exact h.page _ _ hs (.append _ _)

theorem bumpRevisions {s0 s : State} (hs : P s) : P (State.bumpRevisions s0 s) := by
  refine foldl allArms hs fun t a ht => ite (fun _ => h.modLoad a ?_ ht) (fun _ => ht)
  exact fun l => .of_same rfl rfl rfl rfl rfl

/-! ### Bus -/

theorem modShot {s : State} (st : Fin 4) (f : Shot → Shot) (hs : P s) : P (s.modShot st f) :=
  h.modTxn _ (h.station _ _ hs)

theorem dropShot {s : State} (st : Fin 4) (hs : P s) : P (s.dropShot st) := h.modTxn _ (h.station _ _ hs)

theorem appendEntry {s : State} (st : Fin 4) (e : QueueEntry) (hs : P s) : P (s.appendEntry st e) :=
  ite (fun _ => h.gainRequest _ (h.station _ _ hs)) (fun _ => h.station _ _ hs)

theorem dropEntry {s : State} (st : Fin 4) (a : Fin 8) (hs : P s) : P (s.dropEntry st a) :=
  h.modShot _ _ (h.station _ _ hs)

theorem withdrawLine {s : State} (a : Fin 8) (keep : Bool) (i : Nat) (hs : P s) : P (s.withdrawLine a keep i) := by
  unfold State.withdrawLine
  split
  · exact hs
  · refine ite (fun _ => hs) fun _ => h.modLine _ _ (fun x hx => ?_) (h.dropEntry _ _ hs)
    cases keep
    · exact LineRecord.balanced_miss _ hx
    · exact hx

theorem withdrawLines {s : State} (a : Fin 8) (keep : Bool) (hs : P s) : P (s.withdrawLines a keep) :=
  foldl _ hs fun _ i ht => h.withdrawLine a keep i ht

theorem requeueLine {s : State} (a : Fin 8) (i : Nat) (hs : P s) : P (s.requeueLine a i) := by
  unfold State.requeueLine
  split
  · exact hs
  · split
    · have boundarySet := fun b => h.modLine (s := s) a i (f := fun x => { x with nextBoundary := b, kept := 0 })
        (fun _ hx => hx) hs
      exact ite (fun _ => hs) fun _ => ite (fun _ => boundarySet _) fun _ => h.appendEntry _ _ (boundarySet _)
    · exact hs
    · exact hs

theorem requeueLines {s : State} (a : Fin 8) (hs : P s) : P (s.requeueLines a) :=
  foldl _ hs fun _ i ht => h.requeueLine a i ht

/-! ### Leaving a state for CLOSING, HELD or FLUSH -/

theorem addFault {s : State} (a : Fin 8) (f : FaultSet → FaultSet) (hs : P s) : P (s.addFault a f) :=
  h.modLoad a (fun _ => .of_same rfl rfl rfl rfl rfl) hs

theorem setDue {s : State} (a : Fin 8) (e : EndStatus) (hs : P s) : P (s.setDue a e) :=
  h.modLoad a (fun l => .setDue l e) hs

theorem supplyFault {s : State} (a : Fin 8) (hs : P s) : P (s.supplyFault a) := h.setDue _ _ (h.addFault _ _ hs)

theorem supplyFaultGranted {s : State} (a : Fin 8) (hs : Q a s) : Q a (s.supplyFault a) :=
  h.modLoadGranted a (fun l => .setDue l _) (h.modLoadGranted a (fun _ => .of_same rfl rfl rfl rfl rfl) hs)

/-- An active arm enters a state outside the allocator's business with its valves right, and its load is changed. -/
theorem leaveTo {s : State} {a : Fin 8} {f : Arm → Arm} {g : Load → Load} (hs : P s ∨ Q a s) (active : (s.arm a).Active)
    (place : (f (s.arm a)).state.place = .outside) (idle : (f (s.arm a)).state ≠ .idle)
    (valves : (f (s.arm a)).valvesRight) (load : (f (s.arm a)).load = (s.arm a).load) (hg : ∀ l, LoadMove l (g l)) :
    P (((s.modArm a f).modLoad a g).dropShares a) := by
  rw [State.modArm_modLoad]
  exact h.leave a _ hs (.enter active idle valves (by rw [load]) hg) place

theorem enterClosing {s : State} {a : Fin 8} (hs : P s ∨ Q a s) (active : (s.arm a).Active) : P (s.enterClosing a) :=
  h.appendTrace _ _ (h.withdrawLines _ _
    (h.leaveTo hs active rfl (by simp) (Arm.valvesRight_of_shut rfl rfl) rfl LoadMove.closed))

theorem enterHeld {s : State} {a : Fin 8} (r : ResumePhase) (hs : P s) (active : (s.arm a).Active) :
    P (s.enterHeld a r) :=
  h.appendTrace _ _ (h.withdrawLines _ _
    (h.leaveTo (.inl hs) active rfl (by simp) (Arm.valvesRight_of_shut rfl rfl) rfl fun l => .heldFrom l r))

theorem closeIfFlushed {s : State} (a : Fin 8) (hs : P s) : P (s.closeIfFlushed a) := by
  refine ite (fun ended => ?_) fun _ => hs
  cases hl : s.load? a with
  | none => simp [State.flushEnded, hl] at ended
  | some l => exact h.enterClosing (.inl hs) (State.active_of_load hl)

theorem enterFlushOf {s : State} {a : Fin 8} {l : Load} (k : FlushKind) (hs : P s ∨ Q a s) (hl : s.load? a = some l) :
    P (s.enterFlush a k) := by
  unfold State.enterFlush
  rw [hl]
  exact h.closeIfFlushed _ (h.appendTrace _ _ (h.withdrawLines _ _
    (h.leaveTo hs (State.active_of_load hl) rfl (by simp) (Arm.valvesRight_of_flowing rfl rfl) rfl
      fun l => .flushed l k)))

theorem enterFlush {s : State} (a : Fin 8) (k : FlushKind) (hs : P s) : P (s.enterFlush a k) := by
  cases hl : s.load? a with
  | none => rw [State.enterFlush, hl]; exact hs
  | some l => exact h.enterFlushOf k (.inl hs) hl

theorem cutFlush {s : State} (a : Fin 8) (e : EndStatus) (hs : P s) : P (s.cutFlush a e) :=
  h.enterFlush _ _ (h.setDue _ _ hs)

/-- An active arm enters a state of its present place with its valves right, and its load is changed. -/
theorem moveTo {s : State} {a : Fin 8} {f : Arm → Arm} {g : Load → Load} (hs : P s) (active : (s.arm a).Active)
    (place : (f (s.arm a)).state.place = (s.arm a).state.place) (idle : (f (s.arm a)).state ≠ .idle)
    (valves : (f (s.arm a)).valvesRight) (load : (f (s.arm a)).load = (s.arm a).load) (hg : ∀ l, LoadMove l (g l)) :
    P ((s.modArm a f).modLoad a g) := by
  rw [State.modArm_modLoad]
  exact h.quiet a _ hs (.enter active idle valves (by rw [load]) hg) place

theorem resumeFlush {s : State} (a : Fin 8) (hs : P s) (place : (s.arm a).state.place = .outside) :
    P (s.resumeFlush a) := by
  unfold State.resumeFlush
  split
  · exact hs
  · rename_i l hl
    exact h.closeIfFlushed _ (h.appendTrace _ _ (h.moveTo hs (State.active_of_load hl) place.symm (by simp)
      (Arm.valvesRight_of_flowing rfl rfl) rfl fun _ => .of_same rfl rfl rfl rfl rfl))

/-! ### Hold causes and checkpoints -/

theorem addCauses {s : State} (a : Fin 8) (c : HoldCauses) (hs : P s) : P (s.addCauses a c) := by
  have added : P (s.modLoad a fun l => { l with data := { l.data with causes := l.data.causes.union c } }) :=
    h.modLoad a (fun _ => .of_same rfl rfl rfl rfl rfl) hs
  have held := fun r (busy : (s.arm a).state ≠ .idle) => h.enterHeld (a := a) r added (.inl (by simpa using busy))
  refine ite (fun _ => hs) fun _ => ?_
  cases e : (s.arm a).state
  case idle => exact hs
  case closing => exact hs
  case held => exact added
  all_goals exact held _ (by simp [e])

theorem fireEvent {s : State} (a : Fin 8) (ev : EventKind) (hs : P s) : P (s.fireEvent a ev) := by
  unfold State.fireEvent
  split
  · exact hs
  · refine ite (fun _ => h.addCauses _ _ (h.raise _ (raisable_lane _ _ (by decide)) (h.modLoad a ?_ hs))) fun _ => hs
    exact fun _ => .of_same rfl rfl rfl rfl rfl

theorem fireIfFirst {s : State} (a : Fin 8) (b : Bool) (hs : P s) : P (s.fireIfFirst a b) :=
  ite (fun _ => h.fireEvent _ _ hs) fun _ => hs

/-! ### Within a blending phase -/

theorem enterTaperFromRun {s : State} (a : Fin 8) (hs : P s) (blending : (s.arm a).state.isBlending = true) :
    P (s.enterTaperFromRun a) := by
  unfold State.enterTaperFromRun
  split
  · exact hs
  · rename_i l hl
    refine h.fireIfFirst _ _ (h.appendTrace _ _ (h.moveTo hs (State.active_of_load hl) ?_ (by simp)
      (Arm.valvesRight_of_blending rfl) rfl fun _ => .of_same rfl rfl rfl rfl rfl))
    exact (ArmState.place_eq_blending_iff.mpr blending).symm

theorem rampStep {s : State} (a : Fin 8) (hs : P s) (blending : (s.arm a).state.isBlending = true) :
    P (s.rampStep a) := by
  unfold State.rampStep
  split
  · exact hs
  · rename_i l hl
    split
    · exact hs
    · refine ite (fun _ => h.appendTrace _ _ (h.quiet a _ hs ?_ ?_)) fun _ => h.quiet a _ hs ?_ rfl
      · exact .enter (State.active_of_load hl) (by simp) (Arm.valvesRight_of_blending rfl) (by simp) LoadMove.refl
      · exact (ArmState.place_eq_blending_iff.mpr blending).symm
      · exact .keepState rfl (Arm.valvesRight_of_blending blending) (by simp) LoadMove.refl

theorem taperStep {s : State} (a : Fin 8) (hs : P s) (blending : (s.arm a).state.isBlending = true) :
    P (s.taperStep a) := by
  unfold State.taperStep
  split
  · exact hs
  · exact h.quiet a _ hs (.keepState rfl (Arm.valvesRight_of_blending blending) (by simp) LoadMove.refl) rfl

theorem trimWork {s : State} (a : Fin 8) (hs : P s) (blending : (s.arm a).state.isBlending = true) :
    P (s.trimWork a) := by
  unfold State.trimWork
  split
  · exact hs
  · rename_i l hl
    have trimmed := h.appendTrace a .trim (h.moveTo (a := a)
      (f := fun x => { x with ethanolOpening := l.trimmedOpening x.ethanolOpening })
      (g := fun l => l.trimmed (s.arm a).ethanolOpening) hs (State.active_of_load hl) rfl
      (fun e => by rw [show (s.arm a).state = .idle from e] at blending; exact absurd blending (by decide))
      (Arm.valvesRight_of_blending blending) rfl fun _ => .of_same rfl rfl rfl rfl rfl)
    exact ite (fun _ => h.cutFlush _ _ (h.addFault _ _ trimmed)) fun _ => trimmed

/-! ### Shot boundaries -/

theorem placeShot {s : State} (a : Fin 8) (i : Nat) (st : Fin 4) (n : Nat) (hs : P s) : P (s.placeShot a i st n).1 := by
  have queued := h.modLine a i (f := Line.modCounts LineRecord.fallDue) (fun _ => LineRecord.balanced_fallDue) hs
  have missed := h.modLine a i (f := Line.modCounts LineRecord.fallMissed) (fun _ => LineRecord.balanced_fallMissed) hs
  simp only [State.placeShot]
  split
  · exact h.appendEntry _ _ queued
  · split
    · dsimp only
      exact h.station _ _ queued
    · exact missed

theorem missOutOfService {s : State} (a : Fin 8) (i : Nat) (b : Bool) (hs : P s) : P (s.missOutOfService a i b) := by
  have missed := h.modLine a i (f := Line.modCounts LineRecord.fallMissed) (fun _ => LineRecord.balanced_fallMissed) hs
  exact ite (fun _ => h.cutFlush _ _ (h.addFault _ _ missed)) fun _ => missed

theorem judgeLine {x : State × Bool} (a : Fin 8) (i : Nat) (hs : P x.1) : P (State.judgeLine x a i).1 := by
  unfold State.judgeLine
  split
  · exact hs
  · split
    · split
      · exact hs
      · split
        · have moved := fun n => h.modLine a i (f := State.advanceBoundary n) (fun _ hx => hx) hs
          simp only
          split
          · exact h.placeShot _ _ _ _ (moved _)
          · exact h.missOutOfService _ _ _ (moved _)
        · exact hs
    · exact hs
    · exact hs

theorem judgeShots {s : State} (a : Fin 8) (hs : P s) : P (s.judgeShots a) := by
  have judged : P (State.judgeLine (State.judgeLine (State.judgeLine (s, false) a 0) a 1) a 2).1 :=
    h.judgeLine _ _ (h.judgeLine _ _ (h.judgeLine _ _ hs))
  exact ite (fun _ => h.fireEvent _ _ judged) fun _ => judged

theorem judgeVolume {s : State} (a : Fin 8) (hs : P s) : P (s.judgeVolume a) := by
  unfold State.judgeVolume
  split
  · exact hs
  · exact ite (fun _ => hs) fun _ => h.fireEvent _ _ hs

/-! ### Counting a tick -/

theorem countGrossVolume {s : State} (a : Fin 8) (m : Fin 16) (hs : P s) : P (s.countGrossVolume a m) :=
  h.modLoad a (fun l => .countGross l _) hs

theorem closingTick {s : State} (a : Fin 8) (m : Fin 16) (hs : P s) : P (s.closingTick a m) := by
  have counted := h.timers a (fun x => { x with settle := s.settleStart })
    (h.countGrossVolume a m (h.modLoad a LoadMove.countOverrun hs)) rfl rfl rfl rfl
  simp only [State.closingTick]
  split
  · exact ite (fun _ => h.raiseTerminals _ (h.addFault _ _ counted)) fun _ => counted
  · exact counted
  · exact counted

/-! ### Stations -/

theorem faultStation {s : State} (st : Fin 4) (hs : P s) : P (s.faultStation st) := h.modTxn _ (h.station _ _ hs)

theorem unconfirmShot {s : State} (st : Fin 4) (hs : P s) : P (s.unconfirmShot st) := by
  unfold State.unconfirmShot
  split
  · exact hs
  · exact ite (fun _ => h.dropShot _ hs) fun _ =>
      h.modLine _ _ (fun _ => LineRecord.balanced_unconfirm) (h.dropShot _ hs)

theorem missQueue {s : State} (st : Fin 4) (x : Option (Fin 8)) (hs : P s) : P (s.missQueue st x) :=
  foldl _ (h.station _ _ hs) fun _ _ ht => h.modLine _ _ (fun _ hx => LineRecord.balanced_miss _ hx) ht

theorem faultArm {s : State} (st : Fin 4) (a : Fin 8) (hs : P s) : P (State.faultArm st s a) := by
  unfold State.faultArm
  split
  · exact hs
  · have missed : P (s.modLoad a fun x => { x with lines := x.lines.map (State.missKeptAt st) }) := by
      refine h.modLoad a (fun l => .mapLines l fun x hx => ?_) hs
      unfold State.missKeptAt
      split
      · exact LineRecord.balanced_miss _ hx
      · exact hx
    exact ite (fun _ => ite (fun _ => h.cutFlush _ _ (h.addFault _ _ missed)) fun _ => h.addFault _ _ missed)
      fun _ => missed

theorem backToIdle {s : State} (st : Fin 4) (hs : P s) : P (s.backToIdle st) :=
  ite (fun _ => h.station _ _ (h.dropShot _ hs)) fun _ => h.gainRequest _ (h.station _ _ (h.dropShot _ hs))

theorem settleQueue {s : State} (st : Fin 4) (sh : Shot) (hs : P s) : P (s.settleQueue st sh) :=
  ite (fun _ => h.station _ _ hs) fun _ => hs

theorem acceptReply {s : State} (st : Fin 4) (low : Bool) (hs : P s) : P (s.acceptReply st low) :=
  ite (fun _ => h.raiseTerminals _ (h.station _ _ hs)) fun _ => h.station _ _ hs

theorem clearOutcome {s : State} (st : Fin 4) (r : Option Reply) (hs : P s) : P (s.clearOutcome st r) := by
  unfold State.clearOutcome
  split
  · exact h.answerRestore _ _ hs
  · have accepted := fun low => h.acceptReply st low hs
    simp only
    split
    · exact h.answerRestore _ _ (h.station _ _ (accepted _))
    all_goals exact h.answerRestore _ _ (accepted _)

/-! ### Loads, holds and trips -/

theorem stopFlush {s : State} {a : Fin 8} {l : Load} (hs : P s) (hl : s.load? a = some l) : P (s.stopFlush a l) := by
  unfold State.stopFlush
  split
  · exact hs
  · have lowered := fun e => h.setDue a .stopped (h.modLoad a
      (g := fun x => { x with flushEnd := some (State.stoppedFlushEnd l e), flushKind := some .cut })
      (fun _ => .of_same rfl rfl rfl rfl rfl) hs)
    refine ite (fun _ => ite (fun _ => h.enterClosing (.inl (lowered _)) ?_) fun _ => lowered _) fun _ => hs
    exact State.active_modLoad a _ (State.active_modLoad a _ (State.active_of_load hl))

theorem enterClosingDue {s : State} {a : Fin 8} {l : Load} (e : EndStatus) (hs : P s) (hl : s.load? a = some l) :
    P ((s.setDue a e).enterClosing a) :=
  h.enterClosing (.inl (h.setDue a e hs))
    (State.active_of_load (by rw [State.setDue, State.modLoad_load_self, hl]; rfl))

theorem stopArm {s : State} {a : Fin 8} {l : Load} (hs : P s) (hl : s.load? a = some l) : P (s.stopArm a l) := by
  unfold State.stopArm
  split
  case h_1 => exact h.cutFlush _ _ hs
  case h_2 => exact h.cutFlush _ _ hs
  case h_3 => exact h.cutFlush _ _ hs
  case h_4 => exact h.enterClosingDue _ hs hl
  case h_5 => exact h.enterClosingDue _ hs hl
  case h_6 => exact h.enterClosingDue _ hs hl
  case h_7 => exact h.stopFlush hs hl
  case h_8 => exact hs
  case h_9 => exact hs

theorem amendArm {s : State} (a : Fin 8) (v : Nat) (hs : P s) : P (s.amendArm a v) := by
  have staged : P (s.modLoad a fun l => { l with data := { l.data with pending := some v } }) :=
    h.modLoad a (fun _ => .of_same rfl rfl rfl rfl rfl) hs
  have applied : P (s.modLoad a fun l => l.amend v) := h.modLoad a (fun l => .amend l v) hs
  have adjusted := fun l => (LoadMove.amend l v).trans (.adjustFlushEnd _)
  unfold State.amendArm
  split
  case h_1 => exact staged
  case h_2 => exact staged
  case h_3 => exact staged
  case h_4 => exact applied
  case h_5 =>
    simp only
    split
    · exact applied
    · exact ite (fun _ => h.enterFlush _ _ applied) fun _ => applied
  case h_6 =>
    refine h.modLoad a (fun l => ?_) hs
    split
    · exact adjusted l
    · exact .amend l v
  case h_7 => exact h.modLoad a adjusted hs
  case h_8 => exact hs
  case h_9 => exact hs

theorem markFlag {s : State} (a : Fin 8) (l : Load) (n : Fin 2) (hs : P s) : P (s.markFlag a l n) :=
  ite (fun _ => hs) fun _ => h.raise _ (raisable_lane _ _ (by decide)) (h.modLoad a (fun l => .setFlag l n true) hs)

theorem settleForEsd {s : State} (a : Fin 8) (hs : P s) : P (s.settleForEsd a) := by
  unfold State.settleForEsd
  split
  · exact hs
  · refine foldl _ (h.modLoad a (fun l => .mapIdxLines l fun i x hx => ?_) hs) fun _ st ht => h.modShot st _ ht
    unfold State.settledLine
    split
    · exact LineRecord.balanced_miss _ (LineRecord.balanced_unconfirm hx)
    · exact LineRecord.balanced_miss _ hx

theorem markSupplyLost {s : State} (a : Fin 8) (hs : P s) : P (s.markSupplyLost a) :=
  h.modLoad a (fun _ => .of_same rfl rfl rfl rfl rfl) (h.supplyFault _ hs)

/-- The loss of the supply at one arm. Where the arm blends or waits with a share count it leaves the shares, so that there
the arm may also be one that `Q` speaks of. -/
theorem supplyLostArm {s : State} (a : Fin 8) (hs : P s ∨ (Q a s ∧ (s.arm a).state.place ≠ .outside ∧
    ∃ l, s.load? a = some l ∧ l.recipe.shareCount ≠ 0)) : P (s.supplyLostArm a) := by
  cases hl : s.load? a with
  | none =>
    simp only [State.supplyLostArm, hl]
    exact hs.elim id fun ⟨_, _, l, present, _⟩ => by simp [hl] at present
  | some l =>
    have faulted : P (s.supplyFault a) ∨ Q a (s.supplyFault a) :=
      hs.imp (h.supplyFault a) fun q => h.supplyFaultGranted a q.1
    obtain ⟨m, hm⟩ : ∃ m, (s.supplyFault a).load? a = some m := by
      simp [State.supplyFault, State.setDue, State.addFault, hl]
    have kept : l.recipe.shareCount = 0 ∨ (s.arm a).state.place = .outside → P s := by
      refine fun e => hs.elim id fun ⟨_, place, k, present, shares⟩ => ?_
      obtain rfl := Option.some.inj (hl.symm.trans present)
      exact (e.elim shares place).elim
    simp only [State.supplyLostArm, hl]
    refine ite (fun e => kept (.inl e)) fun _ => ?_
    cases e : (s.arm a).state
    case ramp => exact h.enterFlushOf _ faulted hm
    case full => exact h.enterFlushOf _ faulted hm
    case taper => exact h.enterFlushOf _ faulted hm
    case shareWait => exact h.enterClosing faulted (State.active_of_load hm)
    all_goals have hp : P s := kept (.inr (by rw [e]; rfl))
    case held =>
      simp only
      split
      case h_1 => exact h.markSupplyLost a hp
      case h_2 => exact h.markSupplyLost a hp
      case h_3 => exact h.markSupplyLost a hp
      case h_4 => exact h.markSupplyLost a hp
      all_goals exact hp
    case flush => exact ite (fun _ => h.addFault a _ hp) fun _ => hp
    all_goals exact hp

end Leaving

end Sys2Proof.Machine
end

section
/-! PROOFS. The progress of loads, gone through once: the operations that ask for shares, begin to blend, serve the wait
list, count a tick or complete a load. -/

namespace Sys2Proof.Machine

namespace Blending

variable {P : State → Prop} {Q : Fin 8 → State → Prop} (h : Blending P Q)
include h

/-- An arm that has its shares enters a blending phase with its load. -/
theorem blendTo {s : State} {a : Fin 8} {f : Arm → Arm} {g : Load → Load} (hs : Q a s) (active : (s.arm a).Active)
    (blending : (f (s.arm a)).state.isBlending = true) (load : (f (s.arm a)).load = (s.arm a).load)
    (hg : ∀ l, LoadMove l (g l)) : P ((s.modArm a f).modLoad a g) := by
  rw [State.modArm_modLoad]
  refine h.blend a _ hs (.enter active (fun e => ?_) (Arm.valvesRight_of_blending blending) (by rw [load]) hg)
    (ArmState.place_eq_blending_iff.mpr blending)
  rw [show (f (s.arm a)).state = .idle from e] at blending
  exact absurd blending (by decide)

theorem enterRamp {s : State} {a : Fin 8} {l : Load} (hs : Q a s) (hl : s.load? a = some l) : P (s.enterRamp a) := by
  simp only [State.enterRamp, hl]
  exact h.appendTrace _ _ (h.requeueLines _ (h.blendTo hs (State.active_of_load hl) rfl rfl
    fun _ => .of_same rfl rfl rfl rfl rfl))

theorem enterTaperAtStep {s : State} {a : Fin 8} {l : Load} (hs : Q a s) (hl : s.load? a = some l) :
    P (s.enterTaperAtStep a) := by
  simp only [State.enterTaperAtStep, hl]
  exact h.fireIfFirst _ _ (h.appendTrace _ _ (h.requeueLines _ (h.blendTo hs (State.active_of_load hl) rfl rfl
    fun _ => .of_same rfl rfl rfl rfl rfl)))

theorem goToTarget {s : State} {a : Fin 8} {l : Load} (w : WaitTarget) (hs : Q a s) (hl : s.load? a = some l) :
    P (s.goToTarget a w) := by
  cases w
  · exact h.enterRamp hs hl
  · exact h.enterTaperAtStep hs hl

theorem receiveGrant {s : State} {a : Fin 8} {l : Load} (hs : Q a s) (hl : s.load? a = some l) :
    P (s.receiveGrant a) := by
  simp only [State.receiveGrant, hl]
  exact Leaving.ite (fun _ => h.enterClosing (.inr hs) (State.active_of_load hl)) fun _ =>
    Leaving.ite (fun _ => h.enterFlushOf _ (.inr hs) hl) fun _ =>
      Leaving.ite (fun _ => h.enterTaperAtStep hs hl) fun _ => h.enterRamp hs hl

end Blending

namespace Progress

variable {P : State → Prop} {Q : Fin 8 → State → Prop} (h : Progress P Q)
include h

/-! ## Shares and the wait list -/

theorem enterShareWait {s : State} {a : Fin 8} {l : Load} (w : WaitTarget) (hs : P s) (hl : s.load? a = some l)
    (place : (s.arm a).state.place = .outside) (shares : l.recipe.shareCount ≠ 0) (present : s.trips.header = true) :
    P (s.enterShareWait a w l.recipe.shareCount) := by
  refine h.appendTrace _ _ ?_
  rw [State.modArm_modLoad]
  refine h.queue _ _ hs hl place shares present (.enter (State.active_of_load hl) (by simp)
    (Arm.valvesRight_of_shut rfl rfl) rfl fun _ => ?_) rfl
  exact .of_same rfl rfl rfl rfl rfl

theorem requestShares {s : State} (a : Fin 8) (w : WaitTarget) (hs : P s) (place : (s.arm a).state.place = .outside) :
    P (s.requestShares a w) := by
  unfold State.requestShares
  split
  · exact hs
  · rename_i l hl
    refine Leaving.ite (fun none => h.goToTarget w (h.unshared hs hl place none) hl) fun some => ?_
    refine Leaving.ite (fun _ => h.enterClosing (.inl (h.supplyFault _ hs))
      (State.active_modLoad a _ (State.active_modLoad a _ (State.active_of_load hl)))) fun lost => ?_
    have present : s.trips.header = true := by simpa using lost
    exact Leaving.ite (fun fits => h.goToTarget w (h.grant hs hl place some present fits.1 fits.2) hl) fun _ =>
      h.enterShareWait w hs hl place some present

theorem leavePrime {s : State} (a : Fin 8) (hs : P s) (place : (s.arm a).state.place = .outside) :
    P (s.leavePrime a) := by
  unfold State.leavePrime
  split
  · exact hs
  · rename_i l hl
    exact h.fireEvent _ _ (Leaving.ite (fun _ => h.enterClosing (.inl hs) (State.active_of_load hl)) fun _ =>
      Leaving.ite (fun _ => h.enterFlush _ _ hs) fun _ =>
        Leaving.ite (fun _ => h.requestShares _ _ hs place) fun _ => h.requestShares _ _ hs place)

theorem resumePrime {s : State} (a : Fin 8) (hs : P s) (place : (s.arm a).state.place = .outside) :
    P (s.resumePrime a) := by
  unfold State.resumePrime
  split
  · exact hs
  · rename_i l hl
    have resumed := h.appendTrace a .phase (h.moveTo
      (f := fun x => { x with state := .prime, mainOpening := l.recipe.primeOpening, ethanolOpening := 0,
                              noFlow := s.noFlowStart })
      (g := fun l => { l with resume := none }) hs (State.active_of_load hl) place.symm (by simp)
      (Arm.valvesRight_of_flowing rfl rfl) rfl fun _ => .of_same rfl rfl rfl rfl rfl)
    refine Leaving.ite (fun _ => h.leavePrime _ resumed ?_) fun _ => resumed
    rw [State.appendTrace_arm]
    simp [State.modArm_modLoad, ArmState.place]

theorem resumeBlending {s : State} (a : Fin 8) (b : Bool) (hs : P s) (place : (s.arm a).state.place = .outside) :
    P (s.resumeBlending a b) := by
  unfold State.resumeBlending
  split
  · exact hs
  · rename_i l hl
    exact Leaving.ite (fun _ => h.enterClosing (.inl hs) (State.active_of_load hl)) fun _ =>
      Leaving.ite (fun _ => h.enterFlush _ _ hs) fun _ =>
        Leaving.ite (fun _ => h.requestShares _ _ hs place) fun _ => h.requestShares _ _ hs place

theorem leaveHeld {s : State} (a : Fin 8) (hs : P s) (held : (s.arm a).state = .held) : P (s.leaveHeld a) := by
  unfold State.leaveHeld
  split
  · exact hs
  · have stopped := h.timers a (fun x => { x with hold := .stopped }) hs rfl rfl rfl rfl
    have state : ((s.modArm a fun x => { x with hold := .stopped }).arm a).state = .held := by simpa using held
    have place : ((s.modArm a fun x => { x with hold := .stopped }).arm a).state.place = .outside := by rw [state]; rfl
    refine Leaving.ite (fun _ => h.enterClosing (.inl stopped) (.inl (by rw [state]; simp))) fun _ => ?_
    split
    case h_1 => exact stopped
    case h_2 => exact h.resumePrime _ stopped place
    case h_6 => exact h.resumeFlush _ stopped place
    all_goals exact h.resumeBlending _ _ stopped place

theorem removeCause {s : State} (a : Fin 8) (c : HoldCause) (hs : P s) : P (s.removeCause a c) := by
  have removed : P (s.modLoad a fun l => { l with data := { l.data with causes := l.data.causes.put false c } }) :=
    h.modLoad a (fun _ => .of_same rfl rfl rfl rfl rfl) hs
  unfold State.removeCause
  simp only
  split
  · exact removed
  · exact Leaving.ite (fun last => h.leaveHeld _ removed last.1) fun _ => removed

theorem serveUpTo : ∀ (n : Nat) {s : State}, P s → P (State.serveUpTo n s)
  | 0, _, hs => hs
  | n + 1, s, hs => by
    unfold State.serveUpTo
    split
    · exact hs
    · rename_i w rest hw
      refine Leaving.ite (fun fits => serveUpTo n ?_) fun _ => hs
      have granted := h.serveHead hs hw fits.1 fits.2
      cases hl : s.load? w.arm with
      | none =>
        have absent : (s.modHeader fun h => ({ h with wait := rest } : Header).grant w.arm w.shares).load? w.arm =
            none := hl
        rw [State.receiveGrant, absent]
        exact h.served granted absent
      | some l => exact h.receiveGrant granted hl

theorem serve {s : State} (hs : P s) : P s.serve := h.serveUpTo _ hs

theorem endEvent {s0 s : State} (hs : P s) : P (State.endEvent s0 s) :=
  h.bumpRevisions (Leaving.ite (fun _ => hs) fun _ => h.serve hs)

theorem completeIfSettled {s : State} (a : Fin 8) (hs : P s) : P (s.completeIfSettled a) := by
  unfold State.completeIfSettled
  split
  · exact hs
  · exact Leaving.ite (fun settled => h.complete a _ hs settled.1) fun _ => hs

/-! ## Ticks -/

theorem evaluatePoints {s : State} (a : Fin 8) (hs : P s) : P (s.evaluatePoints a) := by
  unfold State.evaluatePoints
  split
  · exact hs
  · rename_i l hl
    refine Leaving.ite (fun _ => h.enterClosing (.inl hs) (State.active_of_load hl)) fun _ =>
      Leaving.ite (fun _ => h.enterFlush _ _ hs) fun _ => ?_
    cases e : (s.arm a).state
    case prime => exact Leaving.ite (fun _ => h.leavePrime _ hs (by rw [e]; rfl)) fun _ => hs
    case ramp =>
      exact Leaving.ite (fun _ => h.enterTaperFromRun _ hs (by rw [e]; rfl)) fun _ => h.rampStep _ hs (by rw [e]; rfl)
    case full => exact Leaving.ite (fun _ => h.enterTaperFromRun _ hs (by rw [e]; rfl)) fun _ => hs
    case taper => exact h.taperStep _ hs (by rw [e]; rfl)
    all_goals exact hs

theorem flowSteps {s : State} (a : Fin 8) (hs : P s) : P (s.flowSteps a) := by
  have evaluated := h.evaluatePoints a (h.modLoad a LoadMove.atTrimPoint hs)
  exact Leaving.ite (fun _ => Leaving.ite (fun blending => h.trimWork _ evaluated blending) fun _ => evaluated)
    fun _ => h.evaluatePoints _ hs

theorem flowTick {s : State} (a : Fin 8) (m : Fin 16) (hs : P s) : P (s.flowTick a m) :=
  h.flowSteps _ (Leaving.ite (fun _ => h.timers a _ (h.countGrossVolume _ _ hs) rfl rfl rfl rfl)
    fun _ => h.countGrossVolume _ _ hs)

theorem countNetVolume {s : State} (a : Fin 8) (m : Fin 16) (hs : P s) : P (s.countNetVolume a m) := by
  refine h.modLoad a (fun l => .countNet l _ _ _) (h.meter m _ hs ⟨fun right => ?_, fun _ => id⟩)
  obtain ⟨low, high, -⟩ := right
  exact ⟨low, high, Nat.mod_lt _ (by decide)⟩

theorem loadTick {s : State} (a : Fin 8) (m : Fin 16) (hs : P s) : P (s.loadTick a m) := by
  have net := h.countNetVolume a m hs
  have standing := h.judgeVolume a (h.countGrossVolume a m net)
  have flowing := h.judgeVolume a (h.judgeShots a (h.flowTick a m net))
  unfold State.loadTick
  simp only
  split
  case h_1 => exact h.closingTick a m net
  case h_2 => exact standing
  case h_3 => exact standing
  case h_9 => exact hs
  all_goals exact flowing

/-! ## Stations -/

theorem enterFault {s : State} (st : Fin 4) (hs : P s) : P (s.enterFault st) := by
  have missed := h.missQueue st (s.inEntryArm st) (h.unconfirmShot st (h.faultStation st hs))
  have faulted := Leaving.foldl allArms missed fun t a ht => h.faultArm (s := t) st a ht
  exact Leaving.foldl _ (h.raiseTerminals _ faulted) fun _ a ht => h.completeIfSettled a ht

theorem shotReport {s : State} (st : Fin 4) (v : Nat) (hs : P s) : P (s.shotReport st v) := by
  unfold State.shotReport
  split
  · exact h.backToIdle _ hs
  · have idle := fun sh => h.backToIdle st (h.settleQueue st sh hs)
    exact Leaving.ite (fun _ => idle _) fun _ =>
      h.completeIfSettled _ (h.modLine _ _ (fun _ hx => LineRecord.balanced_deliver _ hx) (idle _))

theorem shotNotTaken {s : State} (st : Fin 4) (hs : P s) : P (s.shotNotTaken st) := by
  unfold State.shotNotTaken
  split
  · exact h.backToIdle _ hs
  · have idle := fun sh => h.backToIdle st (h.settleQueue st sh hs)
    exact Leaving.ite (fun _ => idle _) fun _ =>
      h.completeIfSettled _ (h.fireEvent _ _ (h.modLine _ _ (fun _ hx => LineRecord.balanced_miss _ hx) (idle _)))

theorem noReply {s : State} (st : Fin 4) (f : Station → Station) (hs : P s) : P (s.noReply st f) :=
  Leaving.ite (fun _ => h.enterFault _ (h.station _ _ hs)) fun _ => h.station _ _ (h.station _ _ hs)

theorem selectOutcome {s : State} (st : Fin 4) (a : Fin 8) (r : Option Reply) (hs : P s) :
    P (s.selectOutcome st a r) := by
  unfold State.selectOutcome
  split
  · exact h.noReply _ _ hs
  · have accepted := fun low => h.acceptReply st low hs
    split
    case h_1 => exact h.station _ _ (accepted _)
    case h_2 => exact h.station _ _ (accepted _)
    case h_3 => exact h.enterFault _ (accepted _)
    case h_4 => exact h.enterFault _ (accepted _)
    all_goals exact hs

theorem shotOutcome {s : State} (st : Fin 4) (r : Option Reply) (hs : P s) : P (s.shotOutcome st r) := by
  unfold State.shotOutcome
  split
  · exact h.noReply _ _ hs
  · have accepted := fun low => h.acceptReply st low hs
    split
    case h_1 => exact h.station _ _ (accepted _)
    case h_2 => exact h.shotReport _ _ (accepted _)
    case h_3 => exact h.shotNotTaken _ (accepted _)
    case h_4 => exact h.shotNotTaken _ (accepted _)
    case h_5 => exact h.enterFault _ (accepted _)
    case h_6 => exact hs

theorem pollOutcome {s : State} (st : Fin 4) (r : Option Reply) (hs : P s) : P (s.pollOutcome st r) := by
  unfold State.pollOutcome
  split
  · exact h.noReply _ _ hs
  · have accepted := fun low => h.acceptReply st low hs
    split
    case h_1 => exact h.station _ _ (accepted _)
    case h_2 => exact h.station _ _ (accepted _)
    case h_3 => exact h.shotReport _ _ (accepted _)
    case h_4 => exact h.shotNotTaken _ (accepted _)
    case h_5 => exact h.shotNotTaken _ (accepted _)
    case h_6 => exact h.enterFault _ (accepted _)

theorem outcome {s : State} (t : Txn) (r : Option Reply) (hs : P s) : P (s.outcome t r) := by
  unfold State.outcome
  split
  · split
    · exact h.answerRestore _ _ hs
    all_goals exact hs
  · split
    case h_1 => exact h.selectOutcome _ _ _ hs
    case h_2 => exact h.shotOutcome _ _ hs
    case h_3 => exact h.pollOutcome _ _ hs
    case h_4 => exact h.clearOutcome _ _ hs

end Progress

/-! ## Events -/

/-- A property `R` of the states between two events, which the progress within an event may leave as long as `P` is kept:
the end of the event restores it. -/
structure Events (P : State → Prop) (Q : Fin 8 → State → Prop) (R : State → Prop) : Prop extends Aside R where
  progress : Progress P Q
  inner : ∀ {s : State}, R s → P s
  ended : ∀ {s0 s : State}, R s0 → P s → R (State.endEvent s0 s)
  meter : ∀ {s : State} (m : Fin 16) (f : Meter → Meter), R s →
    MeterMove s.settings.strayThreshold (s.meter m) (f (s.meter m)) → R (s.modMeter m f)
  load : ∀ {s : State} (a : Fin 8) {g : Load → Load}, (∀ l, LoadMove l (g l)) → R s → R (s.modLoad a g)
  waitTimer : ∀ {s : State} (a : Fin 8), R s → R (s.shareTimerExpired a)

/-- What the progress of loads keeps throughout it keeps between the events. -/
theorem Progress.events {P : State → Prop} {Q : Fin 8 → State → Prop} (h : Progress P Q) : Events P Q P where
  toAside := h.toAside
  progress := h
  inner := id
  ended _ hs := h.endEvent hs
  meter := h.meter
  load a _ hg hs := h.modLoad a hg hs
  waitTimer := h.waitTimer

namespace Events

variable {P : State → Prop} {Q : Fin 8 → State → Prop} {R : State → Prop} (h : Events P Q R)
include h

theorem strayTick {s : State} (m : Fin 16) (hs : R s) : R (s.strayTick m) := by
  refine Leaving.ite (fun _ => hs) fun _ => ?_
  have counted : R (s.modMeter m fun x =>
      { x with stray := x.stray + 1,
               silent := x.silent || decide ((s.meter m).stray + 1 = s.settings.strayThreshold) }) := by
    refine h.meter m _ hs ⟨id, fun _ silent reached => ?_⟩
    simp only [Bool.or_eq_true, decide_eq_true_eq] at reached ⊢
    by_cases met : (s.meter m).stray + 1 = s.settings.strayThreshold
    · exact .inr met
    · exact .inl (silent (by omega))
  exact Leaving.ite (fun _ => h.raiseTerminals _ counted) fun _ => counted

theorem tick {s : State} (m : Fin 16) (hs : R s) : R (s.tick m) := by
  unfold State.tick
  split
  · exact h.strayTick _ hs
  · exact h.ended hs (h.progress.loadTick _ _ (h.inner hs))

theorem pulse {s : State} (m : Fin 16) (hs : R s) : R (s.pulse m) := by
  refine Leaving.ite (fun _ => hs) fun _ => Leaving.ite (fun more => h.meter m _ hs ⟨fun right => ?_, fun _ => id⟩) fun _ =>
    h.tick m (h.meter m _ hs ⟨fun right => ?_, fun _ => id⟩)
  · obtain ⟨low, high, rest⟩ := right
    exact ⟨by simp only; omega, by simp only; omega, rest⟩
  · obtain ⟨low, high, rest⟩ := right
    exact ⟨low.trans high, le_rfl, rest⟩

theorem endTxn {s : State} (t : Txn) (r : Option Reply) (hs : R s) : R (s.endTxn t r) :=
  h.arbitrate (h.bus _ (h.ended hs (h.progress.outcome _ _ (h.inner hs))))

theorem busReplied {s : State} (b0 b1 b2 : Byte) (hs : R s) : R (s.busReplied b0 b1 b2) := by
  unfold State.busReplied
  split
  · exact hs
  · split
    · exact hs
    · split
      · exact hs
      · exact h.endTxn _ _ hs

theorem windowClosed {s : State} (hs : R s) : R s.windowClosed := by
  unfold State.windowClosed
  split
  · exact hs
  · split
    · exact hs
    · exact h.endTxn _ _ hs

theorem shotTimedOut {s : State} (st : Fin 4) (hs : R s) : R (s.shotTimedOut st) :=
  Leaving.ite (fun _ => h.ended hs (h.progress.enterFault _ (h.inner hs))) fun _ => hs

theorem noFlowElapsed {s : State} (a : Fin 8) (hs : R s) : R (s.noFlowElapsed a) := by
  refine Leaving.ite (fun elapsed => h.ended hs (h.progress.enterClosing (.inl (h.progress.setDue a _ (h.progress.addFault a _ (h.inner hs)))) (.inl ?_)))
    fun _ => hs
  intro idle
  simp only [State.setDue, State.addFault, State.modLoad_arm_state] at idle
  simp [idle, ArmState.isFlowing] at elapsed

theorem holdElapsed {s : State} (a : Fin 8) (hs : R s) : R (s.holdElapsed a) := by
  refine Leaving.ite (fun elapsed => h.ended hs (h.progress.enterClosing (.inl (h.progress.setDue a _ (h.inner hs))) (.inl ?_))) fun _ => hs
  simp [State.setDue, elapsed.2]

theorem settleElapsed {s : State} (a : Fin 8) (hs : R s) : R (s.settleElapsed a) :=
  Leaving.ite (fun _ => h.ended hs (h.progress.completeIfSettled _ (h.progress.timers a _ (h.inner hs) rfl rfl rfl rfl))) fun _ => hs

theorem shareWaitElapsed {s : State} (a : Fin 8) (hs : R s) : R (s.shareWaitElapsed a) :=
  have expired := h.waitTimer a hs
  Leaving.ite (fun _ => h.ended expired (h.progress.fireEvent _ _
    (h.progress.raise _ (raisable_lane _ _ (by decide)) (h.inner expired)))) fun _ => hs

theorem loadStopped {s : State} (p : Port) (arm : Byte) (load : Word24) (hs : R s) : R (s.loadStopped p arm load).1 := by
  unfold State.loadStopped
  split
  · exact hs
  · rename_i a l addressed
    exact h.ended hs (h.progress.stopArm (h.inner hs) (State.load?_of_addressOpenLoad addressed))

theorem loadAmended {s : State} (p : Port) (load preset : Word24) (hs : R s) : R (s.loadAmended p load preset).1 := by
  unfold State.loadAmended
  split
  · exact hs
  · split
    · exact hs
    · split
      · exact hs
      · split
        · exact hs
        · split
          · exact hs
          · refine h.load _ (fun l => ?_) (h.ended hs (h.progress.amendArm _ _ (h.inner hs)))
            split
            · exact .of_same rfl rfl rfl rfl rfl
            · exact .refl l

theorem loadHeld {s : State} (p : Port) (arm : Byte) (load : Word24) (hs : R s) : R (s.loadHeld p arm load).1 := by
  unfold State.loadHeld
  split
  · exact hs
  · exact h.ended hs (h.progress.addCauses _ _ (h.inner hs))

theorem holdReleased {s : State} (p : Port) (arm : Byte) (load : Word24) (hs : R s) :
    R (s.holdReleased p arm load).1 := by
  unfold State.holdReleased
  split
  · exact hs
  · split
    · exact h.ended hs (h.progress.removeCause _ _ (h.inner hs))
    · exact hs

theorem loadResumed {s : State} (p : Port) (arm : Byte) (load : Word24) (hs : R s) : R (s.loadResumed p arm load).1 := by
  unfold State.loadResumed
  split
  · exact hs
  · split
    · exact hs
    · split
      · exact h.ended hs (h.progress.removeCause _ _ (h.inner hs))
      · exact hs

theorem checkpointMarked {s : State} (p : Port) (arm : Byte) (load : Word24) (n m : Byte) (hs : R s) :
    R (s.checkpointMarked p arm load n m).1 := by
  unfold State.checkpointMarked
  split
  · exact hs
  · split
    · exact hs
    · split
      · exact hs
      · exact h.ended hs (h.progress.markFlag _ _ _ (h.inner hs))
      · exact h.ended hs (h.progress.addCauses _ _ (h.progress.markFlag _ _ _ (h.inner hs)))

theorem checkpointCleared {s : State} (p : Port) (arm : Byte) (load : Word24) (n : Byte) (hs : R s) :
    R (s.checkpointCleared p arm load n).1 := by
  unfold State.checkpointCleared
  split
  · exact hs
  · split
    · exact hs
    · split
      · exact h.ended hs (h.progress.removeCause _ _ (h.progress.modLoad _ (fun l => .setFlag l _ _) (h.inner hs)))
      · exact hs

end Events

end Sys2Proof.Machine
end

section
/-! PROOFS. Every command, gone through once: a property kept by the progress of loads and by the single changes of the other
blocks is kept by every command, and every command completes. -/

namespace Sys2Proof.Machine

/-- The operations that are one event on the loads or the stations. -/
structure EventEntries (P : State → Prop) : Prop where
  pulse : ∀ {s : State} (m : Fin 16), P s → P (s.pulse m)
  busReplied : ∀ {s : State} (b0 b1 b2 : Byte), P s → P (s.busReplied b0 b1 b2)
  windowClosed : ∀ {s : State}, P s → P s.windowClosed
  frameSent : ∀ {s : State}, P s → P s.frameSent
  changeoverOver : ∀ {s : State} (st : Fin 4), P s → P (s.changeoverOver st)
  pollDue : ∀ {s : State} (st : Fin 4), P s → P (s.pollDue st)
  shotTimedOut : ∀ {s : State} (st : Fin 4), P s → P (s.shotTimedOut st)
  noFlowElapsed : ∀ {s : State} (a : Fin 8), P s → P (s.noFlowElapsed a)
  settleElapsed : ∀ {s : State} (a : Fin 8), P s → P (s.settleElapsed a)
  holdElapsed : ∀ {s : State} (a : Fin 8), P s → P (s.holdElapsed a)
  shareWaitElapsed : ∀ {s : State} (a : Fin 8), P s → P (s.shareWaitElapsed a)
  restoreRequested : ∀ {s : State} (p : Port) (b : Byte), P s → P (s.restoreRequested p b).1
  loadStopped : ∀ {s : State} (p : Port) (arm : Byte) (n : Word24), P s → P (s.loadStopped p arm n).1
  loadAmended : ∀ {s : State} (p : Port) (n v : Word24), P s → P (s.loadAmended p n v).1
  loadHeld : ∀ {s : State} (p : Port) (arm : Byte) (n : Word24), P s → P (s.loadHeld p arm n).1
  holdReleased : ∀ {s : State} (p : Port) (arm : Byte) (n : Word24), P s → P (s.holdReleased p arm n).1
  loadResumed : ∀ {s : State} (p : Port) (arm : Byte) (n : Word24), P s → P (s.loadResumed p arm n).1
  checkpointMarked : ∀ {s : State} (p : Port) (arm : Byte) (n : Word24) (c m : Byte), P s →
    P (s.checkpointMarked p arm n c m).1
  checkpointCleared : ∀ {s : State} (p : Port) (arm : Byte) (n : Word24) (c : Byte), P s →
    P (s.checkpointCleared p arm n c).1

/-- The operations by which the progress of loads is entered: these, and those that change the allocator or the trips. -/
structure Entries (P : State → Prop) : Prop extends EventEntries P where
  capacitySet : ∀ {s : State} (b : Byte), P s → P (s.capacitySet b).1
  esdAsserted : ∀ {s : State}, P s → P s.esdAsserted
  headerLost : ∀ {s : State}, P s → P s.headerLost
  laneLost : ∀ {s : State} (l : Fin 4), P s → P (s.laneLost l)

/-- The events keep what holds between them. -/
theorem Events.entries {P : State → Prop} {Q : Fin 8 → State → Prop} {R : State → Prop} (h : Events P Q R) :
    EventEntries R where
  pulse m hs := h.pulse m hs
  busReplied b0 b1 b2 hs := h.busReplied b0 b1 b2 hs
  windowClosed hs := h.windowClosed hs
  frameSent hs := h.frameSent hs
  changeoverOver st hs := h.changeoverOver st hs
  pollDue st hs := h.pollDue st hs
  shotTimedOut st hs := h.shotTimedOut st hs
  noFlowElapsed a hs := h.noFlowElapsed a hs
  settleElapsed a hs := h.settleElapsed a hs
  holdElapsed a hs := h.holdElapsed a hs
  shareWaitElapsed a hs := h.shareWaitElapsed a hs
  restoreRequested p b hs := h.restoreRequested p b hs
  loadStopped p arm n hs := h.loadStopped p arm n hs
  loadAmended p n v hs := h.loadAmended p n v hs
  loadHeld p arm n hs := h.loadHeld p arm n hs
  holdReleased p arm n hs := h.holdReleased p arm n hs
  loadResumed p arm n hs := h.loadResumed p arm n hs
  checkpointMarked p arm n c m hs := h.checkpointMarked p arm n c m hs
  checkpointCleared p arm n c hs := h.checkpointCleared p arm n c hs

/-- A load that has just been started: nothing has flowed and no shot has fallen due. -/
structure Load.Fresh (l : Load) : Prop where
  volumes : l.data.volumesAdd
  lines : ∀ x ∈ l.lines, x.counts.balanced

/-- A property of states that every command keeps, by the changes that the commands make. -/
structure Commands (P : State → Prop) : Prop extends Entries P where
  port : ∀ {s : State} (p : Port) (f : PortState → PortState), P s → PortMove p (s.port p) (f (s.port p)) →
    P (s.modPort p f)
  meter : ∀ {s : State} (m : Fin 16) (f : Meter → Meter), P s →
    MeterMove s.settings.strayThreshold (s.meter m) (f (s.meter m)) → P (s.modMeter m f)
  station : ∀ {s : State} (st : Fin 4) (f : Station → Station), P s → P (s.modStation st f)
  bus : ∀ {s : State} (b : Bus), P s → P { s with bus := b }
  enable : ∀ {s : State} (a : Fin 8) (e : Bool), P s → P (s.modArm a fun x => { x with enable := e })
  settings : ∀ {s : State} (x : Settings), P s → x.strayThreshold = s.settings.strayThreshold →
    P { s with settings := x }
  threshold : ∀ {s : State} (x : Settings), P s → 1 ≤ x.strayThreshold →
    P { s with settings := x,
               meters := s.meters.map (Meter.withThreshold s.settings.strayThreshold x.strayThreshold) }
  capacity : ∀ {s : State} (n : Nat), P s → s.mode = .configure → P (s.modHeader fun h => { h with capacity := n })
  probe : ∀ {s : State} (c : Fin 16) (f : Probe → Probe), P s → P (s.modProbe c f)
  scan : ∀ {s : State} (x : Option Conversion), P s → P { s with scan := x }
  operate : ∀ {s : State}, P s → P { s with mode := .operate }
  configure : ∀ {s : State}, P s → (∀ a, (s.arm a).state = .idle) → P { s with mode := .configure }
  slot : ∀ {s : State} (k : Fin 32) (r : RecipeSlot), P s → P (s.setSlot k r)
  queue : ∀ {s : State} (l : Fin 4) (q : List Authorization), P s →
    q.length ≤ (s.queue l).length ∨ q.length ≤ Config.laneQueueLimit → P (s.setQueue l q)
  authCounter : ∀ {s : State} (n : Nat), P s → P { s with authCounter := n }
  freeCount : ∀ {s : State} (n : Nat), P s → P { s with freeCount := n }
  seconds : ∀ {s : State} (n : Nat), P s → P { s with seconds := n }
  undeliver : ∀ {s : State} (n : Nat), P s → P (s.removeDelivered n)
  reserve : ∀ {s : State} (r n : Nat), P s → P { s with reservations := r, loadCounter := n }
  clearPage : ∀ {s : State} (a : Fin 8), P s → P (s.modPage a fun _ => TracePage.reset)
  start : ∀ {s : State} {a : Fin 8} {f : Arm → Arm} {l : Load}, P s → s.mode = .operate → (s.arm a).state = .idle →
    (f (s.arm a)).state = .prime → (f (s.arm a)).ethanolOpening = 0 → (f (s.arm a)).load = some l → l.Fresh →
    P (s.modArm a f)
  trips : ∀ {s : State} (x : Trips), P s → x.header = s.trips.header ∨ x.header = true → P { s with trips := x }
  poweredOn : ∀ {s : State} (x : Trips), P s → P (s.poweredOn x)

/-- A command completes in a state with the property. -/
def Ends (P : State → Prop) (r : Result) : Prop := ∃ t, r = .next t ∧ P t

/-- A command that completes in a state with the property. -/
theorem Ends.next {P : State → Prop} {t : State} (h : P t) : Ends P (.next t) := ⟨t, rfl, h⟩

/-! ## What the checks of the commands give -/

/-- A meter that is configured with a K-factor of at least 1. -/
theorem meterConfigured_move {thr k : Nat} (x : Meter) (e : Bool) (hk : 1 ≤ k) :
    MeterMove thr x (State.meterConfigured x e k) := by
  unfold State.meterConfigured
  split
  · exact ⟨id, fun _ => id⟩
  · exact ⟨fun right => ⟨hk, le_rfl, right.2.2⟩, fun _ => id⟩

/-- A START that passes its checks meets an IDLE arm in OPERATE. -/
theorem startChecks_ok {s : State} {a : Fin 8} {choice : Word16} {v : Nat} {x : Authorization × Nat × Recipe}
    (ok : s.startChecks a choice v = .ok x) : s.mode = .operate ∧ (s.arm a).state = .idle := by
  unfold State.startChecks at ok
  split at ok
  · exact absurd ok (by simp)
  · rename_i mode
    split at ok
    · exact absurd ok (by simp)
    · rename_i idle
      simp only [not_or, ne_eq, not_not] at mode idle
      exact ⟨mode, idle.2⟩

/-- The load that a START creates is fresh. -/
theorem newLoad_fresh (s : State) (n : Nat) (a : Fin 8) (x : Authorization) (rev : Nat) (r : Recipe) (v : Nat) :
    (s.newLoad n a x rev r v).Fresh := by
  refine ⟨rfl, fun y hy => ?_⟩
  obtain ⟨k, -, rfl⟩ := List.mem_map.mp hy
  rfl

/-- A meter at a START. -/
theorem meterAtStart_move (thr : Nat) (x : Meter) : MeterMove thr x (State.meterAtStart x) :=
  ⟨fun right => ⟨right.1.trans right.2.1, le_rfl, Nat.zero_lt_succ _⟩, fun _ => id⟩

/-- The window that a TRACE READ leaves has its pointer inside. -/
theorem entriesFrom_inside (s : State) (p : Port) :
    ∀ (n : Nat) {w : TraceWindow}, w.inside → (s.entriesFrom p n w).2.inside
  | 0, _, hw => hw
  | n + 1, w, hw => entriesFrom_inside s p n (w.advance_inside hw)

/-- A command that stands for a request is what runs when the request's frame is complete. -/
theorem exec_eq_runRequest {i : Instr} (s : State) (h : (encodeRequest i).isSome = true) : exec i s = runRequest i s := by
  cases i <;> first
    | rfl
    | exact absurd h (by simp [encodeRequest])

namespace Commands

variable {P : State → Prop} (h : Commands P)
include h

/-! ## Ports and requests -/

/-- A change of a port's receive state, answer and link alone. -/
theorem line {s : State} (p : Port) (f : PortState → PortState) (hs : P s) (flags : (f (s.port p)).flags = (s.port p).flags)
    (mask : (f (s.port p)).mask = (s.port p).mask) (attention : (f (s.port p)).attention = (s.port p).attention)
    (window : (f (s.port p)).window = (s.port p).window) : P (s.modPort p f) :=
  h.port p f hs (.of_same flags mask attention window)

theorem raise {s : State} (n : Notice) {ps : List Port} (hn : raisable n ps) (hs : P s) : P (s.raise n ps) :=
  List.foldlRecOn ps _ hs fun _ ht p hp => h.port p _ ht (.raise (hn p hp) _)

theorem accept {s : State} (p : Port) (c t : Byte) (hs : P s) : P (s.accept p c t) := h.line p _ hs rfl rfl rfl rfl

theorem respond {s : State} (p : Port) (r : Response) (hs : P s) : P (s.respond p r) := h.line p _ hs rfl rfl rfl rfl

theorem setLink {s : State} (p : Port) (l : Option Link) (hs : P s) : P (s.setLink p l) := h.line p _ hs rfl rfl rfl rfl

theorem clearIfConditional {s : State} (p : Port) (rc : ReqCode) (hs : P s) : P (s.clearIfConditional p rc) :=
  Leaving.ite (fun _ => h.setLink p none hs) fun _ => hs

theorem collide {s : State} (p : Port) (hs : P s) : P (s.collide p) :=
  h.raise _ (raisable_lane _ _ (by decide)) (h.line p _ hs rfl rfl rfl rfl)

theorem discardFrame {s : State} (p : Port) (hs : P s) : P (s.discardFrame p) := h.line p _ hs rfl rfl rfl rfl

/-- Taking a request keeps the property where the owning block's checks and effects do. -/
theorem takeRequest {s : State} (p : Port) (rc : ReqCode) (tag : Byte) {act : State → State × Option Response}
    (hs : P s) (ha : ∀ t, P t → P (act t).1) : P (s.takeRequest p rc tag act) := by
  have accepted := h.accept p rc.toByte tag hs
  refine Leaving.ite (fun _ => h.collide p hs) fun _ => Leaving.ite (fun _ => ?_) fun _ =>
    h.respond p _ (h.clearIfConditional p rc accepted)
  dsimp only
  split
  · exact h.respond p _ (h.clearIfConditional p rc (ha _ accepted))
  · exact h.clearIfConditional p rc (ha _ accepted)

theorem takeBadRequest {s : State} (p : Port) (c t : Byte) (hs : P s) : P (s.takeBadRequest p c t) := by
  have accepted := h.accept p c t hs
  refine Leaving.ite (fun _ => h.collide p hs) fun _ => h.respond p _ ?_
  split
  · exact h.clearIfConditional p _ accepted
  · exact accepted

theorem responseDone {s : State} (p : Port) (hs : P s) : P (s.responseDone p) := by
  unfold State.responseDone
  split
  · exact h.line p _ hs rfl rfl rfl rfl
  · exact hs
  · exact hs

theorem breakTaken {s : State} (p : Port) (hs : P s) : P (s.breakTaken p) :=
  h.port p _ hs ⟨id, id, id, fun _ => by simp [TraceWindow.inside, TraceWindow.reset]⟩

theorem badRequestTaken {s : State} (p : Port) (c t : Byte) (bs : List Byte) (hs : P s) :
    P (s.badRequestTaken p c t bs) := by
  unfold State.badRequestTaken
  split
  · exact hs
  · exact h.takeBadRequest p c t hs

/-! ## Notices -/

theorem noticesCleared {s : State} (p : Port) (w : Word16) (hs : P s) : P (State.noticesCleared p w s).1 := by
  unfold State.noticesCleared
  split
  · exact hs
  · dsimp only [answer]
    exact h.port p _ hs (.withFlags (and_within_class _))

theorem noticesSet {s : State} (p : Port) (w : Word16) (hs : P s) : P (State.noticesSet p w s).1 := by
  unfold State.noticesSet
  split
  · exact hs
  · rename_i own
    dsimp only [answer]
    exact h.port p _ hs (.withFlags fun hx => or_within_class hx (by simpa [State.namesForeignFlag] using own))

theorem maskSet {s : State} (p : Port) (w : Word16) (hs : P s) : P (State.maskSet p w s).1 := by
  unfold State.maskSet
  split
  · exact hs
  · rename_i own
    dsimp only [answer]
    exact h.port p _ hs (.withMask (by simpa [State.namesForeignFlag] using own))

/-! ## Configuration -/

theorem enableProbe {s : State} (c : Fin 16) (hs : P s) : P (s.enableProbe c) := by
  refine Leaving.ite (fun _ => hs) fun _ => ?_
  dsimp only
  split
  · exact h.scan _ (h.probe _ _ hs)
  · exact h.probe _ _ hs

theorem disableProbe {s : State} (c : Fin 16) (hs : P s) : P (s.disableProbe c) :=
  Leaving.ite (fun _ => h.scan _ (h.probe _ _ hs)) fun _ => hs

theorem answerRestore {s : State} (st : Fin 4) (r : Option ReplyState) (hs : P s) : P (s.answerRestore st r) := by
  unfold State.answerRestore
  split
  · exact hs
  · exact h.respond _ _ (h.station _ _ hs)

theorem disableStation {s : State} (st : Fin 4) (hs : P s) : P (s.disableStation st) := by
  refine Leaving.ite (fun _ => hs) fun _ => ?_
  have disabled := h.bus ((((s.dropShot st).modStation st fun x =>
    { x with state := .off, request := false, queue := [], changeover := .stopped, poll := .stopped,
             shotTimer := .stopped }).modTxn fun t => if t.station = st then { t with discarded := true } else t).bus)
    (h.station st (fun x =>
      { x with state := .off, request := false, queue := [], changeover := .stopped, poll := .stopped,
               shotTimer := .stopped }) (h.bus (s.dropShot st).bus (h.station st (fun x => { x with shot := none }) hs)))
  exact Leaving.ite (fun _ => disabled) fun _ => h.answerRestore st none disabled

theorem configureArm {s : State} (g i : Byte) (vs : List Byte) (hs : P s) : P (s.configureArm g i vs).1 := by
  unfold State.configureArm
  split
  · split
    · exact hs
    · exact h.enable _ _ hs
  · exact hs

theorem configureLane {s : State} (g i : Byte) (vs : List Byte) (hs : P s) : P (s.configureLane g i vs).1 := by
  unfold State.configureLane
  split
  · split
    · exact hs
    · exact h.settings _ hs rfl
  · exact hs

theorem configureMeter {s : State} (g i : Byte) (vs : List Byte) (hs : P s) : P (s.configureMeter g i vs).1 := by
  unfold State.configureMeter
  split
  · split
    · exact hs
    · split
      · rename_i inside
        dsimp only [State.configuredTo, answer]
        exact h.meter _ _ hs (meterConfigured_move _ _ (inRange_eq_true_iff.mp inside).1)
      · exact hs
  · exact hs

theorem configureProbe {s : State} (g i : Byte) (vs : List Byte) (hs : P s) : P (s.configureProbe g i vs).1 := by
  unfold State.configureProbe
  split
  · split
    · exact hs
    · exact h.enableProbe _ hs
    · exact h.disableProbe _ hs
  · exact hs

theorem configureTable {s : State} (g i : Byte) (vs : List Byte) (hs : P s) : P (s.configureTable g i vs).1 := by
  unfold State.configureTable
  split
  · split
    · exact hs
    · exact h.settings _ hs rfl
  · split
    · exact hs
    · exact h.settings _ hs rfl
  · exact hs

theorem configureStation {s : State} (g i : Byte) (vs : List Byte) (hs : P s) : P (s.configureStation g i vs).1 := by
  unfold State.configureStation
  split
  · split
    · exact hs
    · split
      · exact hs
      · split
        · exact hs
        · dsimp only [State.configuredTo, answer]
          exact h.station _ _ (Leaving.ite (fun _ => h.station _ _ hs) fun _ => h.disableStation _ hs)
  · exact hs

theorem configureTimers {s : State} (g i : Byte) (vs : List Byte) (hs : P s) : P (s.configureTimers g i vs).1 := by
  unfold State.configureTimers
  iterate 6
    split
    · exact hs
  split
  · exact hs
  · rename_i inside
    rw [Bool.not_eq_false, inRange_eq_true_iff] at inside
    exact h.threshold
      { s.settings with
        noFlowSeconds := fieldAt vs 0 1, settleTenths := fieldAt vs 1 1, holdMinutes := fieldAt vs 2 1,
        shareWaitSeconds := fieldAt vs 3 2, overrunLimit := fieldAt vs 5 2, strayThreshold := fieldAt vs 7 2 }
      hs inside.1

theorem configureHeader {s : State} (g i : Byte) (vs : List Byte) (hs : P s) (mode : s.mode = .configure) :
    P (s.configureHeader g i vs).1 := by
  unfold State.configureHeader
  split
  · exact hs
  · split
    · exact hs
    · exact h.capacity _ hs mode

theorem configured {s : State} (g i : Byte) (vs : List Byte) (hs : P s) : P (State.configured g i vs s).1 := by
  unfold State.configured
  split
  · exact hs
  · rename_i mode
    split
    case h_1 => exact h.configureArm g i vs hs
    case h_2 => exact h.configureLane g i vs hs
    case h_3 => exact h.configureMeter g i vs hs
    case h_4 => exact h.configureProbe g i vs hs
    case h_5 => exact h.configureTable g i vs hs
    case h_6 => exact h.configureStation g i vs hs
    case h_7 => exact h.configureTimers g i vs hs
    case h_8 => exact h.configureHeader g i vs hs (by simpa using mode)
    case h_9 => exact hs

theorem operationBegun {s : State} (hs : P s) : P s.operationBegun.1 := by
  unfold State.operationBegun
  split
  · exact hs
  · split
    · exact hs
    · exact h.operate hs

theorem returnedToConfigure {s : State} (hs : P s) : P s.returnedToConfigure.1 := by
  unfold State.returnedToConfigure
  split
  · exact hs
  · split
    · exact hs
    · rename_i idle
      refine h.configure hs fun a => ?_
      have all : ∀ a ∈ allArms, (s.arm a).state = .idle := by simpa using idle
      exact all a (mem_allArms a)

/-! ## Recipes and authorizations -/

theorem recipeRead {s : State} (p : Port) (k l : Byte) (hs : P s) : P (State.recipeRead p k l s).1 := by
  unfold State.recipeRead
  split
  · split
    · exact hs
    · exact Leaving.ite (fun _ => h.setLink _ _ hs) fun _ => hs
  · exact hs

theorem recipeCommitted {s : State} (p : Port) (k : Byte) (c : List Byte) (hs : P s) :
    P (State.recipeCommitted p k c s).1 := by
  unfold State.recipeCommitted
  split
  · exact hs
  · split
    · exact hs
    · exact h.slot _ _ hs

theorem recipeWithdrawn {s : State} (p : Port) (k : Byte) (hs : P s) : P (State.recipeWithdrawn p k s).1 := by
  unfold State.recipeWithdrawn
  split
  · exact hs
  · split
    · exact hs
    · exact h.slot _ _ hs

theorem authorizationIssued {s : State} (p : Port) (lane arms slot : Byte) (rev : Word16) (lim : Word24)
    (c : BitVec 64) (e : Byte) (hs : P s) : P (State.authorizationIssued p lane arms slot rev lim c e s).1 := by
  unfold State.authorizationIssued
  split
  · iterate 4
      split
      · exact hs
    split
    · exact hs
    · rename_i room
      refine h.queue _ _ (h.authCounter _ hs) (.inr ?_)
      rw [List.length_append, List.length_singleton]
      omega
  · exact hs

theorem removeId {s : State} (l : Fin 4) (id : Nat) (hs : P s) : P (s.removeId l id) :=
  h.queue _ _ hs (.inl (List.length_filter_le _ _))

theorem authorizationRevoked {s : State} (id : Word16) (hs : P s) : P (State.authorizationRevoked id s).1 := by
  unfold State.authorizationRevoked
  split
  · exact hs
  · exact h.removeId _ _ hs

theorem authorizationsListed {s : State} (p : Port) (lane : Byte) (hs : P s) :
    P (State.authorizationsListed p lane s).1 := by
  unfold State.authorizationsListed
  split
  · split
    · exact h.freeCount _ hs
    · exact hs
  · exact hs

theorem authorizationExpired {s : State} (id : Nat) (hs : P s) : P (s.authorizationExpired id) := by
  unfold State.authorizationExpired
  split
  · exact hs
  · exact h.raise _ (raisable_lane _ _ (by decide)) (h.removeId _ _ hs)

theorem secondPassed {s : State} (hs : P s) : P s.secondPassed :=
  Leaving.foldl _ (h.seconds _ hs) fun _ _ ht => h.queue _ _ ht (.inl (by rw [List.length_map]))

/-! ## Starting a load -/

theorem startEffect {s : State} (a : Fin 8) (x : Authorization) (rev : Nat) (r : Recipe) (v : Nat) (hs : P s)
    (mode : s.mode = .operate) (idle : (s.arm a).state = .idle) : P (s.startEffect a x rev r v) := by
  have reserved := h.reserve (s.reservations + 1) (counterAfter Config.maxLoadNumber s.drawLoadNumber)
    (h.removeId (laneOf a) x.id hs)
  have metered := h.meter (ethanolOf a) State.meterAtStart
    (h.meter (gasolineOf a) State.meterAtStart (h.clearPage a reserved) (meterAtStart_move _ _)) (meterAtStart_move _ _)
  unfold State.startEffect
  dsimp only
  refine h.start (l := s.newLoad s.drawLoadNumber a x rev r v) metered mode idle ?_ ?_ ?_ (newLoad_fresh s _ a x rev r v)
  all_goals rfl

theorem loadStarted {s : State} (p : Port) (arm : Byte) (c : Word16) (v : Word24) (hs : P s) :
    P (State.loadStarted p arm c v s).1 := by
  unfold State.loadStarted
  split
  · exact hs
  · split
    · exact hs
    · rename_i ok
      obtain ⟨mode, idle⟩ := startChecks_ok ok
      exact h.startEffect _ _ _ _ _ hs mode idle

/-! ## Records, probes, trips and trace reads -/

theorem loadReadOf {s : State} (p : Port) (r : LoadRecord) (l : Byte) (hs : P s) : P (s.loadReadOf p r l).1 := by
  unfold State.loadReadOf
  split
  · split
    · exact hs
    · exact Leaving.ite (fun _ => h.setLink _ _ hs) fun _ => hs
  · exact hs

theorem loadRead {s : State} (p : Port) (sel : Byte) (v : Word24) (l : Byte) (hs : P s) :
    P (State.loadRead p sel v l s).1 := by
  unfold State.loadRead
  split
  · unfold State.loadReadByNumber
    split
    · exact hs
    · split
      · exact hs
      · exact h.loadReadOf _ _ _ hs
  · unfold State.loadReadByArm
    split
    · split
      · exact hs
      · split
        · exact hs
        · exact h.loadReadOf _ _ _ hs
    · exact hs
  · exact hs

omit h in
theorem deliveredRead {s : State} (n : Word24) (hs : P s) : P (State.deliveredRead n s).1 := by
  unfold State.deliveredRead
  split
  · exact hs
  · split
    · split
      · exact hs
      · exact hs
    · split
      · exact hs
      · split
        · exact hs
        · exact hs

theorem deliveredCleared {s : State} (n : Word24) (hs : P s) : P (State.deliveredCleared n s).1 := by
  unfold State.deliveredCleared
  split
  · exact hs
  · split
    · exact hs
    · split
      · exact hs
      · exact h.undeliver _ hs

theorem strayCleared {s : State} (m : Byte) (hs : P s) : P (State.strayCleared m s).1 := by
  unfold State.strayCleared
  split
  · dsimp only [answer]
    exact h.meter _ _ hs ⟨id, fun low _ reached => absurd (low.trans reached) (by simp)⟩
  · exact hs

theorem conversionDone {s : State} (x : Int) (hs : P s) : P (s.conversionDone x) := by
  unfold State.conversionDone
  split
  · exact hs
  · refine h.scan _ (Leaving.ite (fun _ => ?_) fun _ => hs)
    exact Leaving.ite (fun _ => h.raise _ (raisable_terminals _) (h.probe _ _ hs)) fun _ => h.probe _ _ hs

theorem esdCleared {s : State} (hs : P s) : P s.esdCleared :=
  Leaving.ite (fun _ => h.raise _ (raisable_lane _ _ (by decide)) (h.trips _ hs (.inl rfl))) fun _ => hs

theorem headerRestored {s : State} (hs : P s) : P s.headerRestored :=
  Leaving.ite (fun _ => hs) fun _ => h.raise _ (raisable_lane _ _ (by decide)) (h.trips _ hs (.inr rfl))

theorem laneRestored {s : State} (l : Fin 4) (hs : P s) : P (s.laneRestored l) :=
  Leaving.ite (fun _ => hs) fun _ => h.raise _ (raisable_lane _ _ (by decide)) (h.trips _ hs (.inl rfl))

theorem windowSet {s : State} (p : Port) (m p0 p1 c0 c1 : Byte) (hs : P s) :
    P (State.windowSet p m p0 p1 c0 c1 s).1 := by
  unfold State.windowSet
  split
  · exact hs
  · split
    · exact hs
    split
    · exact hs
    rename_i pages
    split
    · exact hs
    split
    · exact hs
    rename_i columns
    rw [Bool.not_eq_false, inRange_eq_true_iff] at pages columns
    dsimp only [answer]
    exact h.port p _ hs (.of_window fun _ => ⟨le_rfl, pages.1, le_rfl, columns.1⟩)

theorem traceTaken {s : State} (p : Port) (n : Byte) (hs : P s) : P (State.traceTaken p n s).1 := by
  unfold State.traceTaken
  split
  · exact hs
  · dsimp only [answer]
    exact h.port p _ hs (.of_window (entriesFrom_inside s p _))

/-! ## The commands -/

theorem takeRequestEnds {s : State} (p : Port) (rc : ReqCode) (tag : Byte) {act : State → State × Option Response}
    (hs : P s) (ha : ∀ t, P t → P (act t).1) : Ends P (.next (s.takeRequest p rc tag act)) :=
  .next (h.takeRequest p rc tag hs ha)

/-- Every request completes in a state with the property. -/
theorem runRequest {s : State} (i : Instr) (hs : P s) : Ends P (runRequest i s) := by
  cases i
  case readStatus => exact h.takeRequestEnds _ _ _ hs fun _ ht => ht
  case readNotices => exact h.takeRequestEnds _ _ _ hs fun _ ht => ht
  case clearNotices => exact h.takeRequestEnds _ _ _ hs fun _ => h.noticesCleared _ _
  case setNotices => exact h.takeRequestEnds _ _ _ hs fun _ => h.noticesSet _ _
  case setNoticeMask => exact h.takeRequestEnds _ _ _ hs fun _ => h.maskSet _ _
  case configure p tag group index values =>
    change Ends P (execConfigure p tag group index values s)
    unfold execConfigure
    split
    · exact h.takeRequestEnds _ _ _ hs fun _ => h.configured _ _ _
    · exact .next (h.takeBadRequest _ _ _ hs)
  case beginOperation => exact h.takeRequestEnds _ _ _ hs fun _ => h.operationBegun
  case returnToConfigure => exact h.takeRequestEnds _ _ _ hs fun _ => h.returnedToConfigure
  case readRecipe => exact h.takeRequestEnds _ _ _ hs fun _ => h.recipeRead _ _ _
  case commitRecipe p tag slot content =>
    change Ends P (execCommitRecipe p tag slot content s)
    unfold execCommitRecipe
    split
    · exact h.takeRequestEnds _ _ _ hs fun _ => h.recipeCommitted _ _ _
    · exact .next (h.takeBadRequest _ _ _ hs)
  case withdrawRecipe => exact h.takeRequestEnds _ _ _ hs fun _ => h.recipeWithdrawn _ _
  case issueAuthorization => exact h.takeRequestEnds _ _ _ hs fun _ => h.authorizationIssued _ _ _ _ _ _ _ _
  case revokeAuthorization => exact h.takeRequestEnds _ _ _ hs fun _ => h.authorizationRevoked _
  case listAuthorizations => exact h.takeRequestEnds _ _ _ hs fun _ => h.authorizationsListed _ _
  case startLoad => exact h.takeRequestEnds _ _ _ hs fun _ => h.loadStarted _ _ _ _
  case stopLoad => exact h.takeRequestEnds _ _ _ hs fun _ => h.loadStopped _ _ _
  case amendLoad => exact h.takeRequestEnds _ _ _ hs fun _ => h.loadAmended _ _ _
  case holdLoad => exact h.takeRequestEnds _ _ _ hs fun _ => h.loadHeld _ _ _
  case releaseHold => exact h.takeRequestEnds _ _ _ hs fun _ => h.holdReleased _ _ _
  case resumeLoad => exact h.takeRequestEnds _ _ _ hs fun _ => h.loadResumed _ _ _
  case markCheckpoint => exact h.takeRequestEnds _ _ _ hs fun _ => h.checkpointMarked _ _ _ _ _
  case clearCheckpoint => exact h.takeRequestEnds _ _ _ hs fun _ => h.checkpointCleared _ _ _ _
  case readLoad => exact h.takeRequestEnds _ _ _ hs fun _ => h.loadRead _ _ _ _
  case readDelivered => exact h.takeRequestEnds _ _ _ hs fun _ => deliveredRead _
  case clearDelivered => exact h.takeRequestEnds _ _ _ hs fun _ => h.deliveredCleared _
  case clearStray => exact h.takeRequestEnds _ _ _ hs fun _ => h.strayCleared _
  case setHeaderCapacity => exact h.takeRequestEnds _ _ _ hs fun _ => h.capacitySet _
  case restoreStation => exact h.takeRequestEnds _ _ _ hs fun _ => h.restoreRequested _ _
  case traceWindow => exact h.takeRequestEnds _ _ _ hs fun _ => h.windowSet _ _ _ _ _ _
  case traceRead => exact h.takeRequestEnds _ _ _ hs fun _ => h.traceTaken _ _
  all_goals exact .next hs

theorem takeFrame {s : State} (p : Port) (body : List Byte) (hs : P s) : Ends P (takeFrame p body s) := by
  unfold Machine.takeFrame
  split
  · split
    · exact h.runRequest _ hs
    · exact .next (h.takeBadRequest _ _ _ hs)
  · exact .next hs

theorem execFrameByteReceived {s : State} (p : Port) (b : Byte) (hs : P s) : Ends P (execFrameByteReceived p b s) := by
  unfold Machine.execFrameByteReceived
  split
  · exact .next (h.line p _ hs rfl rfl rfl rfl)
  · exact h.takeFrame _ _ (h.discardFrame p hs)

/-- Every command completes in a state with the property. -/
theorem exec {s : State} (i : Instr) (hs : P s) : Ends P (exec i s) := by
  cases i
  case powerOn => exact .next (h.poweredOn _ hs)
  case secondsTick => exact .next (h.secondPassed hs)
  case frameDiscard p => exact .next (h.discardFrame p hs)
  case frameGapTimeout p => exact .next (h.discardFrame p hs)
  case collision p => exact .next (Leaving.ite (fun _ => h.collide p hs) fun _ => hs)
  case responseSent p => exact .next (h.responseDone p hs)
  case portBreak p => exact .next (h.breakTaken p hs)
  case authExpired id => exact .next (h.authorizationExpired id hs)
  case meterPulse m => exact .next (h.pulse m hs)
  case noFlowTimeout a => exact .next (h.noFlowElapsed a hs)
  case settleTimeout a => exact .next (h.settleElapsed a hs)
  case holdTimeout a => exact .next (h.holdElapsed a hs)
  case shareWaitLong a => exact .next (h.shareWaitElapsed a hs)
  case conversionComplete x => exact .next (h.conversionDone x hs)
  case changeoverTimeout st => exact .next (h.changeoverOver st hs)
  case pollTimerExpiry st => exact .next (h.pollDue st hs)
  case shotTimeout st => exact .next (h.shotTimedOut st hs)
  case busReply b0 b1 b2 => exact .next (h.busReplied b0 b1 b2 hs)
  case replyWindowClose => exact .next (h.windowClosed hs)
  case esdAssert => exact .next (h.esdAsserted hs)
  case esdClear => exact .next (h.esdCleared hs)
  case headerPermissiveLoss => exact .next (h.headerLost hs)
  case headerPermissiveRestore => exact .next (h.headerRestored hs)
  case lanePermissiveLoss l => exact .next (h.laneLost l hs)
  case lanePermissiveRestore l => exact .next (h.laneRestored l hs)
  case frameByteReceived p b => exact h.execFrameByteReceived p b hs
  case badRequest p c t bs => exact .next (h.badRequestTaken p c t bs hs)
  case commandFrameSent => exact .next (h.frameSent hs)
  all_goals
    rw [exec_eq_runRequest s rfl]
    exact h.runRequest _ hs

/-- A step keeps the property, which the waiting commands have no part in. -/
theorem step {s t : State} (waiting : ∀ q, P { s with pending := q }) (hstep : step s = .next t) : P t := by
  unfold Machine.step at hstep
  split at hstep
  · obtain rfl := Host.Outcome.next.inj hstep
    exact waiting s.pending
  · obtain ⟨u, hu, kept⟩ := h.exec _ (waiting _)
    obtain rfl := Host.Outcome.next.inj (hu.symm.trans hstep)
    exact kept

end Commands

end Sys2Proof.Machine
end

section
/-! PROOFS. The invariants that speak of each arm, meter, trace page and delivered record by itself: what such an invariant
must keep to be kept by every step, and the invariants of R36, R37, R86, R90, R119, R160 and R174 as cases of it. -/

namespace Sys2Proof.Machine

namespace State

/-! ## One changed item among the others -/

/-- What holds of every arm, and of the changed one after its change, holds of every arm after it. -/
theorem forall_modArm {R : Fin 8 → Arm → Prop} {s : State} {a : Fin 8} {f : Arm → Arm} (hs : ∀ b, R b (s.arm b))
    (ha : R a (f (s.arm a))) (b : Fin 8) : R b ((s.modArm a f).arm b) := by
  by_cases e : b = a
  · subst e; rwa [modArm_arm_self]
  · rw [modArm_arm_ne s a f b e]; exact hs b

/-- What holds of every meter, and of the changed one after its change, holds of every meter after it. -/
theorem forall_modMeter {R : Meter → Prop} {s : State} {m : Fin 16} {f : Meter → Meter} (hs : ∀ b, R (s.meter b))
    (hm : R (f (s.meter m))) (b : Fin 16) : R ((s.modMeter m f).meter b) := by
  by_cases e : b = m
  · subst e; rwa [modMeter_meter_self]
  · rw [modMeter_meter_ne s m f b e]; exact hs b

/-- What holds of every trace page, and of the changed one after its change, holds of every page after it. -/
theorem forall_modPage {R : TracePage → Prop} {s : State} {a : Fin 8} {f : TracePage → TracePage}
    (hs : ∀ b, R (s.page b)) (ha : R (f (s.page a))) (b : Fin 8) : R ((s.modPage a f).page b) := by
  by_cases e : b = a
  · subst e; rwa [modPage_page_self]
  · rw [modPage_page_ne s a f b e]; exact hs b

/-- What holds of every lane queue, and of the replaced one after it, holds of every queue after it. -/
theorem forall_setQueue {R : List Authorization → Prop} {s : State} {l : Fin 4} {q : List Authorization}
    (hs : ∀ k, R (s.queue k)) (hq : R q) (k : Fin 4) : R ((s.setQueue l q).queue k) := by
  by_cases e : k = l
  · subst e; rwa [setQueue_queue_self]
  · rw [setQueue_queue_ne s l q k e]; exact hs k

/-- What holds of every port, and of the changed one after its change, holds of every port after it. -/
theorem forall_modPort {R : Port → PortState → Prop} {s : State} {p : Port} {f : PortState → PortState}
    (hs : ∀ q, R q (s.port q)) (hp : R p (f (s.port p))) (q : Port) : R q ((s.modPort p f).port q) := by
  by_cases e : q = p
  · subst e; rwa [modPort_port_self]
  · rw [modPort_port_ne s p f q e]; exact hs q

end State

/-! ## The completion of a load -/

/-- The record that a load leaves on the delivered list. -/
def Load.finished (l : Load) (e : EndStatus) (now : Nat) : LoadRecord :=
  { data := l.data.completed e now, armState := .idle, resumePhase := none, mainOpening := 0, ethanolOpening := 0,
    sharesHeld := 0, lines := l.lines.map Line.counts }

/-- An arm that its load has left. -/
def Arm.vacated (x : Arm) : Arm :=
  { x with
    state := .idle, mainOpening := 0, ethanolOpening := 0, noFlow := .stopped, settle := .stopped, hold := .stopped,
    load := none }

namespace State

/-- A load is handed over: its arm is IDLE, its trace page closed by a record, its own record on the delivered list. -/
def handedOver (s : State) (a : Fin 8) (l : Load) (e : EndStatus) (t : TraceRecord) : State :=
  { (s.modPage a fun g => g.append t).modArm a Arm.vacated with
    delivered := s.delivered ++ [l.finished e s.seconds], reservations := s.reservations - 1 }

/-- The notices of a completion. -/
def ended (s : State) (a : Fin 8) : State :=
  let u := s.raise .loadEnded (terminalsAndLane (laneOf a))
  if u.delivered.length = Config.nearlyFull then u.raise .listNearlyFull terminalPorts else u

/-- An arm with a load appends one record to its page. -/
theorem appendTrace_eq {s : State} {a : Fin 8} {l : Load} (hl : s.load? a = some l) (c : TraceCause) :
    ∃ t, s.appendTrace a c = s.modPage a fun g => g.append t := by
  simp only [appendTrace, hl]
  exact ⟨_, rfl⟩

/-- Without a load nothing completes. -/
theorem completeLoad_of_none {s : State} {a : Fin 8} (hl : s.load? a = none) (e : EndStatus) : s.completeLoad a e = s := by
  simp only [completeLoad, hl]

/-- A completion hands the load over and raises its notices. -/
theorem completeLoad_eq {s : State} {a : Fin 8} {l : Load} (hl : s.load? a = some l) (e : EndStatus) :
    ∃ t, s.completeLoad a e = (s.handedOver a l e t).ended a := by
  have present : (s.arm a).load = some l := hl
  obtain ⟨t, appended⟩ := appendTrace_eq (a := a) (s := (s.modArm a fun x =>
    { x with state := .idle, mainOpening := 0, ethanolOpening := 0, noFlow := .stopped, settle := .stopped,
             hold := .stopped }).modLoad a fun x => { x with data := x.data.completed e s.seconds, resume := none })
    (by simp [modArm_modLoad, load?_modArm_self, present]; rfl) .finish
  refine ⟨t, ?_⟩
  simp only [completeLoad, hl, appended]
  simp only [handedOver, ended, modLoad, modArm, modPage, Vector.set_set, Vector.getElem_set_self]
  rfl

end State

/-! ## Invariants of the single items -/

/-- The property says something of each arm by itself and the mode, of each meter and the stray threshold, of each trace
page and of each delivered record. -/
structure EachItem (A : Mode → Arm → Prop) (M : Nat → Meter → Prop) (G : TracePage → Prop) (D : LoadRecord → Prop)
    (s : State) : Prop where
  arms : ∀ a, A s.mode (s.arm a)
  meters : ∀ m, M s.settings.strayThreshold (s.meter m)
  pages : ∀ a, G (s.page a)
  delivered : ∀ r ∈ s.delivered, D r

/-- What such a property must keep to be kept by every step. -/
structure ItemLaws (A : Mode → Arm → Prop) (M : Nat → Meter → Prop) (G : TracePage → Prop) (D : LoadRecord → Prop) :
    Prop where
  arm : ∀ {m : Mode} {x y : Arm}, A m x → ArmMove x y → A m y
  vacant : ∀ {m : Mode} {x : Arm}, x.state = .idle → x.mainOpening = 0 → x.ethanolOpening = 0 → x.load = none → A m x
  started : ∀ {x : Arm} {l : Load}, x.state = .prime → x.ethanolOpening = 0 → x.load = some l → l.Fresh → A .operate x
  operate : ∀ {m : Mode} {x : Arm}, A m x → A .operate x
  configure : ∀ {m : Mode} {x : Arm}, A m x → x.state = .idle → A .configure x
  meter : ∀ {n : Nat} {x y : Meter}, M n x → MeterMove n x y → M n y
  threshold : ∀ {n k : Nat} {x : Meter}, M n x → 1 ≤ k → M k (x.withThreshold n k)
  meterReset : M Settings.reset.strayThreshold Meter.reset
  page : ∀ {g k : TracePage}, G g → PageMove g k → G k
  pageReset : G TracePage.reset
  record : ∀ {m : Mode} {x : Arm} {l : Load} {r : LoadRecord}, A m x → x.load = some l →
    (l.data.volumesAdd → r.data.volumesAdd) → r.lines = l.lines.map Line.counts → D r

namespace EachItem

variable {A : Mode → Arm → Prop} {M : Nat → Meter → Prop} {G : TracePage → Prop} {D : LoadRecord → Prop} {s : State}
  (hs : EachItem A M G D s)
include hs

/-- A change of the other parts of the state. -/
theorem of_same {t : State} (mode : t.mode = s.mode) (arm : ∀ a, t.arm a = s.arm a) (meter : ∀ m, t.meter m = s.meter m)
    (settings : t.settings.strayThreshold = s.settings.strayThreshold) (page : ∀ a, t.page a = s.page a)
    (delivered : t.delivered = s.delivered) : EachItem A M G D t :=
  ⟨fun a => by rw [mode, arm]; exact hs.arms a, fun m => by rw [settings, meter]; exact hs.meters m,
    fun a => by rw [page]; exact hs.pages a, by rw [delivered]; exact hs.delivered⟩

/-- A change of the parts that the property does not speak of. -/
theorem others {t : State} (mode : t.mode = s.mode := by rfl) (arms : t.arms = s.arms := by rfl)
    (meters : t.meters = s.meters := by rfl) (settings : t.settings = s.settings := by rfl)
    (pages : t.pages = s.pages := by rfl) (delivered : t.delivered = s.delivered := by rfl) : EachItem A M G D t :=
  hs.of_same mode (fun a => by simp only [State.arm, arms]) (fun m => by simp only [State.meter, meters]) (by rw [settings])
    (fun a => by simp only [State.page, pages]) delivered

/-- A change of one arm. -/
theorem modArm (a : Fin 8) (f : Arm → Arm) (ha : A s.mode (f (s.arm a))) : EachItem A M G D (s.modArm a f) :=
  ⟨State.forall_modArm (R := fun _ => A s.mode) hs.arms ha, hs.meters, hs.pages, hs.delivered⟩

/-- A notice is raised. -/
theorem raise (n : Notice) (ps : List Port) : EachItem A M G D (s.raise n ps) :=
  List.foldlRecOn ps _ hs fun _ ht _ _ => ht.others

end EachItem

namespace ItemLaws

variable {A : Mode → Arm → Prop} {M : Nat → Meter → Prop} {G : TracePage → Prop} {D : LoadRecord → Prop}
  (h : ItemLaws A M G D)
include h

/-- A load is completed. -/
theorem completeLoad {s : State} (a : Fin 8) (e : EndStatus) (hs : EachItem A M G D s) :
    EachItem A M G D (s.completeLoad a e) := by
  cases hl : s.load? a with
  | none => rw [State.completeLoad_of_none hl]; exact hs
  | some l =>
    obtain ⟨t, complete⟩ := State.completeLoad_eq hl e
    rw [complete]
    have appended : EachItem A M G D (s.modPage a fun g => g.append t) :=
      ⟨hs.arms, hs.meters, State.forall_modPage hs.pages (h.page (hs.pages a) (.append _ _)), hs.delivered⟩
    have vacated := appended.modArm a Arm.vacated (h.vacant rfl rfl rfl rfl)
    have listed : EachItem A M G D (s.handedOver a l e t) := by
      refine ⟨vacated.arms, vacated.meters, vacated.pages, fun k hk => ?_⟩
      rcases List.mem_append.mp hk with old | new
      · exact hs.delivered k old
      · obtain rfl := List.mem_singleton.mp new
        exact h.record (hs.arms a) hl id rfl
    have raised := listed.raise .loadEnded (terminalsAndLane (laneOf a))
    exact Leaving.ite (fun _ => raised.raise _ _) fun _ => raised

/-- The progress of loads keeps what is said of each item by itself. -/
theorem progress : Progress (EachItem A M G D) fun _ => EachItem A M G D where
  quiet a f hs move _ := hs.modArm a f (h.arm (hs.arms a) move)
  granted a f hs move _ := hs.modArm a f (h.arm (hs.arms a) move)
  leave a f hs move _ := ((or_self_iff.mp hs).modArm a f (h.arm ((or_self_iff.mp hs).arms a) move)).others
  station _ _ hs := hs.others
  bus _ hs := hs.others
  page a _ hs move := ⟨hs.arms, hs.meters, State.forall_modPage hs.pages (h.page (hs.pages a) move), hs.delivered⟩
  port _ _ hs _ := hs.others
  blend a f hs move _ := hs.modArm a f (h.arm (hs.arms a) move)
  unshared hs _ _ _ := hs
  grant hs _ _ _ _ _ _ := hs.others
  queue {_ a} _ f _ hs _ _ _ _ move _ := (hs.modArm a f (h.arm (hs.arms a) move)).others
  serveHead hs _ _ _ := hs.others
  served hs _ := hs
  waitTimer _ hs := hs.others
  meter m _ hs move := ⟨hs.arms, State.forall_modMeter hs.meters (h.meter (hs.meters m) move), hs.pages, hs.delivered⟩
  complete a e hs _ := h.completeLoad a e hs

/-- The entries to the progress of loads keep what is said of each item by itself. -/
theorem entries : Entries (EachItem A M G D) where
  toEventEntries := h.progress.events.entries
  capacitySet {s} b hs := by
    have set : EachItem A M G D (s.modHeader fun x => { x with capacity := b.toNat }) := hs.others
    unfold State.capacitySet
    split
    · exact hs
    · split
      · exact hs
      · exact Leaving.ite (fun _ => h.progress.endEvent set) fun _ => set
  esdAsserted {s} hs := by
    refine Leaving.ite (fun _ => hs) fun _ => ?_
    have tripped : EachItem A M G D { s with trips := { s.trips with esd := true } } := hs.others
    have emptied : EachItem A M G D (({ s with trips := { s.trips with esd := true } } : State).raise .trip allPorts).headerEmptied :=
      (tripped.raise .trip allPorts).others
    have settled := Leaving.foldl allArms emptied fun _ a ht => h.progress.settleForEsd a ht
    exact Leaving.foldl allArms (Leaving.foldl allStations settled fun _ st ht => h.progress.station st _ ht)
      fun _ a ht => h.completeLoad a .esd ht
  headerLost {s} hs := by
    refine Leaving.ite (fun _ => ?_) fun _ => hs
    have tripped : EachItem A M G D { s with trips := { s.trips with header := false } } := hs.others
    exact h.progress.endEvent (Leaving.foldl allArms (tripped.raise .trip allPorts) fun _ a ht =>
      h.progress.supplyLostArm a (.inl ht))
  laneLost {s} l hs := by
    refine Leaving.ite (fun _ => ?_) fun _ => hs
    have tripped : EachItem A M G D { s with trips := { s.trips with lanes := s.trips.lanes.set l.val false } } :=
      hs.others
    exact h.progress.endEvent (Leaving.foldl (armsOf l) (tripped.raise .trip (terminalsAndLane l)) fun _ a ht =>
      h.progress.addCauses a _ ht)

/-- Every command keeps what is said of each item by itself. -/
theorem commands : Commands (EachItem A M G D) where
  toEntries := h.entries
  port _ _ hs _ := hs.others
  meter m _ hs move := ⟨hs.arms, State.forall_modMeter hs.meters (h.meter (hs.meters m) move), hs.pages, hs.delivered⟩
  station _ _ hs := hs.others
  bus _ hs := hs.others
  enable a _ hs := hs.modArm a _ (h.arm (hs.arms a) (.of_same rfl rfl rfl rfl))
  settings _ hs same := hs.of_same rfl (fun _ => rfl) (fun _ => rfl) same (fun _ => rfl) rfl
  threshold {s} x hs low := by
    refine ⟨hs.arms, fun m => ?_, hs.pages, hs.delivered⟩
    change M x.strayThreshold ((s.meters.map _)[m.val])
    rw [Vector.getElem_map]
    exact h.threshold (hs.meters m) low
  capacity _ hs _ := hs.others
  probe _ _ hs := hs.others
  scan _ hs := hs.others
  operate hs := ⟨fun a => h.operate (hs.arms a), hs.meters, hs.pages, hs.delivered⟩
  configure hs idle := ⟨fun a => h.configure (hs.arms a) (idle a), hs.meters, hs.pages, hs.delivered⟩
  slot _ _ hs := hs.others
  queue _ _ hs _ := hs.others
  authCounter _ hs := hs.others
  freeCount _ hs := hs.others
  seconds _ hs := hs.others
  undeliver _ hs := ⟨hs.arms, hs.meters, hs.pages, fun r hr => hs.delivered r (List.mem_of_mem_filter hr)⟩
  reserve _ _ hs := hs.others
  clearPage _ hs := ⟨hs.arms, hs.meters, State.forall_modPage hs.pages h.pageReset, hs.delivered⟩
  start {_ a f _} hs mode _ prime shut load fresh := hs.modArm a f (by
    rw [mode]; exact h.started prime shut load fresh)
  trips _ hs _ := hs.others
  poweredOn x _ := by
    refine ⟨fun a => ?_, fun m => ?_, fun a => ?_, fun r hr => absurd hr (List.not_mem_nil)⟩
    · rw [show (State.poweredOn _ x).arm a = Arm.reset from powerOn_arm x a]
      exact h.vacant rfl rfl rfl rfl
    · rw [show (State.poweredOn _ x).meter m = Meter.reset from powerOn_meter x m]
      exact h.meterReset
    · rw [show (State.poweredOn _ x).page a = TracePage.reset from powerOn_page x a]
      exact h.pageReset

/-- Every step keeps what is said of each item by itself. -/
theorem step {s t : State} (hs : EachItem A M G D s) (hstep : step s = .next t) : EachItem A M G D t :=
  h.commands.step (fun _ => hs.others) hstep

end ItemLaws

end Sys2Proof.Machine
end

section
/-! PROOFS. The invariants that speak of single items, kept by every step: the valves (R37), the sums of a record (R39, R119,
R160), the loads and the mode (R36, R188), the meters (R86, R90) and the trace pages (R174). -/

namespace Sys2Proof.Machine

namespace ItemLaws

/-- The laws of a property of the arms and the delivered records alone. -/
theorem ofArms {A : Mode → Arm → Prop} {D : LoadRecord → Prop}
    (arm : ∀ {m : Mode} {x y : Arm}, A m x → ArmMove x y → A m y)
    (vacant : ∀ {m : Mode} {x : Arm}, x.state = .idle → x.mainOpening = 0 → x.ethanolOpening = 0 → x.load = none → A m x)
    (started : ∀ {x : Arm} {l : Load}, x.state = .prime → x.ethanolOpening = 0 → x.load = some l → l.Fresh → A .operate x)
    (operate : ∀ {m : Mode} {x : Arm}, A m x → A .operate x)
    (configure : ∀ {m : Mode} {x : Arm}, A m x → x.state = .idle → A .configure x)
    (record : ∀ {m : Mode} {x : Arm} {l : Load} {r : LoadRecord}, A m x → x.load = some l →
      (l.data.volumesAdd → r.data.volumesAdd) → r.lines = l.lines.map Line.counts → D r) :
    ItemLaws A (fun _ _ => True) (fun _ => True) D where
  arm := arm
  vacant := vacant
  started := started
  operate := operate
  configure := configure
  meter _ _ := trivial
  threshold _ _ := trivial
  meterReset := trivial
  page _ _ := trivial
  pageReset := trivial
  record := record

/-- The laws of a property of the meters alone. -/
theorem ofMeters {M : Nat → Meter → Prop} (meter : ∀ {n : Nat} {x y : Meter}, M n x → MeterMove n x y → M n y)
    (threshold : ∀ {n k : Nat} {x : Meter}, M n x → 1 ≤ k → M k (x.withThreshold n k))
    (meterReset : M Settings.reset.strayThreshold Meter.reset) :
    ItemLaws (fun _ _ => True) M (fun _ => True) fun _ => True where
  arm _ _ := trivial
  vacant _ _ _ _ := trivial
  started _ _ _ _ := trivial
  operate _ := trivial
  configure _ _ := trivial
  meter := meter
  threshold := threshold
  meterReset := meterReset
  page _ _ := trivial
  pageReset := trivial
  record _ _ _ _ := trivial

/-- The laws of a property of the trace pages alone. -/
theorem ofPages {G : TracePage → Prop} (page : ∀ {g k : TracePage}, G g → PageMove g k → G k) (reset : G TracePage.reset) :
    ItemLaws (fun _ _ => True) (fun _ _ => True) G fun _ => True where
  arm _ _ := trivial
  vacant _ _ _ _ := trivial
  started _ _ _ _ := trivial
  operate _ := trivial
  configure _ _ := trivial
  meter _ _ := trivial
  threshold _ _ := trivial
  meterReset := trivial
  page := page
  pageReset := reset
  record _ _ _ _ := trivial

end ItemLaws

/-! ## Valves (R37) -/

/-- Valves as R37 says are kept. -/
theorem valvesRight_laws : ItemLaws (fun _ x => x.valvesRight) (fun _ _ => True) (fun _ => True) fun _ => True :=
  .ofArms (fun right move => move.valves right) (fun _ main ethanol _ => Arm.valvesRight_of_shut main ethanol)
    (fun prime shut _ _ => Arm.valvesRight_of_flowing (by rw [prime]; rfl) shut) id (fun right _ => right)
    fun _ _ _ _ => trivial

/-- Settles O55: R37 is said of each arm by itself. -/
theorem valvesKept : Obligations.ValvesKept := by
  unfold Obligations.ValvesKept
  intro s t right hstep
  have each : EachItem (fun _ x => x.valvesRight) (fun _ _ => True) (fun _ => True) (fun _ => True) s :=
    ⟨right, fun _ => trivial, fun _ => trivial, fun _ _ => trivial⟩
  exact (valvesRight_laws.step each hstep).arms

/-! ## The sums of a record (R39, R119, R160) -/

/-- What a change of an arm does to what is said of its load. -/
theorem ArmMove.forall_load {L : Load → Prop} {x y : Arm} (move : ArmMove x y) (hL : ∀ l m, LoadMove l m → L l → L m)
    (h : ∀ l, x.load = some l → L l) (m : Load) (hm : y.load = some m) : L m := by
  obtain ⟨l, hl, change⟩ := move.load_eq_some hm
  exact hL l m change (h l hl)

/-- A property of loads, kept by their changes and true of a fresh one, with what it says of a delivered record. -/
theorem loadLaws {L : Load → Prop} {D : LoadRecord → Prop} (hL : ∀ l m, LoadMove l m → L l → L m)
    (fresh : ∀ l, l.Fresh → L l)
    (record : ∀ (l : Load) (r : LoadRecord), L l → (l.data.volumesAdd → r.data.volumesAdd) →
      r.lines = l.lines.map Line.counts → D r) :
    ItemLaws (fun _ x => ∀ l, x.load = some l → L l) (fun _ _ => True) (fun _ => True) D :=
  .ofArms (fun all move => move.forall_load hL all)
    (fun _ _ _ none l hl => absurd (none.symm.trans hl) (by simp))
    (fun _ _ load hfresh m hm => by
      obtain rfl := Option.some.inj (load.symm.trans hm)
      exact fresh _ hfresh)
    id (fun all _ => all) fun all hl => record _ _ (all _ hl)

/-- The sum of the volumes is kept, and handed to the record. -/
theorem volumesAdd_laws :
    ItemLaws (fun _ x => ∀ l, x.load = some l → l.data.volumesAdd) (fun _ _ => True) (fun _ => True)
      fun r => r.data.volumesAdd :=
  loadLaws (fun _ _ move => move.volumes) (fun _ fresh => fresh.volumes) fun _ _ hl volumes _ => volumes hl

/-- The sums of the lines are kept, and handed to the record. -/
theorem linesBalanced_laws :
    ItemLaws (fun _ x => ∀ l, x.load = some l → ∀ y ∈ l.lines, y.counts.balanced) (fun _ _ => True) (fun _ => True)
      fun r => ∀ c ∈ r.lines, c.balanced :=
  loadLaws (L := fun l => ∀ y ∈ l.lines, y.counts.balanced) (fun _ _ move => move.lines) (fun _ fresh => fresh.lines)
    fun l r hl _ lines c hc => by
      rw [lines] at hc
      obtain ⟨y, hy, rfl⟩ := List.mem_map.mp hc
      exact hl y hy

/-- Settles O56: both sums are said of each load and each delivered record by itself. -/
theorem recordSumsKept : Obligations.RecordSumsKept := by
  unfold Obligations.RecordSumsKept
  constructor
  · rintro s t ⟨active, delivered⟩ hstep
    have each := volumesAdd_laws.step ⟨active, fun _ => trivial, fun _ => trivial, delivered⟩ hstep
    exact ⟨each.arms, each.delivered⟩
  · rintro s t ⟨active, delivered⟩ hstep
    have each := linesBalanced_laws.step ⟨active, fun _ => trivial, fun _ => trivial, delivered⟩ hstep
    exact ⟨each.arms, each.delivered⟩

/-! ## Loads and the mode (R36, R188) -/

/-- An arm has a load exactly while it is not IDLE, and is IDLE in CONFIGURE. -/
structure Arm.RightIn (m : Mode) (x : Arm) : Prop where
  load : x.load.isSome = true ↔ x.state ≠ .idle
  idle : m = .configure → x.state = .idle

/-- What is said of a load and the mode is kept: a change of an arm neither makes nor takes a load, nor makes or leaves
IDLE. -/
theorem rightIn_laws : ItemLaws Arm.RightIn (fun _ _ => True) (fun _ => True) fun _ => True := by
  refine .ofArms (fun {m x y} right move => ?_) (fun idle _ _ none => ?_) (fun prime _ load _ => ?_)
    (fun right => ⟨right.load, nofun⟩) (fun right idle => ⟨right.load, fun _ => idle⟩) fun _ _ _ _ => trivial
  · rcases move.stays with same | ⟨active, leaves⟩
    · exact ⟨by rw [move.load_isSome, same]; exact right.load, by rw [same]; exact right.idle⟩
    · have busy : x.state ≠ .idle := active.elim id right.load.mp
      exact ⟨by rw [move.load_isSome]; exact ⟨fun _ => leaves, fun _ => right.load.mpr busy⟩,
        fun mode => absurd (right.idle mode) busy⟩
  · exact ⟨by simp [idle, none], fun _ => idle⟩
  · exact ⟨by simp [prime, load], nofun⟩

/-- The invariant of R36 and R188 as one of the single arms. -/
theorem configureIdle_iff (s : State) :
    s.configureIdle ↔ EachItem Arm.RightIn (fun _ _ => True) (fun _ => True) (fun _ => True) s := by
  constructor
  · rintro ⟨loads, idle⟩
    exact ⟨fun a => ⟨loads a, fun mode => idle mode a⟩, fun _ => trivial, fun _ => trivial, fun _ _ => trivial⟩
  · intro each
    exact ⟨fun a => (each.arms a).load, fun mode a => (each.arms a).idle mode⟩

/-- Settles O58: each arm by itself keeps its load to its state, and only a START leaves IDLE, in OPERATE. -/
theorem configureModeKeepsArmsIdle : Obligations.ConfigureModeKeepsArmsIdle := by
  unfold Obligations.ConfigureModeKeepsArmsIdle
  intro s t right hstep
  exact (configureIdle_iff t).mpr (rightIn_laws.step ((configureIdle_iff s).mp right) hstep)

/-! ## Meters and trace pages (R86, R90, R174) -/

/-- Divider and remainder stay in their ranges. -/
theorem metersRight_laws : ItemLaws (fun _ _ => True) (fun _ x => x.right) (fun _ => True) fun _ => True :=
  .ofMeters (fun right move => move.right right) (fun right _ => right) (by simp [Meter.right, Meter.reset])

/-- A counter past the threshold, which is at least 1, is silent. -/
structure Meter.SilentPast (threshold : Nat) (x : Meter) : Prop where
  low : 1 ≤ threshold
  silent : threshold ≤ x.stray → x.silent = true

/-- Counters past the threshold stay silent, also past a lowered one. -/
theorem silentPast_laws : ItemLaws (fun _ _ => True) Meter.SilentPast (fun _ => True) fun _ => True := by
  refine .ofMeters (fun past move => ⟨past.low, move.silent past.low past.silent⟩)
    (fun {n k x} past low => ⟨low, fun reached => ?_⟩)
    ⟨by simp [Settings.reset], by simp [Settings.reset, Meter.reset]⟩
  have reachedNow : k ≤ x.stray := reached
  by_cases before : n ≤ x.stray
  · simp [Meter.withThreshold, past.silent before]
  · simp only [Meter.withThreshold, Bool.or_eq_true, decide_eq_true_iff]
    exact .inr ⟨by omega, reachedNow⟩

/-- No page grows past its depth. -/
theorem pagesBounded_laws :
    ItemLaws (fun _ _ => True) (fun _ _ => True) (fun g => g.records.length ≤ Config.traceDepth) fun _ => True :=
  .ofPages (fun bounded move => move bounded) (by simp [TracePage.reset])

/-- Every step keeps the meters as R86 says. -/
theorem step_metersRight {s t : State} (right : s.metersRight) (hstep : step s = .next t) : t.metersRight :=
  (metersRight_laws.step ⟨fun _ => trivial, right, fun _ => trivial, fun _ _ => trivial⟩ hstep).meters

/-- Every step keeps the counters past the threshold silent. -/
theorem step_straySilent {s t : State} (past : s.straySilent) (hstep : step s = .next t) : t.straySilent := by
  obtain ⟨low, silent⟩ := past
  have each := silentPast_laws.step
    ⟨fun _ => trivial, fun m => ⟨low, silent m⟩, fun _ => trivial, fun _ _ => trivial⟩ hstep
  exact ⟨(each.meters 0).low, fun m => (each.meters m).silent⟩

/-- Every step keeps the trace pages to their depth. -/
theorem step_pagesBounded {s t : State} (bounded : s.pagesBounded) (hstep : step s = .next t) : t.pagesBounded :=
  (pagesBounded_laws.step ⟨fun _ => trivial, fun _ => trivial, bounded, fun _ _ => trivial⟩ hstep).pages

end Sys2Proof.Machine
end

section
/-! PROOFS. The invariants that the progress of loads keeps whatever it does with the arms: the ports (R179, R186, R187), the
lane queues (R21) and the waiting commands (log 1). Their obligations, and the completion of every command. -/

namespace Sys2Proof.Machine

/-- A property closed under the progress of loads is kept by the entries to it, where it says nothing of the trip states. -/
theorem Closed.entries {P : State → Prop} (h : Closed P) (trips : ∀ (s : State) (x : Trips), P s → P { s with trips := x }) :
    Entries P where
  pulse m hs := h.pulse m hs
  busReplied b0 b1 b2 hs := h.busReplied b0 b1 b2 hs
  windowClosed hs := h.windowClosed hs
  frameSent hs := h.frameSent hs
  changeoverOver st hs := h.changeoverOver st hs
  pollDue st hs := h.pollDue st hs
  shotTimedOut st hs := h.shotTimedOut st hs
  noFlowElapsed a hs := h.noFlowElapsed a hs
  settleElapsed a hs := h.settleElapsed a hs
  holdElapsed a hs := h.holdElapsed a hs
  shareWaitElapsed a hs := h.shareWaitElapsed a hs
  restoreRequested p b hs := h.restoreRequested p b hs
  loadStopped p arm n hs := h.loadStopped p arm n hs
  loadAmended p n v hs := h.loadAmended p n v hs
  loadHeld p arm n hs := h.loadHeld p arm n hs
  holdReleased p arm n hs := h.holdReleased p arm n hs
  loadResumed p arm n hs := h.loadResumed p arm n hs
  checkpointMarked p arm n c m hs := h.checkpointMarked p arm n c m hs
  checkpointCleared p arm n c hs := h.checkpointCleared p arm n c hs
  capacitySet b hs := h.capacitySet b hs
  esdAsserted hs := h.esdAsserted hs (trips _ _ hs)
  headerLost hs := h.headerLost hs (trips _ _ hs)
  laneLost l hs := h.laneLost l hs (trips _ _ hs)

/-! ## Properties of the ports -/

/-- What a property of the ports must keep to be kept by every step. -/
structure PortLaws (R : Port → PortState → Prop) : Prop where
  move : ∀ {p : Port} {x y : PortState}, R p x → PortMove p x y → R p y
  reset : ∀ p : Port, R p (PortState.reset (classFlags p))

namespace PortLaws

variable {R : Port → PortState → Prop} (h : PortLaws R)
include h

/-- The progress of loads keeps the ports. -/
theorem closed : Closed fun s => ∀ p, R p (s.port p) :=
  closed_of_ports R (fun _ _ x hn hx => h.move hx (.raise hn x)) fun _ _ _ hx => h.move hx (.of_same rfl rfl rfl rfl)

/-- Every command keeps the ports. -/
theorem commands : Commands fun s => ∀ p, R p (s.port p) where
  toEntries := h.closed.entries fun _ _ hs => hs
  port p _ hs move := State.forall_modPort hs (h.move (hs p) move)
  meter _ _ hs _ := hs
  station _ _ hs := hs
  bus _ hs := hs
  enable _ _ hs := hs
  settings _ hs _ := hs
  threshold _ hs _ := hs
  capacity _ hs _ := hs
  probe _ _ hs := hs
  scan _ hs := hs
  operate hs := hs
  configure hs _ := hs
  slot _ _ hs := hs
  queue _ _ hs _ := hs
  authCounter _ hs := hs
  freeCount _ hs := hs
  seconds _ hs := hs
  undeliver _ hs := hs
  reserve _ _ hs := hs
  clearPage _ hs := hs
  start hs _ _ _ _ _ _ := hs
  trips _ hs _ := hs
  poweredOn x _ p := by
    rw [show (State.poweredOn _ x).port p = PortState.reset (classFlags p) from powerOn_port x p]
    exact h.reset p

/-- Every step keeps the ports. -/
theorem step {s t : State} (hs : ∀ p, R p (s.port p)) (hstep : step s = .next t) : ∀ p, R p (t.port p) :=
  h.commands.step (fun _ => hs) hstep

end PortLaws

/-! ## Attention lines and flags (R186, R187) -/

/-- The attention line follows flags and mask. -/
theorem attention_laws : PortLaws fun _ x => x.attention = attentionOf x.flags x.mask :=
  ⟨fun right move => move.attention right, fun _ => by simp [PortState.reset, attentionOf]⟩

/-- The flags and the mask stay within the class. -/
theorem flags_laws : PortLaws fun p x => x.flags &&& ~~~(classFlags p) = 0#16 ∧ x.mask &&& ~~~(classFlags p) = 0#16 :=
  ⟨fun within move => ⟨move.flags within.1, move.mask within.2⟩, fun _ => by simp [PortState.reset]⟩

/-- Settles O54: every change of a port, by whatever command, moves the line with the flags and keeps these in the class. -/
theorem attentionKept : Obligations.AttentionKept := by
  unfold Obligations.AttentionKept
  exact fun s t right within hstep => ⟨attention_laws.step right hstep, flags_laws.step within hstep⟩

/-! ## Read pointers (R179) and lane queues (R21) -/

/-- The pointer stays in its window. -/
theorem window_laws : PortLaws fun _ x => x.window.inside :=
  ⟨fun inside move => move.window inside, fun _ => by simp [PortState.reset, TraceWindow.inside, TraceWindow.reset]⟩

/-- The progress of loads keeps the lane queues. -/
theorem closed_queuesBounded : Closed State.queuesBounded where
  arm _ _ hs := hs
  header _ hs := hs
  station _ _ hs := hs
  bus _ hs := hs
  page _ _ hs := hs
  meter _ _ hs := hs
  raise n ps _ hs l := by
    rw [State.queue, raise_kept State.queues (fun _ _ _ => rfl) n ps]
    exact hs l
  deliver _ _ hs := hs
  respond _ _ hs := hs

/-- Every command keeps the lane queues bounded. -/
theorem queuesBounded_commands : Commands State.queuesBounded where
  toEntries := closed_queuesBounded.entries fun _ _ hs => hs
  port _ _ hs _ := hs
  meter _ _ hs _ := hs
  station _ _ hs := hs
  bus _ hs := hs
  enable _ _ hs := hs
  settings _ hs _ := hs
  threshold _ hs _ := hs
  capacity _ hs _ := hs
  probe _ _ hs := hs
  scan _ hs := hs
  operate hs := hs
  configure hs _ := hs
  slot _ _ hs := hs
  queue {_} l _ hs short :=
    State.forall_setQueue (R := fun q => q.length ≤ Config.laneQueueLimit) hs (short.elim (·.trans (hs l)) id)
  authCounter _ hs := hs
  freeCount _ hs := hs
  seconds _ hs := hs
  undeliver _ hs := hs
  reserve _ _ hs := hs
  clearPage _ hs := hs
  start hs _ _ _ _ _ _ := hs
  trips _ hs _ := hs
  poweredOn x _ l := by
    rw [show (State.poweredOn _ x).queue l = [] from powerOn_queue x l]
    exact Nat.zero_le _

/-- Settles O57: the meters, the pages and the silent counters are said of each item by itself, the pointers of each port,
and the queues grow only by an issue that finds room. -/
theorem boundsKept : Obligations.BoundsKept := by
  unfold Obligations.BoundsKept
  exact ⟨fun _ _ => step_metersRight, fun _ _ => step_pagesBounded,
    fun _ _ bounded hstep => queuesBounded_commands.step (fun _ => bounded) hstep,
    fun _ _ inside hstep => window_laws.step inside hstep, fun _ _ => step_straySilent⟩

/-! ## Completion of every command (logs 1, 2 and 32) -/

/-- Every command leaves the waiting commands. -/
theorem pending_commands (q : List Instr) : Commands fun s => s.pending = q where
  toEntries := (closed_pending q).entries fun _ _ hs => hs
  port _ _ hs _ := hs
  meter _ _ hs _ := hs
  station _ _ hs := hs
  bus _ hs := hs
  enable _ _ hs := hs
  settings _ hs _ := hs
  threshold _ hs _ := hs
  capacity _ hs _ := hs
  probe _ _ hs := hs
  scan _ hs := hs
  operate hs := hs
  configure hs _ := hs
  slot _ _ hs := hs
  queue _ _ hs _ := hs
  authCounter _ hs := hs
  freeCount _ hs := hs
  seconds _ hs := hs
  undeliver _ hs := hs
  reserve _ _ hs := hs
  clearPage _ hs := hs
  start hs _ _ _ _ _ _ := hs
  trips _ hs _ := hs
  poweredOn _ hs := hs

/-- Settles O52: completion and the waiting commands are kept by one traversal of the commands. -/
theorem everyCommandCompletes : Obligations.EveryCommandCompletes := by
  unfold Obligations.EveryCommandCompletes
  exact fun i s => (pending_commands s.pending).exec i rfl

end Sys2Proof.Machine
end

section
/-! PROOFS. The Header Allocator (R104 to R113), said of each arm by itself: what the place of an arm says of its grant and of
its entry on the wait list, the sum of the grants, and how the progress of loads keeps them. -/

namespace Sys2Proof.Machine

/-! ## The grants and the entries of one arm -/

/-- The shares of an arm's grants. -/
def Header.held (h : Header) (a : Fin 8) : List Nat := (h.grants.filter fun g => g.arm == a).map Grant.shares

/-- The shares that an arm's entries on the wait list ask for. -/
def Header.asked (h : Header) (a : Fin 8) : List Nat := (h.wait.filter fun w => w.arm == a).map Waiter.shares

/-- The shares of the whole grant set. -/
def Header.granted (h : Header) : Nat := (h.grants.map Grant.shares).sum

/-- The grants that a load's share count is due: one, or none for a count of 0 (R105). -/
def Load.due (l : Load) : List Nat := if l.recipe.shareCount = 0 then [] else [l.recipe.shareCount]

namespace Header

/-- An arm holds as many grants as its number occurs in the grant set. -/
theorem length_held (h : Header) (a : Fin 8) : (h.held a).length = (h.grants.map Grant.arm).count a := by
  rw [held, List.length_map, List.count_eq_countP, List.countP_map, List.countP_eq_length_filter]
  rfl

/-- An arm has as many entries as its number occurs on the wait list. -/
theorem length_asked (h : Header) (a : Fin 8) : (h.asked a).length = (h.wait.map Waiter.arm).count a := by
  rw [asked, List.length_map, List.count_eq_countP, List.countP_map, List.countP_eq_length_filter]
  rfl

/-- A grant is one of its arm's. -/
theorem mem_held {h : Header} {g : Grant} (hg : g ∈ h.grants) : g.shares ∈ h.held g.arm :=
  List.mem_map_of_mem (List.mem_filter.mpr ⟨hg, by simp⟩)

/-- An entry is one of its arm's. -/
theorem mem_asked {h : Header} {w : Waiter} (hw : w ∈ h.wait) : w.shares ∈ h.asked w.arm :=
  List.mem_map_of_mem (List.mem_filter.mpr ⟨hw, by simp⟩)

/-- What an arm holds stands in the grant set. -/
theorem exists_grant {h : Header} {a : Fin 8} {n : Nat} (hn : n ∈ h.held a) : ∃ g ∈ h.grants, g.arm = a ∧ g.shares = n := by
  obtain ⟨g, hg, rfl⟩ := List.mem_map.mp hn
  obtain ⟨mem, arm⟩ := List.mem_filter.mp hg
  exact ⟨g, mem, by simpa using arm, rfl⟩

/-- What an arm asks for stands on the wait list. -/
theorem exists_waiter {h : Header} {a : Fin 8} {n : Nat} (hn : n ∈ h.asked a) : ∃ w ∈ h.wait, w.arm = a ∧ w.shares = n := by
  obtain ⟨w, hw, rfl⟩ := List.mem_map.mp hn
  obtain ⟨mem, arm⟩ := List.mem_filter.mp hw
  exact ⟨w, mem, by simpa using arm, rfl⟩

/-- Where no arm holds or asks for anything, both lists are empty. -/
theorem empty_of_none {h : Header} (hn : ∀ a, h.held a = [] ∧ h.asked a = []) : h.grants = [] ∧ h.wait = [] := by
  constructor
  · refine List.eq_nil_iff_forall_not_mem.mpr fun g hg => ?_
    have held := mem_held hg
    rw [(hn g.arm).1] at held
    exact absurd held List.not_mem_nil
  · refine List.eq_nil_iff_forall_not_mem.mpr fun w hw => ?_
    have asked := mem_asked hw
    rw [(hn w.arm).2] at asked
    exact absurd asked List.not_mem_nil

/-! ### What the allocator's operations do to them -/

/-- The shares of an arm that holds at most one grant. -/
theorem sharesOf_eq {h : Header} {a : Fin 8} (once : (h.held a).length ≤ 1) : h.sharesOf a = (h.held a).sum := by
  rw [held, List.length_map] at once
  rw [sharesOf, held, ← List.head?_filter]
  cases e : h.grants.filter fun g => g.arm == a with
  | nil => rfl
  | cons g rest =>
    rw [e, List.length_cons] at once
    have last : rest = [] := List.eq_nil_of_length_eq_zero (by omega)
    simp [last]

/-- The grants of one arm and those of the others are all. -/
theorem granted_split (h : Header) (a : Fin 8) :
    h.granted = (h.held a).sum + ((h.grants.filter fun g => g.arm != a).map Grant.shares).sum := by
  unfold granted held
  induction h.grants with
  | nil => rfl
  | cons g rest ih =>
    by_cases e : g.arm = a
    · simp [e, ih, Nat.add_assoc]
    · simp [e, ih, Nat.add_left_comm]

/-- An arm that drops its shares holds none. -/
theorem held_drop_self (h : Header) (a : Fin 8) : ((h.release a).leave a).held a = [] := by
  simp [held, release, leave, List.filter_filter]

/-- An arm that drops its place asks for none. -/
theorem asked_drop_self (h : Header) (a : Fin 8) : ((h.release a).leave a).asked a = [] := by
  simp [asked, release, leave, List.filter_filter]

/-- The others keep their grants. -/
theorem held_drop_ne (h : Header) {a b : Fin 8} (ne : b ≠ a) : ((h.release a).leave a).held b = h.held b := by
  simp only [held, release, leave, List.filter_filter]
  congr 1
  refine List.filter_congr fun g _ => ?_
  by_cases e : g.arm = b <;> simp [e, ne]

/-- The others keep their entries. -/
theorem asked_drop_ne (h : Header) {a b : Fin 8} (ne : b ≠ a) : ((h.release a).leave a).asked b = h.asked b := by
  simp only [asked, release, leave, List.filter_filter]
  congr 1
  refine List.filter_congr fun w _ => ?_
  by_cases e : w.arm = b <;> simp [e, ne]

/-- An arm that is granted shares holds them behind what it held. -/
theorem held_grant_self (h : Header) (a : Fin 8) (n : Nat) : (h.grant a n).held a = h.held a ++ [n] := by
  simp [held, grant]

/-- A grant is the arm's alone. -/
theorem held_grant_ne (h : Header) {a b : Fin 8} (n : Nat) (ne : b ≠ a) : (h.grant a n).held b = h.held b := by
  simp [held, grant, ne.symm]

/-- A grant is not an entry. -/
@[simp] theorem asked_grant (h : Header) (a b : Fin 8) (n : Nat) : (h.grant a n).asked b = h.asked b := rfl

/-- The grants grow by a grant. -/
theorem granted_grant (h : Header) (a : Fin 8) (n : Nat) : (h.grant a n).granted = h.granted + n := by
  simp [granted, grant]

/-- What the arms ask for by a wait list with this head. -/
theorem asked_cons {h : Header} {w : Waiter} {rest : List Waiter} (hw : h.wait = w :: rest) (b : Fin 8) :
    h.asked b = (if w.arm = b then [w.shares] else []) ++ ({ h with wait := rest } : Header).asked b := by
  simp only [asked, hw, List.filter_cons]
  by_cases e : w.arm = b <;> simp [e]

/-- An entry joins the tail of the list. -/
theorem asked_append (h : Header) (w : Waiter) (b : Fin 8) :
    ({ h with wait := h.wait ++ [w] } : Header).asked b = h.asked b ++ if w.arm = b then [w.shares] else [] := by
  by_cases e : w.arm = b <;> simp [asked, e]

/-- The timers of the entries are not what they ask for. -/
theorem asked_retimed (h : Header) (a b : Fin 8) :
    ({ h with wait := h.wait.map fun w => if w.arm = a then { w with timer := .expired } else w } : Header).asked b =
      h.asked b := by
  have arm : ∀ w : Waiter, (if w.arm = a then { w with timer := .expired } else w).arm = w.arm := fun w => by
    split <;> rfl
  have shares : ∀ w : Waiter, (if w.arm = a then { w with timer := .expired } else w).shares = w.shares := fun w => by
    split <;> rfl
  simp only [asked, List.filter_map, List.map_map, Function.comp_def, arm, shares]

end Header

/-! ## What the allocator keeps of each arm (R104) -/

/-- What the arm's place says of its grant and its entry. -/
structure ArmShares (h : Header) (a : Fin 8) (x : Arm) : Prop where
  outside : x.state.place = .outside → h.held a = [] ∧ h.asked a = []
  blending : x.state.place = .blending → h.asked a = [] ∧ ∃ l, x.load = some l ∧ h.held a = l.due
  waiting : x.state.place = .waiting → h.held a = [] ∧
    ∃ l, x.load = some l ∧ l.recipe.shareCount ≠ 0 ∧ h.asked a = [l.recipe.shareCount]

/-- A load is due at most one grant. -/
theorem Load.length_due (l : Load) : l.due.length ≤ 1 := by
  unfold Load.due
  split <;> simp

/-- A change of a load keeps what it is due. -/
theorem LoadMove.due {l m : Load} (h : LoadMove l m) : m.due = l.due := by rw [Load.due, Load.due, h.recipe]

namespace ArmShares

/-- An arm holds at most one grant. -/
theorem length_held {h : Header} {a : Fin 8} {x : Arm} (hx : ArmShares h a x) : (h.held a).length ≤ 1 := by
  cases place : x.state.place with
  | outside => rw [(hx.outside place).1]; simp
  | blending =>
    obtain ⟨-, l, -, held⟩ := hx.blending place
    rw [held]
    exact l.length_due
  | waiting => rw [(hx.waiting place).1]; simp

/-- An arm has at most one entry. -/
theorem length_asked {h : Header} {a : Fin 8} {x : Arm} (hx : ArmShares h a x) : (h.asked a).length ≤ 1 := by
  cases place : x.state.place with
  | outside => rw [(hx.outside place).2]; simp
  | blending => rw [(hx.blending place).1]; simp
  | waiting =>
    obtain ⟨-, l, -, -, asked⟩ := hx.waiting place
    rw [asked]
    simp

/-- A change within the place keeps what the allocator keeps. -/
theorem move {h : Header} {a : Fin 8} {x y : Arm} (hx : ArmShares h a x) (change : ArmMove x y)
    (place : y.state.place = x.state.place) : ArmShares h a y where
  outside e := hx.outside (place.symm.trans e)
  blending e := by
    obtain ⟨asked, l, hl, held⟩ := hx.blending (place.symm.trans e)
    obtain ⟨m, hm, moved⟩ := change.exists_load hl
    exact ⟨asked, m, hm, held.trans moved.due.symm⟩
  waiting e := by
    obtain ⟨held, l, hl, counts, asked⟩ := hx.waiting (place.symm.trans e)
    obtain ⟨m, hm, moved⟩ := change.exists_load hl
    exact ⟨held, m, hm, by rwa [moved.recipe], by rwa [moved.recipe]⟩

/-- What is said of an arm depends on its grants and entries alone. -/
theorem congr {h k : Header} {a : Fin 8} {x : Arm} (hx : ArmShares h a x) (held : k.held a = h.held a)
    (asked : k.asked a = h.asked a) : ArmShares k a x where
  outside e := by rw [held, asked]; exact hx.outside e
  blending e := by rw [held, asked]; exact hx.blending e
  waiting e := by rw [held, asked]; exact hx.waiting e

/-- An arm outside the allocator's business that has nothing there. -/
theorem of_none {h : Header} {a : Fin 8} {x : Arm} (place : x.state.place = .outside) (held : h.held a = [])
    (asked : h.asked a = []) : ArmShares h a x :=
  ⟨fun _ => ⟨held, asked⟩, fun e => absurd (place.symm.trans e) (by decide),
    fun e => absurd (place.symm.trans e) (by decide)⟩

end ArmShares

/-- The shares in use are those of the grants, and within the capacity. -/
structure Header.Sums (h : Header) : Prop where
  inUse : h.inUse = h.granted
  fits : h.inUse ≤ h.capacity

/-- The allocator keeps every arm as its place says. -/
structure Shared (s : State) : Prop where
  sums : s.header.Sums
  arms : ∀ a, ArmShares s.header a (s.arm a)

/-- The allocator keeps every other arm so, and this one has the grant that its load is due and no entry: it has not yet
acted on the grant. -/
structure SharedFor (a : Fin 8) (s : State) : Prop where
  sums : s.header.Sums
  arms : ∀ b, b ≠ a → ArmShares s.header b (s.arm b)
  asked : s.header.asked a = []
  held : ∃ l, s.load? a = some l ∧ s.header.held a = l.due

/-- The shares in use after an arm with at most one grant has dropped its shares. -/
theorem Header.Sums.drop {h : Header} (hs : h.Sums) {a : Fin 8} (once : (h.held a).length ≤ 1) :
    ((h.release a).leave a).Sums := by
  have split := h.granted_split a
  have inUse := hs.inUse
  have fits := hs.fits
  have rest : ((h.release a).leave a).inUse = ((h.release a).leave a).granted := by
    change h.inUse - h.sharesOf a = ((h.grants.filter fun g => g.arm != a).map Grant.shares).sum
    rw [sharesOf_eq once]
    omega
  exact ⟨rest, (Nat.sub_le _ _).trans fits⟩

/-- The shares in use after a grant that fits. -/
theorem Header.Sums.grant {h : Header} (hs : h.Sums) (a : Fin 8) {n : Nat} (fits : n ≤ h.free) : (h.grant a n).Sums := by
  obtain ⟨inUse, within⟩ := hs
  refine ⟨?_, ?_⟩
  · rw [granted_grant, ← inUse]
    rfl
  · change h.inUse + n ≤ h.capacity
    have : n ≤ h.capacity - h.inUse := fits
    omega

/-- The notices of a completion leave the allocator. -/
theorem shared_ended {s : State} (a : Fin 8) (hs : Shared s) : Shared (s.ended a) := by
  have raised : ∀ {t : State} (n : Notice) (ps : List Port), Shared t → Shared (t.raise n ps) := fun n ps ht =>
    List.foldlRecOn ps _ ht fun _ hu _ _ => ⟨hu.sums, hu.arms⟩
  exact Leaving.ite (fun _ => raised _ _ (raised _ _ hs)) fun _ => raised _ _ hs

/-- The allocator's part of the progress of loads (R104 to R108). -/
theorem shared_progress : Progress Shared SharedFor where
  quiet a f hs move place :=
    ⟨hs.sums, State.forall_modArm (R := fun b x => ArmShares _ b x) hs.arms ((hs.arms a).move move place)⟩
  granted {s} a f hs move place := by
    obtain ⟨l, hl, held⟩ := hs.held
    obtain ⟨m, hm, moved⟩ := move.exists_load hl
    refine ⟨hs.sums, fun b ne => ?_, hs.asked, m, ?_, held.trans moved.due.symm⟩
    · rw [State.modArm_arm_ne s a f b ne]
      exact hs.arms b ne
    · rw [State.load?_modArm_self, hm]
  leave {s} a f hs move place := by
    have once : (s.header.held a).length ≤ 1 := by
      rcases hs with hs | hs
      · exact (hs.arms a).length_held
      · obtain ⟨l, -, held⟩ := hs.held
        rw [held]
        exact l.length_due
    have sums : s.header.Sums := hs.elim Shared.sums SharedFor.sums
    refine ⟨sums.drop once, fun b => ?_⟩
    by_cases e : b = a
    · subst e
      refine .of_none ?_ (Header.held_drop_self _ _) (Header.asked_drop_self _ _)
      change (((s.modArm b f).arm b).state).place = .outside
      rw [State.modArm_arm_self]
      exact place
    · have others : ArmShares s.header b (s.arm b) := hs.elim (fun k => k.arms b) fun k => k.arms b e
      change ArmShares _ b ((s.modArm a f).arm b)
      rw [State.modArm_arm_ne s a f b e]
      exact others.congr (Header.held_drop_ne _ e) (Header.asked_drop_ne _ e)
  station _ _ hs := ⟨hs.sums, hs.arms⟩
  bus _ hs := ⟨hs.sums, hs.arms⟩
  page _ _ hs _ := ⟨hs.sums, hs.arms⟩
  port _ _ hs _ := ⟨hs.sums, hs.arms⟩
  blend {s} a f hs move place := by
    refine ⟨hs.sums, fun b => ?_⟩
    by_cases e : b = a
    · subst e
      obtain ⟨l, hl, held⟩ := hs.held
      obtain ⟨m, hm, moved⟩ := move.exists_load hl
      rw [State.modArm_arm_self]
      exact ⟨fun k => absurd (place.symm.trans k) (by decide), fun _ => ⟨hs.asked, m, hm, held.trans moved.due.symm⟩,
        fun k => absurd (place.symm.trans k) (by decide)⟩
    · rw [State.modArm_arm_ne s a f b e]
      exact hs.arms b e
  unshared {s a l} hs hl place uncounted := by
    obtain ⟨held, asked⟩ := (hs.arms a).outside place
    exact ⟨hs.sums, fun b _ => hs.arms b, asked, l, hl, by rw [held, Load.due, if_pos uncounted]⟩
  grant {s a l} hs hl place counts _ _ fits := by
    obtain ⟨held, asked⟩ := (hs.arms a).outside place
    refine ⟨hs.sums.grant a fits, fun b ne => ?_, asked, l, hl, ?_⟩
    · exact (hs.arms b).congr (Header.held_grant_ne _ _ ne) rfl
    · rw [Load.due, if_neg counts]
      exact (Header.held_grant_self _ _ _).trans (by rw [held, List.nil_append])
  queue {s a l} f t hs hl place counts _ move waits := by
    obtain ⟨held, asked⟩ := (hs.arms a).outside place
    obtain ⟨m, hm, moved⟩ := move.exists_load hl
    refine ⟨⟨hs.sums.inUse, hs.sums.fits⟩, fun b => ?_⟩
    change ArmShares _ b ((s.modArm a f).arm b)
    have joined := s.header.asked_append { arm := a, shares := l.recipe.shareCount, timer := t } b
    by_cases e : b = a
    · subst e
      rw [State.modArm_arm_self]
      rw [asked, if_pos rfl, List.nil_append] at joined
      have waiting : (f (s.arm b)).state.place = .waiting := by rw [waits]; rfl
      exact ⟨fun k => absurd (waiting.symm.trans k) (by decide), fun k => absurd (waiting.symm.trans k) (by decide),
        fun _ => ⟨held, m, hm, by rwa [moved.recipe], by rw [moved.recipe]; exact joined⟩⟩
    · rw [State.modArm_arm_ne s a f b e]
      rw [if_neg (Ne.symm e), List.append_nil] at joined
      exact (hs.arms b).congr rfl joined
  serveHead {s w rest} hs hw _ fits := by
    have others := fun b => Header.asked_cons hw b
    have popped : ({ s.header with wait := rest } : Header).Sums := ⟨hs.sums.inUse, hs.sums.fits⟩
    have asks := others w.arm
    rw [if_pos rfl] at asks
    have waiting : (s.arm w.arm).state.place = .waiting := by
      cases place : (s.arm w.arm).state.place with
      | outside => rw [((hs.arms _).outside place).2] at asks; simp at asks
      | blending => rw [((hs.arms _).blending place).1] at asks; simp at asks
      | waiting => rfl
    obtain ⟨held, l, hl, counts, asked⟩ := (hs.arms w.arm).waiting waiting
    rw [asked, List.singleton_append, List.cons.injEq] at asks
    obtain ⟨count, left⟩ := asks
    refine ⟨popped.grant w.arm fits, fun b ne => ?_, left.symm, l, hl, ?_⟩
    · have same := others b
      rw [if_neg (Ne.symm ne), List.nil_append] at same
      exact (hs.arms b).congr (Header.held_grant_ne _ _ ne) same.symm
    · rw [Load.due, if_neg counts, count]
      exact (Header.held_grant_self _ _ _).trans (by
        rw [show ({ s.header with wait := rest } : Header).held w.arm = [] from held, List.nil_append])
  served {s a} hs absent := by
    obtain ⟨l, hl, -⟩ := hs.held
    rw [absent] at hl
    exact absurd hl (by simp)
  waitTimer {s} a hs := by
    refine ⟨⟨hs.sums.inUse, hs.sums.fits⟩, fun b => (hs.arms b).congr rfl ?_⟩
    exact Header.asked_retimed s.header a b
  meter _ _ hs _ := ⟨hs.sums, hs.arms⟩
  complete {s} a e hs closing := by
    cases hl : s.load? a with
    | none => rw [State.completeLoad_of_none hl]; exact hs
    | some l =>
      obtain ⟨t, complete⟩ := State.completeLoad_eq hl e
      rw [complete]
      obtain ⟨held, asked⟩ := (hs.arms a).outside (by rw [closing]; rfl)
      have vacated : Shared (s.handedOver a l e t) :=
        ⟨hs.sums, State.forall_modArm (R := fun b x => ArmShares s.header b x) (s := s.modPage a fun g => g.append t)
          hs.arms (.of_none rfl held asked)⟩
      exact shared_ended a vacated

end Sys2Proof.Machine
end

section
/-! PROOFS. The Header Allocator between the events (R104, R106, R113): the progress of loads keeps the shares of each arm,
serving leaves a head that does not fit, and without the permissive nothing is granted and no one waits. -/

namespace Sys2Proof.Machine

/-! ## Two properties kept at once -/

/-- What is kept of two properties is kept of both. -/
theorem Progress.and {P P' : State → Prop} {Q Q' : Fin 8 → State → Prop} (h : Progress P Q) (h' : Progress P' Q') :
    Progress (fun s => P s ∧ P' s) fun a s => Q a s ∧ Q' a s where
  quiet a f hs move place := ⟨h.quiet a f hs.1 move place, h'.quiet a f hs.2 move place⟩
  granted a f hs move place := ⟨h.granted a f hs.1 move place, h'.granted a f hs.2 move place⟩
  leave a f hs move place :=
    ⟨h.leave a f (hs.imp And.left And.left) move place, h'.leave a f (hs.imp And.right And.right) move place⟩
  station st f hs := ⟨h.station st f hs.1, h'.station st f hs.2⟩
  bus b hs := ⟨h.bus b hs.1, h'.bus b hs.2⟩
  page a f hs move := ⟨h.page a f hs.1 move, h'.page a f hs.2 move⟩
  port p f hs move := ⟨h.port p f hs.1 move, h'.port p f hs.2 move⟩
  blend a f hs move place := ⟨h.blend a f hs.1 move place, h'.blend a f hs.2 move place⟩
  unshared hs hl place uncounted := ⟨h.unshared hs.1 hl place uncounted, h'.unshared hs.2 hl place uncounted⟩
  grant hs hl place counts present empty fits :=
    ⟨h.grant hs.1 hl place counts present empty fits, h'.grant hs.2 hl place counts present empty fits⟩
  queue f t hs hl place counts present move waits :=
    ⟨h.queue f t hs.1 hl place counts present move waits, h'.queue f t hs.2 hl place counts present move waits⟩
  serveHead hs hw present fits := ⟨h.serveHead hs.1 hw present fits, h'.serveHead hs.2 hw present fits⟩
  served hs absent := ⟨h.served hs.1 absent, h'.served hs.2 absent⟩
  waitTimer a hs := ⟨h.waitTimer a hs.1, h'.waitTimer a hs.2⟩
  meter m f hs move := ⟨h.meter m f hs.1 move, h'.meter m f hs.2 move⟩
  complete a e hs closing := ⟨h.complete a e hs.1 closing, h'.complete a e hs.2 closing⟩

/-! ## Without the permissive (R113) -/

/-- With the permissive lost nothing is granted and no one waits. -/
def State.emptyIfLost (s : State) : Prop := s.trips.header = false → s.header.grants = [] ∧ s.header.wait = []

namespace State

/-- A completion leaves the allocator. -/
@[simp] theorem completeLoad_header (s : State) (a : Fin 8) (e : EndStatus) : (s.completeLoad a e).header = s.header := by
  have raised := fun n ps t => raise_kept State.header (fun _ _ _ => rfl) n ps t
  cases hl : s.load? a with
  | none => rw [completeLoad_of_none hl]
  | some l =>
    obtain ⟨t, complete⟩ := completeLoad_eq hl e
    rw [complete]
    simp only [ended]
    split
    · rw [raised, raised]
      rfl
    · rw [raised]
      rfl

/-- A completion leaves the trip states. -/
@[simp] theorem completeLoad_trips (s : State) (a : Fin 8) (e : EndStatus) : (s.completeLoad a e).trips = s.trips :=
  (closed_trips s.trips).completeLoad a e rfl

/-- The advance of the revisions leaves the allocator. -/
@[simp] theorem bumpRevisions_header (s0 s : State) : (bumpRevisions s0 s).header = s.header := by
  refine Leaving.foldl (P := fun t => t.header = s.header) allArms rfl fun t a ht => ?_
  exact Leaving.ite (P := fun t => t.header = s.header) (fun _ => ht) fun _ => ht

end State

/-- Shares are dropped without the permissive too, and asked for only with it. -/
theorem emptyIfLost_progress : Progress State.emptyIfLost fun _ => State.emptyIfLost where
  quiet _ _ hs _ _ := hs
  granted _ _ hs _ _ := hs
  leave a _ hs _ _ lost := by
    obtain ⟨grants, wait⟩ := (or_self_iff.mp hs) lost
    exact ⟨by simp [State.dropShares, State.modHeader, Header.release, Header.leave, State.modArm, grants],
      by simp [State.dropShares, State.modHeader, Header.release, Header.leave, State.modArm, wait]⟩
  station _ _ hs := hs
  bus _ hs := hs
  page _ _ hs _ := hs
  port _ _ hs _ := hs
  blend _ _ hs _ _ := hs
  unshared hs _ _ _ := hs
  grant _ _ _ _ present _ _ lost := absurd (present.symm.trans lost) (by decide)
  queue _ _ _ _ _ _ present _ _ lost := absurd (present.symm.trans lost) (by decide)
  serveHead _ _ present _ lost := absurd (present.symm.trans lost) (by decide)
  served hs _ := hs
  waitTimer a hs lost := by
    obtain ⟨grants, wait⟩ := hs lost
    exact ⟨grants, by simp [State.shareTimerExpired, State.modHeader, wait]⟩
  meter _ _ hs _ := hs
  complete a e hs _ := by
    simpa only [State.emptyIfLost, State.completeLoad_header, State.completeLoad_trips] using hs

/-! ## After serving (R106) -/

/-- The head of the wait list does not fit the free shares. -/
def State.headBlocked (s : State) : Prop :=
  ∀ w rest, s.header.wait = w :: rest → s.header.capacity < s.header.inUse + w.shares

/-- An arm that acts on its grant joins no one to the wait list. -/
theorem shortWait_blending (n : Nat) :
    Blending (fun s => s.header.wait.length ≤ n) fun _ s => s.header.wait.length ≤ n where
  quiet _ _ hs _ _ := hs
  granted _ _ hs _ _ := hs
  leave _ _ hs _ _ := (List.length_filter_le _ _).trans (or_self_iff.mp hs)
  station _ _ hs := hs
  bus _ hs := hs
  page _ _ hs _ := hs
  port _ _ hs _ := hs
  blend _ _ hs _ _ := hs

/-- Serving as often as there are entries leaves no head that could be served. -/
theorem serveUpTo_head : ∀ (n : Nat) {s : State}, s.header.wait.length ≤ n → ∀ w rest,
    (State.serveUpTo n s).header.wait = w :: rest →
      ¬ ((State.serveUpTo n s).trips.header = true ∧ w.shares ≤ (State.serveUpTo n s).header.free)
  | 0, s, short, w, rest, hw => by
    rw [State.serveUpTo, List.eq_nil_of_length_eq_zero (Nat.le_zero.mp short)] at hw
    exact absurd hw (by simp)
  | n + 1, s, short, w, rest, hw => by
    cases head : s.header.wait with
    | nil => simp [State.serveUpTo, head] at hw
    | cons x xs =>
      simp only [State.serveUpTo, head] at hw ⊢
      split at hw
      · rename_i fits
        rw [if_pos fits]
        refine serveUpTo_head n ?_ w rest hw
        have popped : (s.modHeader fun h => ({ h with wait := xs } : Header).grant x.arm x.shares).header.wait.length ≤ n := by
          rw [head, List.length_cons] at short
          exact Nat.le_of_succ_le_succ short
        cases hl : s.load? x.arm with
        | none =>
          have absent : (s.modHeader fun h => ({ h with wait := xs } : Header).grant x.arm x.shares).load? x.arm =
            none := hl
          rw [State.receiveGrant, absent]
          exact popped
        | some l => exact (shortWait_blending n).receiveGrant popped hl
      · rename_i blocked
        rw [if_neg blocked]
        obtain ⟨rfl, -⟩ := List.cons.inj (head.symm.trans hw)
        exact blocked

/-- A served list has a head that does not fit, unless the permissive is lost. -/
theorem serve_headBlocked {s : State} (lost : s.serve.emptyIfLost) : s.serve.headBlocked := by
  intro w rest hw
  by_contra fits
  refine serveUpTo_head _ le_rfl w rest hw ⟨?_, ?_⟩
  · by_contra absent
    rw [(lost (by simpa [State.serve] using absent)).2] at hw
    exact absurd hw (by simp)
  · change w.shares ≤ s.serve.header.capacity - s.serve.header.inUse
    omega

/-! ## Between the events -/

/-- What the progress within an event keeps of the allocator. -/
def InEvent (s : State) : Prop := Shared s ∧ s.emptyIfLost

/-- What holds of the allocator between the events. -/
structure Allocated (s : State) : Prop where
  shared : Shared s
  lost : s.emptyIfLost
  blocked : s.headBlocked

/-- The progress within an event keeps the allocator's part. -/
theorem inEvent_progress : Progress InEvent fun a s => SharedFor a s ∧ s.emptyIfLost :=
  shared_progress.and emptyIfLost_progress

/-- The end of an event leaves a head that does not fit: an allocator that the event has not touched has the head it had,
another is served. -/
theorem allocated_endEvent {s0 s : State} (hs0 : s0.headBlocked) (hs : InEvent s) : Allocated (State.endEvent s0 s) := by
  obtain ⟨shared, lost⟩ := inEvent_progress.endEvent (s0 := s0) hs
  refine ⟨shared, lost, ?_⟩
  have served : (State.serveAfter s0 s).headBlocked := by
    unfold State.serveAfter
    split
    · rename_i same
      rw [State.headBlocked, same]
      exact hs0
    · exact serve_headBlocked (inEvent_progress.serve hs).2
  intro w rest hw
  rw [State.endEvent, State.bumpRevisions_header] at hw ⊢
  exact served w rest hw

/-- The events keep what holds of the allocator between them. -/
theorem allocated_events : Events InEvent (fun a s => SharedFor a s ∧ s.emptyIfLost) Allocated where
  station st f hs := ⟨shared_progress.station st f hs.shared, hs.lost, hs.blocked⟩
  bus b hs := ⟨shared_progress.bus b hs.shared, hs.lost, hs.blocked⟩
  port p f hs move := ⟨shared_progress.port p f hs.shared move, hs.lost, hs.blocked⟩
  progress := inEvent_progress
  inner hs := ⟨hs.shared, hs.lost⟩
  ended hs0 hs := allocated_endEvent hs0.blocked hs
  meter m f hs move := ⟨shared_progress.meter m f hs.shared move, hs.lost, hs.blocked⟩
  load a _ hg hs := ⟨shared_progress.modLoad a hg hs.shared, hs.lost, hs.blocked⟩
  waitTimer {s} a hs := by
    refine ⟨shared_progress.waitTimer a hs.shared, emptyIfLost_progress.waitTimer a hs.lost, fun w rest hw => ?_⟩
    change s.header.wait.map _ = w :: rest at hw
    obtain ⟨x, xs, head, rfl, -⟩ := List.map_eq_cons_iff.mp hw
    have blocked := hs.blocked x xs head
    split
    · exact blocked
    · exact blocked

/-! ## SET HEADER CAPACITY, the lane permissives and ESD -/

/-- A new capacity that the shares in use fit: a raise serves the list, a lower one leaves its head blocked (R110). -/
theorem allocated_capacitySet {s : State} (b : Byte) (hs : Allocated s) : Allocated (s.capacitySet b).1 := by
  unfold State.capacitySet
  split
  · exact hs
  · split
    · exact hs
    · rename_i room
      have shared : Shared (s.modHeader fun h => { h with capacity := b.toNat }) :=
        ⟨⟨hs.shared.sums.inUse, Nat.le_of_not_lt room⟩, fun a => (hs.shared.arms a).congr rfl rfl⟩
      refine Leaving.ite (fun _ => allocated_endEvent hs.blocked ⟨shared, hs.lost⟩) fun lower =>
        ⟨shared, hs.lost, fun w rest hw => ?_⟩
      have blocked := hs.blocked w rest hw
      change b.toNat < s.header.inUse + w.shares
      omega

/-- The loss of a lane permissive (R155). -/
theorem allocated_laneLost {s : State} (l : Fin 4) (hs : Allocated s) : Allocated (s.laneLost l) := by
  refine Leaving.ite (fun _ => ?_) fun _ => hs
  have tripped : InEvent { s with trips := { s.trips with lanes := s.trips.lanes.set l.val false } } :=
    ⟨⟨hs.shared.sums, hs.shared.arms⟩, hs.lost⟩
  exact allocated_endEvent hs.blocked (Leaving.foldl (armsOf l)
    (inEvent_progress.raise _ (raisable_lane _ _ (by decide)) tripped) fun _ a ht => inEvent_progress.addCauses a _ ht)

/-! ### The header permissive (R111) -/

/-- The arm has neither a grant nor an entry. -/
def State.unsharedAt (b : Fin 8) (s : State) : Prop := s.header.held b = [] ∧ s.header.asked b = []

/-- An arm that leaves its shares has none, and so have those that had none. -/
theorem unsharedAt_leaving (b : Fin 8) : Leaving (State.unsharedAt b) fun a _ => a = b where
  quiet _ _ hs _ _ := hs
  granted _ _ hs _ _ := hs
  leave {s} a f hs _ _ := by
    by_cases e : b = a
    · subst e
      exact ⟨Header.held_drop_self _ _, Header.asked_drop_self _ _⟩
    · obtain ⟨held, asked⟩ := hs.resolve_right (Ne.symm e)
      exact ⟨(Header.held_drop_ne _ e).trans held, (Header.asked_drop_ne _ e).trans asked⟩
  station _ _ hs := hs
  bus _ hs := hs
  page _ _ hs _ := hs
  port _ _ hs _ := hs

/-- An arm at which the supply is lost has no shares afterwards. -/
theorem unsharedAt_supplyLostArm {s : State} (hs : Shared s) (a : Fin 8) : (s.supplyLostArm a).unsharedAt a := by
  have leaving := unsharedAt_leaving a
  cases place : (s.arm a).state.place with
  | outside => exact leaving.supplyLostArm a (.inl ((hs.arms a).outside place))
  | blending =>
    obtain ⟨asked, l, hl, held⟩ := (hs.arms a).blending place
    by_cases uncounted : l.recipe.shareCount = 0
    · exact leaving.supplyLostArm a (.inl ⟨held.trans (if_pos uncounted), asked⟩)
    · exact leaving.supplyLostArm a (.inr ⟨rfl, by rw [place]; decide, l, hl, uncounted⟩)
  | waiting =>
    obtain ⟨-, l, hl, counts, -⟩ := (hs.arms a).waiting place
    exact leaving.supplyLostArm a (.inr ⟨rfl, by rw [place]; decide, l, hl, counts⟩)

/-- After the loss at these arms no arm has shares, where the others had none. -/
theorem unsharedAt_supplyLost : ∀ (arms : List (Fin 8)) {s : State}, Shared s → (∀ b, b ∉ arms → s.unsharedAt b) →
    Shared (arms.foldl State.supplyLostArm s) ∧ ∀ b, (arms.foldl State.supplyLostArm s).unsharedAt b
  | [], _, hs, others => ⟨hs, fun b => others b List.not_mem_nil⟩
  | a :: rest, s, hs, others => by
    refine unsharedAt_supplyLost rest (shared_progress.supplyLostArm a (.inl hs)) fun b hb => ?_
    by_cases e : b = a
    · subst e
      exact unsharedAt_supplyLostArm hs b
    · exact (unsharedAt_leaving b).supplyLostArm a (.inl (others b (by simp [e, hb])))

/-- The loss of the header permissive: every arm that blends or waits for shares leaves them (R111, R113). -/
theorem allocated_headerLost {s : State} (hs : Allocated s) : Allocated s.headerLost := by
  refine Leaving.ite (fun _ => ?_) fun _ => hs
  have tripped : Shared ({ s with trips := { s.trips with header := false } } : State) := ⟨hs.shared.sums, hs.shared.arms⟩
  have raised := shared_progress.raise .trip (ps := allPorts) (raisable_lane _ _ (by decide)) tripped
  obtain ⟨shared, unshared⟩ := unsharedAt_supplyLost allArms raised fun b hb => absurd (mem_allArms b) hb
  exact allocated_endEvent hs.blocked ⟨shared, fun _ => Header.empty_of_none unshared⟩

/-! ### ESD (R114) -/

/-- A completion takes the load of its arm and leaves the others. -/
theorem State.completeLoad_load? (s : State) (a b : Fin 8) (e : EndStatus) :
    (s.completeLoad a e).load? b = if b = a then none else s.load? b := by
  have raised := fun (t : State) n ps => raise_kept (fun s => s.load? b) (fun _ _ _ => rfl) n ps t
  cases hl : s.load? a with
  | none =>
    rw [completeLoad_of_none hl]
    split
    · rename_i same
      rw [same, hl]
    · rfl
  | some l =>
    obtain ⟨t, complete⟩ := completeLoad_eq hl e
    have given : (s.handedOver a l e t).load? b = if b = a then none else s.load? b := by
      change (((s.modPage a fun g => g.append t).modArm a Arm.vacated).arm b).load = _
      split
      · rename_i same
        rw [same, modArm_arm_self]
        rfl
      · rename_i ne
        rw [modArm_arm_ne _ a _ b ne]
        rfl
    rw [complete, ← given]
    simp only [ended]
    split
    · rw [raised, raised]
    · rw [raised]

/-- The settling of a load leaves the allocator. -/
@[simp] theorem State.settleForEsd_header (s : State) (a : Fin 8) : (s.settleForEsd a).header = s.header := by
  unfold settleForEsd
  split
  · rfl
  · exact Leaving.foldl (P := (State.header · = s.header)) allStations rfl fun _ _ ht => ht

/-- After the completion of these arms' loads no arm has one, where the others had none. -/
theorem load?_completed (e : EndStatus) : ∀ (arms : List (Fin 8)) {s : State}, (∀ b, b ∉ arms → s.load? b = none) →
    ∀ b, (arms.foldl (fun v a => v.completeLoad a e) s).load? b = none
  | [], _, others, b => others b List.not_mem_nil
  | a :: rest, s, others, b => by
    refine load?_completed e rest (fun c hc => ?_) b
    rw [State.completeLoad_load?]
    split
    · rfl
    · exact others c (by simp [*])

/-- The header between the events of a controller that keeps R36 and R188. -/
structure HeaderKept (s : State) : Prop where
  each : EachItem Arm.RightIn (fun _ _ => True) (fun _ => True) (fun _ => True) s
  allocated : Allocated s

/-- An allocator that holds nothing for arms that are all IDLE. -/
theorem allocated_of_idle {s : State} (idle : ∀ a, (s.arm a).state = .idle) (grants : s.header.grants = [])
    (wait : s.header.wait = []) (inUse : s.header.inUse = 0) : Allocated s := by
  refine ⟨⟨⟨?_, ?_⟩, fun a => .of_none (by rw [idle]; rfl) ?_ ?_⟩, fun _ => ⟨grants, wait⟩, fun w rest hw => ?_⟩
  · rw [inUse, Header.granted, grants]
    rfl
  · rw [inUse]
    exact Nat.zero_le _
  · rw [Header.held, grants]
    rfl
  · rw [Header.asked, wait]
    rfl
  · rw [wait] at hw
    exact absurd hw (by simp)

/-- With every arm IDLE nothing is granted and no one waits. -/
theorem Allocated.empty_of_idle {s : State} (hs : Allocated s) (idle : ∀ a, (s.arm a).state = .idle) :
    s.header.grants = [] ∧ s.header.wait = [] :=
  Header.empty_of_none fun a => (hs.shared.arms a).outside (by rw [idle]; rfl)

/-- ESD empties the allocator and leaves every arm IDLE, for it leaves none with a load (R114, R154). -/
theorem headerKept_esdAsserted {s : State} (hs : HeaderKept s) : Allocated s.esdAsserted := by
  by_cases asserted : s.trips.esd = true
  · rw [State.esdAsserted, if_pos asserted]
    exact hs.allocated
  · have each := rightIn_laws.entries.esdAsserted hs.each
    have loads : ∀ b, s.esdAsserted.load? b = none := by
      rw [State.esdAsserted, if_neg asserted]
      exact load?_completed .esd allArms fun b hb => absurd (mem_allArms b) hb
    have header : s.esdAsserted.header = { s.header with inUse := 0, grants := [], wait := [] } := by
      rw [State.esdAsserted, if_neg asserted]
      have raised := raise_kept State.header (fun _ _ _ => rfl) .trip allPorts { s with trips := { s.trips with esd := true } }
      refine Leaving.foldl (P := (State.header · = _)) allArms (Leaving.foldl (P := (State.header · = _)) allStations
        (Leaving.foldl (P := (State.header · = _)) allArms ?_ fun t a ht => (State.settleForEsd_header t a).trans ht)
        fun _ _ ht => ht) fun t a ht => (State.completeLoad_header t a .esd).trans ht
      simp only [State.headerEmptied, State.modHeader, raised]
    refine allocated_of_idle (fun a => ?_) (by rw [header]) (by rw [header]) (by rw [header])
    by_contra busy
    have present := (each.arms a).load.mpr busy
    rw [show (s.esdAsserted.arm a).load = none from loads a] at present
    exact absurd present (by simp)

/-! ## The commands -/

/-- Every command keeps the header. -/
theorem headerKept_commands : Commands HeaderKept := by
  have items := rightIn_laws.commands
  have events := allocated_events.entries
  have same : ∀ {s t : State}, Allocated s → t.header = s.header → t.arms = s.arms →
      (t.trips.header = s.trips.header ∨ t.trips.header = true) → Allocated t := by
    intro s t hs header arms trips
    refine ⟨⟨by rw [header]; exact hs.shared.sums, fun a => ?_⟩, fun lost => ?_, by
      rw [State.headBlocked, header]; exact hs.blocked⟩
    · rw [header, State.arm, arms]
      exact hs.shared.arms a
    · rw [header]
      exact hs.lost (trips.elim (fun e => e.symm.trans lost) fun e => absurd (e.symm.trans lost) (by decide))
  exact {
    pulse := fun m hs => ⟨items.pulse m hs.each, events.pulse m hs.allocated⟩
    busReplied := fun b0 b1 b2 hs => ⟨items.busReplied b0 b1 b2 hs.each, events.busReplied b0 b1 b2 hs.allocated⟩
    windowClosed := fun hs => ⟨items.windowClosed hs.each, events.windowClosed hs.allocated⟩
    frameSent := fun hs => ⟨items.frameSent hs.each, events.frameSent hs.allocated⟩
    changeoverOver := fun st hs => ⟨items.changeoverOver st hs.each, events.changeoverOver st hs.allocated⟩
    pollDue := fun st hs => ⟨items.pollDue st hs.each, events.pollDue st hs.allocated⟩
    shotTimedOut := fun st hs => ⟨items.shotTimedOut st hs.each, events.shotTimedOut st hs.allocated⟩
    noFlowElapsed := fun a hs => ⟨items.noFlowElapsed a hs.each, events.noFlowElapsed a hs.allocated⟩
    settleElapsed := fun a hs => ⟨items.settleElapsed a hs.each, events.settleElapsed a hs.allocated⟩
    holdElapsed := fun a hs => ⟨items.holdElapsed a hs.each, events.holdElapsed a hs.allocated⟩
    shareWaitElapsed := fun a hs => ⟨items.shareWaitElapsed a hs.each, events.shareWaitElapsed a hs.allocated⟩
    restoreRequested := fun p b hs => ⟨items.restoreRequested p b hs.each, events.restoreRequested p b hs.allocated⟩
    loadStopped := fun p arm n hs => ⟨items.loadStopped p arm n hs.each, events.loadStopped p arm n hs.allocated⟩
    loadAmended := fun p n v hs => ⟨items.loadAmended p n v hs.each, events.loadAmended p n v hs.allocated⟩
    loadHeld := fun p arm n hs => ⟨items.loadHeld p arm n hs.each, events.loadHeld p arm n hs.allocated⟩
    holdReleased := fun p arm n hs => ⟨items.holdReleased p arm n hs.each, events.holdReleased p arm n hs.allocated⟩
    loadResumed := fun p arm n hs => ⟨items.loadResumed p arm n hs.each, events.loadResumed p arm n hs.allocated⟩
    checkpointMarked := fun p arm n c m hs =>
      ⟨items.checkpointMarked p arm n c m hs.each, events.checkpointMarked p arm n c m hs.allocated⟩
    checkpointCleared := fun p arm n c hs =>
      ⟨items.checkpointCleared p arm n c hs.each, events.checkpointCleared p arm n c hs.allocated⟩
    capacitySet := fun b hs => ⟨items.capacitySet b hs.each, allocated_capacitySet b hs.allocated⟩
    esdAsserted := fun hs => ⟨items.esdAsserted hs.each, headerKept_esdAsserted hs⟩
    headerLost := fun hs => ⟨items.headerLost hs.each, allocated_headerLost hs.allocated⟩
    laneLost := fun l hs => ⟨items.laneLost l hs.each, allocated_laneLost l hs.allocated⟩
    port := fun p f hs move => ⟨items.port p f hs.each move, same hs.allocated rfl rfl (.inl rfl)⟩
    meter := fun m f hs move => ⟨items.meter m f hs.each move, same hs.allocated rfl rfl (.inl rfl)⟩
    station := fun st f hs => ⟨items.station st f hs.each, same hs.allocated rfl rfl (.inl rfl)⟩
    bus := fun b hs => ⟨items.bus b hs.each, same hs.allocated rfl rfl (.inl rfl)⟩
    enable := fun a e hs => by
      refine ⟨items.enable a e hs.each, ⟨?_, hs.allocated.lost, hs.allocated.blocked⟩⟩
      exact shared_progress.timers a _ hs.allocated.shared rfl rfl rfl rfl
    settings := fun x hs e => ⟨items.settings x hs.each e, same hs.allocated rfl rfl (.inl rfl)⟩
    threshold := fun x hs low => ⟨items.threshold x hs.each low, same hs.allocated rfl rfl (.inl rfl)⟩
    capacity := fun {s} n hs mode => by
      have idle : ∀ a, (s.arm a).state = .idle := fun a => (hs.each.arms a).idle mode
      obtain ⟨grants, wait⟩ := hs.allocated.empty_of_idle idle
      refine ⟨items.capacity n hs.each mode, allocated_of_idle idle grants wait ?_⟩
      rw [show (s.modHeader fun h => { h with capacity := n }).header.inUse = s.header.inUse from rfl,
        hs.allocated.shared.sums.inUse, Header.granted, grants]
      rfl
    probe := fun c f hs => ⟨items.probe c f hs.each, same hs.allocated rfl rfl (.inl rfl)⟩
    scan := fun x hs => ⟨items.scan x hs.each, same hs.allocated rfl rfl (.inl rfl)⟩
    operate := fun hs => ⟨items.operate hs.each, same hs.allocated rfl rfl (.inl rfl)⟩
    configure := fun hs idle => ⟨items.configure hs.each idle, same hs.allocated rfl rfl (.inl rfl)⟩
    slot := fun k r hs => ⟨items.slot k r hs.each, same hs.allocated rfl rfl (.inl rfl)⟩
    queue := fun l q hs short => ⟨items.queue l q hs.each short, same hs.allocated rfl rfl (.inl rfl)⟩
    authCounter := fun n hs => ⟨items.authCounter n hs.each, same hs.allocated rfl rfl (.inl rfl)⟩
    freeCount := fun n hs => ⟨items.freeCount n hs.each, same hs.allocated rfl rfl (.inl rfl)⟩
    seconds := fun n hs => ⟨items.seconds n hs.each, same hs.allocated rfl rfl (.inl rfl)⟩
    undeliver := fun n hs => ⟨items.undeliver n hs.each, same hs.allocated rfl rfl (.inl rfl)⟩
    reserve := fun r n hs => ⟨items.reserve r n hs.each, same hs.allocated rfl rfl (.inl rfl)⟩
    clearPage := fun a hs => ⟨items.clearPage a hs.each, same hs.allocated rfl rfl (.inl rfl)⟩
    start := fun {s a f l} hs mode idle prime shut load fresh => by
      refine ⟨items.start hs.each mode idle prime shut load fresh, ⟨⟨hs.allocated.shared.sums, ?_⟩, hs.allocated.lost,
        hs.allocated.blocked⟩⟩
      obtain ⟨held, asked⟩ := (hs.allocated.shared.arms a).outside (by rw [idle]; rfl)
      exact State.forall_modArm (R := fun b x => ArmShares s.header b x) hs.allocated.shared.arms
        (.of_none (by rw [prime]; rfl) held asked)
    trips := fun x hs present => ⟨items.trips x hs.each present, same hs.allocated rfl rfl present⟩
    poweredOn := fun x hs => by
      refine ⟨items.poweredOn x hs.each, allocated_of_idle (fun a => ?_) rfl rfl rfl⟩
      rw [show (State.poweredOn _ x).arm a = Arm.reset from powerOn_arm x a]
      rfl }

/-! ## The invariant of R104 as one of the single arms -/

/-- A list of at most one element that has only this one. -/
theorem eq_singleton_of_length {L : List Nat} {c : Nat} (once : L.length ≤ 1) (all : ∀ n ∈ L, n = c) {n : Nat} (mem : n ∈ L) :
    L = [c] := by
  have one : L.length = 1 := Nat.le_antisymm once (List.length_pos_of_mem mem)
  rw [List.eq_replicate_of_mem all, one]
  rfl

/-- What R104 says of the allocator is said of each arm by itself. -/
theorem State.headerRight.allocated {s : State} (h : s.headerRight) (loads : s.loadsRight) : Allocated s := by
  refine ⟨⟨⟨h.inUse, h.fits⟩, fun a => ⟨fun place => ?_, fun place => ?_, fun place => ?_⟩⟩, h.lost, h.headBlocked⟩
  all_goals
    have heldOnce : (s.header.held a).length ≤ 1 := by
      rw [Header.length_held]
      exact List.nodup_iff_count_le_one.mp h.grantedOnce a
    have askedOnce : (s.header.asked a).length ≤ 1 := by
      rw [Header.length_asked]
      exact List.nodup_iff_count_le_one.mp h.listedOnce a
    have unheld : (s.arm a).state.place ≠ .blending → s.header.held a = [] := fun other => by
      refine List.eq_nil_iff_forall_not_mem.mpr fun n hn => ?_
      obtain ⟨g, hg, rfl, -⟩ := Header.exists_grant hn
      exact other (ArmState.place_eq_blending_iff.mpr (h.granted g hg).1)
    have unasked : (s.arm a).state.place ≠ .waiting → s.header.asked a = [] := fun other => by
      refine List.eq_nil_iff_forall_not_mem.mpr fun n hn => ?_
      obtain ⟨w, hw, rfl, -⟩ := Header.exists_waiter hn
      exact other (ArmState.place_eq_waiting_iff.mpr (h.listed w hw).1)
  case refine_1 => exact ⟨unheld (by rw [place]; decide), unasked (by rw [place]; decide)⟩
  case refine_2 =>
    refine ⟨unasked (by rw [place]; decide), ?_⟩
    have busy : (s.arm a).state ≠ .idle := fun idle => by rw [idle] at place; exact absurd place (by decide)
    obtain ⟨l, hl⟩ := Option.isSome_iff_exists.mp ((loads a).mpr busy)
    have counts : ∀ n ∈ s.header.held a, n = l.recipe.shareCount ∧ 0 < n := fun n hn => by
      obtain ⟨g, hg, rfl, rfl⟩ := Header.exists_grant hn
      obtain ⟨-, m, hm, shares, some⟩ := h.granted g hg
      obtain rfl := Option.some.inj (hl.symm.trans hm)
      exact ⟨shares, some⟩
    refine ⟨l, hl, ?_⟩
    by_cases uncounted : l.recipe.shareCount = 0
    · rw [Load.due, if_pos uncounted]
      refine List.eq_nil_iff_forall_not_mem.mpr fun n hn => ?_
      obtain ⟨rfl, positive⟩ := counts n hn
      omega
    · rw [Load.due, if_neg uncounted]
      obtain ⟨g, hg, rfl⟩ := h.blending a l hl (ArmState.place_eq_blending_iff.mp place) (Nat.pos_of_ne_zero uncounted)
      exact eq_singleton_of_length heldOnce (fun n hn => (counts n hn).1) (Header.mem_held hg)
  case refine_3 =>
    refine ⟨unheld (by rw [place]; decide), ?_⟩
    obtain ⟨w, hw, rfl⟩ := h.waiting a (ArmState.place_eq_waiting_iff.mp place)
    obtain ⟨-, l, hl, shares, positive⟩ := h.listed w hw
    refine ⟨l, hl, by omega, eq_singleton_of_length askedOnce (fun n hn => ?_) (Header.mem_asked hw)⟩
    obtain ⟨x, hx, arm, rfl⟩ := Header.exists_waiter hn
    obtain ⟨-, m, hm, asked, -⟩ := h.listed x hx
    rw [arm] at hm
    obtain rfl := Option.some.inj (hl.symm.trans hm)
    exact asked

/-- What is said of each arm by itself is what R104 says of the allocator. -/
theorem Allocated.headerRight {s : State} (h : Allocated s) : s.headerRight where
  inUse := h.shared.sums.inUse
  fits := h.shared.sums.fits
  grantedOnce := List.nodup_iff_count_le_one.mpr fun a => by
    rw [← Header.length_held]
    exact (h.shared.arms a).length_held
  listedOnce := List.nodup_iff_count_le_one.mpr fun a => by
    rw [← Header.length_asked]
    exact (h.shared.arms a).length_asked
  granted g hg := by
    have mem := Header.mem_held hg
    cases place : (s.arm g.arm).state.place with
    | outside => rw [((h.shared.arms _).outside place).1] at mem; exact absurd mem List.not_mem_nil
    | waiting => rw [((h.shared.arms _).waiting place).1] at mem; exact absurd mem List.not_mem_nil
    | blending =>
      obtain ⟨-, l, hl, held⟩ := (h.shared.arms _).blending place
      rw [held, Load.due] at mem
      split at mem
      · exact absurd mem List.not_mem_nil
      · obtain count := List.mem_singleton.mp mem
        exact ⟨ArmState.place_eq_blending_iff.mp place, l, hl, count, by omega⟩
  blending a l hl blends counts := by
    obtain ⟨-, m, hm, held⟩ := (h.shared.arms a).blending (ArmState.place_eq_blending_iff.mpr blends)
    obtain rfl := Option.some.inj (hm.symm.trans hl)
    have mem : m.recipe.shareCount ∈ s.header.held a := by
      rw [held, Load.due, if_neg (by omega)]
      exact List.mem_singleton_self _
    obtain ⟨g, hg, arm, -⟩ := Header.exists_grant mem
    exact ⟨g, hg, arm⟩
  listed w hw := by
    have mem := Header.mem_asked hw
    cases place : (s.arm w.arm).state.place with
    | outside => rw [((h.shared.arms _).outside place).2] at mem; exact absurd mem List.not_mem_nil
    | blending => rw [((h.shared.arms _).blending place).1] at mem; exact absurd mem List.not_mem_nil
    | waiting =>
      obtain ⟨-, l, hl, counts, asked⟩ := (h.shared.arms _).waiting place
      rw [asked] at mem
      obtain count := List.mem_singleton.mp mem
      exact ⟨ArmState.place_eq_waiting_iff.mp place, l, hl, count, by omega⟩
  waiting a waits := by
    obtain ⟨-, l, -, -, asked⟩ := (h.shared.arms a).waiting (ArmState.place_eq_waiting_iff.mpr waits)
    have mem : l.recipe.shareCount ∈ s.header.asked a := by
      rw [asked]
      exact List.mem_singleton_self _
    obtain ⟨w, hw, arm, -⟩ := Header.exists_waiter mem
    exact ⟨w, hw, arm⟩
  headBlocked := h.blocked
  lost := h.lost

/-- Settles O59: the allocator keeps each arm's shares within an event, and the end of the event serves the list. -/
theorem headerSharesKept : Obligations.HeaderSharesKept := by
  unfold Obligations.HeaderSharesKept
  intro s t idle right hstep
  have kept : HeaderKept s := ⟨(configureIdle_iff s).mp idle, right.allocated idle.1⟩
  have pendingKept : ∀ q, HeaderKept { s with pending := q } := fun q =>
    ⟨kept.each.others, ⟨⟨kept.allocated.shared.sums, kept.allocated.shared.arms⟩, kept.allocated.lost,
      kept.allocated.blocked⟩⟩
  exact (headerKept_commands.step pendingKept hstep).allocated.headerRight

/-- Settles O60: at reset the items are as R1 to R189 have them, and nothing is granted, queued or flagged. -/
theorem invariantsAtReset : Obligations.InvariantsAtReset := by
  unfold Obligations.InvariantsAtReset
  unfold State.reset
  have loads : (State.powerOn { esd := false, header := true, lanes := Vector.replicate 4 true }).configureIdle :=
    ⟨fun a => by simp [Arm.reset], fun _ a => by simp [Arm.reset]⟩
  refine ⟨fun p => ?_, fun p => ?_, ⟨fun a => ?_, fun r hr => absurd hr List.not_mem_nil⟩,
    ⟨fun a => ?_, fun r hr => absurd hr List.not_mem_nil⟩, fun a => ?_, fun m => ?_, fun a => ?_,
    fun l => ?_, fun p => ?_, ⟨?_, fun m => ?_⟩, loads, (allocated_of_idle (loads.2 rfl) rfl rfl rfl).headerRight⟩
  · simp [PortState.reset, attentionOf]
  · simp [PortState.reset]
  · simp
  · simp
  · simp [Arm.reset, Arm.valvesRight]
  · simp [Meter.reset, Meter.right]
  · simp [TracePage.reset]
  · simp
  · simp [PortState.reset, TraceWindow.inside, TraceWindow.reset]
  · exact Nat.le_add_left 1 19
  · rw [powerOn_meter]
    exact fun past => absurd past (by simp [Meter.reset, State.powerOn, Settings.reset])

end Sys2Proof.Machine
end

section
/-! PROOFS. The step, power-on, time and the ports: what an event of a port does, how a request is taken, read back from its
bytes and assembled from them (R153, R158, R181, R182, R184, R188, R192). -/

namespace Sys2Proof.Machine

/-! ## The step, power-on and time -/

/-- Settles O1. -/
theorem stepRunsFrontCommand : Obligations.StepRunsFrontCommand := by
  unfold Obligations.StepRunsFrontCommand
  refine ⟨fun s c rest front => ?_, fun s idle => ?_⟩
  · simp only [step, front]
  · simp only [step, idle]

/-- Settles O2: power-on builds the state from the items' values at power-on. -/
theorem powerOnLeavesResetValues : Obligations.PowerOnLeavesResetValues := by
  unfold Obligations.PowerOnLeavesResetValues
  refine ⟨fun _ _ _ _ _ _ _ => rfl, rfl, fun a => powerOn_arm _ a, fun m => powerOn_meter _ m, fun c => powerOn_probe _ c,
    rfl, rfl, fun st => powerOn_station _ st, fun k => powerOn_slot _ k, fun l => powerOn_queue _ l,
    fun a => powerOn_page _ a, rfl, rfl, rfl, rfl, rfl, rfl, rfl, fun p => ?_⟩
  rw [show State.reset.port p = PortState.reset (classFlags p) from powerOn_port _ p]
  exact ⟨rfl, rfl, rfl, rfl, rfl, rfl, rfl⟩

/-- Ageing the queues of these lanes ages each of their authorizations once, and no other. -/
theorem ageQueues_queue : ∀ (lanes : List (Fin 4)) (s : State), lanes.Nodup → ∀ l,
    (lanes.foldl State.ageQueue s).queue l =
      if l ∈ lanes then (s.queue l).map fun x => { x with elapsed := x.elapsed + 1 } else s.queue l
  | [], _, _, _ => by simp
  | k :: rest, s, distinct, l => by
    obtain ⟨fresh, others⟩ := List.nodup_cons.mp distinct
    rw [List.foldl_cons, ageQueues_queue rest (s.ageQueue k) others l]
    by_cases e : l = k
    · subst e
      simp [fresh, State.ageQueue]
    · simp [e, State.ageQueue]

/-- Ageing changes the queues alone. -/
theorem ageQueues_only (lanes : List (Fin 4)) (s : State) :
    { lanes.foldl State.ageQueue s with queues := s.queues } = s :=
  Leaving.foldl (P := fun t => { t with queues := s.queues } = s) lanes rfl fun _ _ ht => ht

/-- Settles O3: the seconds saturate, and the ageing of the queues is all the rest. -/
theorem secondsTickAdvances : Obligations.SecondsTickAdvances := by
  unfold Obligations.SecondsTickAdvances
  intro s
  have seconds : s.secondPassed.seconds = min (s.seconds + 1) Config.maxSeconds :=
    Leaving.foldl (P := fun t => t.seconds = min (s.seconds + 1) Config.maxSeconds) allLanes rfl fun _ _ ht => ht
  refine ⟨s.secondPassed, rfl, ?_, fun l => ?_, ?_⟩
  · rw [seconds, show Config.maxSeconds = 4294967295 from rfl]
    split
    · omega
    · omega
  · have aged := ageQueues_queue allLanes { s with seconds := min (s.seconds + 1) Config.maxSeconds } (by decide) l
    rw [if_pos (mem_allLanes l)] at aged
    exact aged
  · have only := ageQueues_only allLanes { s with seconds := min (s.seconds + 1) Config.maxSeconds }
    exact congrArg (fun t : State => { t with seconds := s.seconds }) only

/-! ## The events of a port -/

/-- Settles O4. -/
theorem portLineEvents : Obligations.PortLineEvents := by
  unfold Obligations.PortLineEvents
  refine fun p s => ⟨rfl, rfl, fun code tag r formed => ?_, rfl⟩
  change Host.Outcome.next (s.responseDone p) = _
  simp only [State.responseDone, formed]

/-! ## Requests (R182, R192) -/

/-- A well-formed request is taken as one: its own checks and effect follow. -/
theorem exec_request {i : Instr} {p : Port} {rc : ReqCode} {tag : Byte} {params : List Byte} (formed : i.wellFormed = true)
    (encoded : encodeRequest i = some (p, rc, tag, params)) :
    ∃ act, ∀ s, exec i s = .next (s.takeRequest p rc tag act) := by
  cases i
  case configure q u group index values =>
    obtain ⟨rfl, rfl, rfl, -⟩ : q = p ∧ ReqCode.configure = rc ∧ u = tag ∧ _ := by simpa [encodeRequest] using encoded
    have long : configureLengthOk group values = true := by
      simp only [Instr.wellFormed, Bool.and_eq_true] at formed
      exact formed.1
    exact ⟨_, fun s => if_pos long⟩
  case commitRecipe q u slot content =>
    obtain ⟨rfl, rfl, rfl, -⟩ : q = p ∧ ReqCode.commitRecipe = rc ∧ u = tag ∧ _ := by simpa [encodeRequest] using encoded
    have long : content.length = contentBytes := by simpa [Instr.wellFormed] using formed
    exact ⟨_, fun s => if_pos long⟩
  all_goals
    simp only [encodeRequest, Option.some.injEq, Prod.mk.injEq, reduceCtorEq] at encoded
  all_goals
    obtain ⟨rfl, rfl, rfl, -⟩ := encoded
    exact ⟨_, fun _ => rfl⟩

/-- Settles O5: a request reaches its own checks at a FREE port alone. -/
theorem frameAtBusyPortCollides : Obligations.FrameAtBusyPortCollides := by
  unfold Obligations.FrameAtBusyPortCollides
  refine ⟨fun p s busy => ?_, fun i p rc tag params s formed encoded busy => ?_⟩
  · change Host.Outcome.next (s.frameCollided p) = _
    rw [State.frameCollided, if_pos (isBusy_of_not_free busy), collide_eq_collided]
  · obtain ⟨act, runs⟩ := exec_request formed encoded
    rw [runs, takeRequest_busy busy]

/-- Settles O6: the class is judged before the request's own checks. -/
theorem requestFromWrongClassRefused : Obligations.RequestFromWrongClassRefused := by
  unfold Obligations.RequestFromWrongClassRefused
  intro i p rc tag params s formed encoded free forbidden
  obtain ⟨act, runs⟩ := exec_request formed encoded
  rw [runs, takeRequest_forbidden free forbidden]
  rfl

/-- A code's request has that code. -/
theorem ReqCode.ofByte_toByte (rc : ReqCode) : ReqCode.ofByte rc.toByte = some rc := by cases rc <;> rfl

/-- The code of a request that a byte names. -/
theorem ReqCode.toByte_of_ofByte {c : Byte} {rc : ReqCode} (named : ReqCode.ofByte c = some rc) : rc.toByte = c := by
  have found := List.find?_some named
  simpa using found

/-- The codes of the conditional requests (R12). -/
theorem ReqCode.conditional_iff (rc : ReqCode) :
    rc.conditional = true ↔ rc.toByte = 0x11#8 ∨ rc.toByte = 0x12#8 ∨ rc.toByte = 0x22#8 := by
  cases rc <;> decide

/-- A bad request at a FREE port is answered, and clears the link under a conditional code. -/
theorem takeBadRequest_free {s : State} {p : Port} (free : s.free p = true) (code tag : Byte) :
    s.takeBadRequest p code tag =
      s.modPort p fun x =>
        { x with
          receive := .hunting
          answer := .busy code tag (some (refused .badRequest))
          link := if code = 0x11#8 ∨ code = 0x12#8 ∨ code = 0x22#8 then none else x.link } := by
  rw [State.takeBadRequest, if_neg (by simp [isBusy_of_free free])]
  cases named : ReqCode.ofByte code with
  | none =>
    have plain : ¬ (code = 0x11#8 ∨ code = 0x12#8 ∨ code = 0x22#8) := by
      rintro (rfl | rfl | rfl) <;> exact absurd named (by decide)
    simp [State.accept, State.respond, State.modPort_modPort, Answer.form, plain, refused, Response.refuse]
  | some rc =>
    have code := ReqCode.toByte_of_ofByte named
    subst code
    have conditional := ReqCode.conditional_iff rc
    by_cases c : rc.conditional = true
    · simp [State.accept, State.respond, State.clearIfConditional, State.setLink, State.modPort_modPort, Answer.form, c,
        conditional.mp c, refused, Response.refuse]
    · have plain := mt conditional.mpr c
      simp only [State.clearIfConditional, c, if_neg plain]
      simp [State.accept, State.respond, State.modPort_modPort, Answer.form, refused, Response.refuse]

/-- A body that is no request is taken as a bad one. -/
theorem exec_badRequest {p : Port} {code tag : Byte} {params : List Byte} (bad : decodeRequest p code tag params = none)
    (s : State) : exec (.badRequest p code tag params) s = .next (s.takeBadRequest p code tag) := by
  change Host.Outcome.next (s.badRequestTaken p code tag params) = _
  simp only [State.badRequestTaken, bad]

/-- Settles O7. -/
theorem badRequestAnswered : Obligations.BadRequestAnswered := by
  unfold Obligations.BadRequestAnswered
  intro p code tag params s free bad
  rw [exec_badRequest bad, takeBadRequest_free free]

/-! ## The bytes of a request (R192, R193) -/

/-- A two-byte field is read back from its bytes. -/
theorem word16_bytes (w : Word16) : word16 (w.extractLsb' 8 8) (w.extractLsb' 0 8) = w := by
  rw [word16, BitVec.extractLsb'_append_extractLsb'_eq_extractLsb' (by rfl), BitVec.extractLsb'_eq_self]

/-- A three-byte field is read back from its bytes. -/
theorem word24_bytes (w : Word24) : word24 (w.extractLsb' 16 8) (w.extractLsb' 8 8) (w.extractLsb' 0 8) = w := by
  rw [word24]
  iterate 2 rw [BitVec.extractLsb'_append_extractLsb'_eq_extractLsb' (by rfl)]
  exact BitVec.extractLsb'_eq_self

/-- A customer reference is read back from its bytes. -/
theorem word64_bytes (w : BitVec 64) :
    word64 (w.extractLsb' 56 8) (w.extractLsb' 48 8) (w.extractLsb' 40 8) (w.extractLsb' 32 8) (w.extractLsb' 24 8)
      (w.extractLsb' 16 8) (w.extractLsb' 8 8) (w.extractLsb' 0 8) = w := by
  rw [word64]
  iterate 7 rw [BitVec.extractLsb'_append_extractLsb'_eq_extractLsb' (by rfl)]
  exact BitVec.extractLsb'_eq_self

/-- A well-formed request is read back from its body. -/
theorem decodeRequest_encodeRequest {i : Instr} {p : Port} {rc : ReqCode} {tag : Byte} {params : List Byte}
    (formed : i.wellFormed = true) (encoded : encodeRequest i = some (p, rc, tag, params)) :
    decodeRequest p rc.toByte tag params = some i := by
  cases i
  case configure q u group index values =>
    obtain ⟨rfl, rfl, rfl, rfl⟩ : q = p ∧ ReqCode.configure = rc ∧ u = tag ∧ group :: index :: values = params := by
      simpa [encodeRequest] using encoded
    have long : configureLengthOk group values = true := by
      simp only [Instr.wellFormed, Bool.and_eq_true] at formed
      exact formed.1
    simp only [decodeRequest, ReqCode.ofByte_toByte, long, if_true]
  case commitRecipe q u slot content =>
    obtain ⟨rfl, rfl, rfl, rfl⟩ : q = p ∧ ReqCode.commitRecipe = rc ∧ u = tag ∧ slot :: content = params := by
      simpa [encodeRequest] using encoded
    have long : content.length = contentBytes := by simpa [Instr.wellFormed] using formed
    simp only [decodeRequest, ReqCode.ofByte_toByte, long, if_true]
  all_goals
    simp only [encodeRequest, Option.some.injEq, Prod.mk.injEq, reduceCtorEq] at encoded
  all_goals
    obtain ⟨rfl, rfl, rfl, rfl⟩ := encoded
    simp only [decodeRequest, ReqCode.ofByte_toByte, bytes16, bytes24, bytes64, word16_bytes, word24_bytes, word64_bytes,
      List.cons_append, List.nil_append]

/-- Settles O53. -/
theorem requestsRoundTrip : Obligations.RequestsRoundTrip := by
  unfold Obligations.RequestsRoundTrip
  exact fun _ _ _ _ _ formed encoded => decodeRequest_encodeRequest formed encoded

/-- The parameters of a well-formed request fit a frame. -/
theorem length_params {i : Instr} {p : Port} {rc : ReqCode} {tag : Byte} {params : List Byte}
    (formed : i.wellFormed = true) (encoded : encodeRequest i = some (p, rc, tag, params)) : params.length ≤ 118 := by
  cases i
  case configure q u group index values =>
    obtain ⟨-, -, -, rfl⟩ : q = p ∧ ReqCode.configure = rc ∧ u = tag ∧ group :: index :: values = params := by
      simpa [encodeRequest] using encoded
    simp only [Instr.wellFormed, Bool.and_eq_true, decide_eq_true_eq] at formed
    simp only [List.length_cons]
    omega
  case commitRecipe q u slot content =>
    obtain ⟨-, -, -, rfl⟩ : q = p ∧ ReqCode.commitRecipe = rc ∧ u = tag ∧ slot :: content = params := by
      simpa [encodeRequest] using encoded
    have long : content.length = 58 := by simpa [Instr.wellFormed, contentBytes] using formed
    simp only [List.length_cons]
    omega
  all_goals
    simp only [encodeRequest, Option.some.injEq, Prod.mk.injEq, reduceCtorEq] at encoded
  all_goals
    obtain ⟨-, -, -, rfl⟩ := encoded
    simp [bytes16, bytes24, bytes64]

/-! ## Assembling a frame (R181) -/

section Assembling

variable {len : Byte} {body : List Byte} (low : 2 ≤ len.toNat) (high : len.toNat ≤ 120)
include low high

/-- A partial frame goes on being received. -/
theorem judgeFrame_of_partial (short : body.length < len.toNat + 2) :
    judgeFrame (syncByte :: len :: body) = .receiving (.assembling (syncByte :: len :: body)) := by
  have inside : inRange 2 120 len.toNat = true := inRange_eq_true_iff.mpr ⟨low, high⟩
  have lacks : (syncByte :: len :: body).length < len.toNat + 4 := by
    simp only [List.length_cons]
    omega
  simp only [judgeFrame, lenOf, inside, lacks, Bool.true_eq_false, if_false, if_true]

/-- A whole frame is complete with a good check, and discarded with another. -/
theorem judgeFrame_of_whole (whole : body.length = len.toNat) (hi lo : Byte) :
    judgeFrame (syncByte :: len :: body ++ [hi, lo]) =
      if [hi, lo] = bytes16 (crcOf (len :: body)) then .complete body else .receiving .hunting := by
  have inside : inRange 2 120 len.toNat = true := inRange_eq_true_iff.mpr ⟨low, high⟩
  have full : ¬ (syncByte :: len :: body ++ [hi, lo]).length < len.toNat + 4 := by
    simp only [List.length_cons, List.length_append, List.length_nil]
    omega
  have covered : ((syncByte :: len :: body ++ [hi, lo]).drop 1).take (len.toNat + 1) = len :: body := by
    simp [← whole]
  have check : ((syncByte :: len :: body ++ [hi, lo]).drop (len.toNat + 2)).take 2 = [hi, lo] := by
    simp [← whole]
  have inner : ((syncByte :: len :: body ++ [hi, lo]).drop 2).take len.toNat = body := by
    simp [← whole]
  have long : lenOf (syncByte :: len :: body ++ [hi, lo]) = some len.toNat := rfl
  simp only [judgeFrame, long, inside, full, checkGood, covered, check, inner, Bool.true_eq_false, if_false, beq_iff_eq]

end Assembling

/-- The LEN byte of a body that fits a frame. -/
theorem toNat_lenByte {body : List Byte} (high : body.length ≤ 120) : (BitVec.ofNat 8 body.length).toNat = body.length := by
  rw [BitVec.toNat_ofNat]
  exact Nat.mod_eq_of_lt (by omega)

/-- The frame of a body that fits one is complete with that body. -/
theorem judgeFrame_frameOf {body : List Byte} (low : 2 ≤ body.length) (high : body.length ≤ 120) :
    judgeFrame (frameOf body) = .complete body := by
  have len := toNat_lenByte high
  have whole := judgeFrame_of_whole (len := BitVec.ofNat 8 body.length) (body := body) (by omega) (by omega) len.symm
    ((crcOf (BitVec.ofNat 8 body.length :: body)).extractLsb' 8 8)
    ((crcOf (BitVec.ofNat 8 body.length :: body)).extractLsb' 0 8)
  exact whole.trans (if_pos rfl)

/-- A byte that leaves the port receiving. -/
theorem exec_frameByteReceived_of_receiving {s : State} {p : Port} {b : Byte} {r : Receive}
    (taken : (s.port p).receive.take b = .receiving r) :
    exec (.frameByteReceived p b) s = .next (s.modPort p fun x => { x with receive := r }) := by
  change execFrameByteReceived p b s = _
  simp only [execFrameByteReceived, taken]

/-- A byte that joins a partial frame. -/
theorem take_of_assembling {s : State} {p : Port} {bs : List Byte} (assembling : (s.port p).receive = .assembling bs)
    (b : Byte) : (s.port p).receive.take b = judgeFrame (bs ++ [b]) := by
  rw [assembling]
  rfl

/-- The byte that completes a request's frame takes the frame's body. -/
theorem exec_frameByteReceived_of_frame {s : State} {p : Port} {code tag last : Byte} {params before : List Byte}
    (fits : params.length ≤ 118) (frame : frameOf (code :: tag :: params) = before ++ [last])
    (assembling : (s.port p).receive = .assembling before) :
    exec (.frameByteReceived p last) s = takeFrame p (code :: tag :: params) (s.discardFrame p) := by
  have complete : (s.port p).receive.take last = .complete (code :: tag :: params) := by
    rw [take_of_assembling assembling, ← frame]
    exact judgeFrame_frameOf (by simp) (by simp only [List.length_cons]; omega)
  change execFrameByteReceived p last s = _
  simp only [execFrameByteReceived, complete]

/-- Settles O8: the receive state and the byte decide what is made of them, by the cases of R181. -/
theorem frameByteAssembles : Obligations.FrameByteAssembles := by
  unfold Obligations.FrameByteAssembles
  refine ⟨fun p b s hunting other => ?stray, fun p s hunting => ?sync, fun p b s begun outside => ?badLen,
    fun p len hi lo body s low high whole assembling bad => ?badCheck, fun p len s begun low high => ?len,
    fun p len b body s low high short assembling => ?byte, fun p code tag params before last s fits bad frame assembling => ?bad,
    fun i p rc tag params before last s formed encoded frame assembling => ?request⟩
  case stray =>
    have taken : (s.port p).receive.take b = .receiving .hunting := by
      rw [hunting]
      exact if_neg other
    rw [exec_frameByteReceived_of_receiving taken, ← hunting]
    exact congrArg Host.Outcome.next (State.modPort_eq_self s p _ rfl)
  case sync =>
    refine exec_frameByteReceived_of_receiving ?_
    rw [hunting]
    rfl
  case badLen =>
    refine exec_frameByteReceived_of_receiving ?_
    rw [take_of_assembling begun]
    exact if_pos (inRange_eq_false_iff.mpr (by omega))
  case badCheck =>
    refine exec_frameByteReceived_of_receiving ?_
    have judged := judgeFrame_of_whole low high whole hi lo
    rw [if_neg bad] at judged
    rw [take_of_assembling assembling, ← judged]
    simp [syncByte]
  case len =>
    refine exec_frameByteReceived_of_receiving ?_
    rw [take_of_assembling begun]
    exact judgeFrame_of_partial low high (body := []) (by simp)
  case byte =>
    refine exec_frameByteReceived_of_receiving ?_
    rw [take_of_assembling assembling]
    exact judgeFrame_of_partial low high (body := body ++ [b]) (by simp; omega)
  case bad =>
    have taken : exec (.frameByteReceived p last) s = .next ((s.discardFrame p).takeBadRequest p code tag) := by
      rw [exec_frameByteReceived_of_frame fits frame assembling]
      simp only [takeFrame, bad]
    refine ⟨?_, fun free => ⟨_, taken, ?_⟩⟩
    · rw [taken, exec_badRequest bad]
      rfl
    · have freed : (s.discardFrame p).free p = true := by
        simpa [State.free, State.discardFrame] using free
      rw [takeBadRequest_free freed]
      simp
  case request =>
    rw [exec_frameByteReceived_of_frame (length_params formed encoded) frame assembling]
    have same := exec_eq_runRequest (s.discardFrame p) (i := i) (by rw [encoded]; rfl)
    simp only [takeFrame, decodeRequest_encodeRequest formed encoded]
    exact same.symm

end Sys2Proof.Machine
end

section
/-! PROOFS. The requests on notices, modes, recipes and stray counters: what each is answered and what it changes (R9 to R14,
R91, R187, R188). -/

namespace Sys2Proof.Machine

/-! ## A request taken at a FREE port -/

section Requests

variable {s u : State} {p : Port} {rc : ReqCode} {act : State → State × Option Response} {r : Response}
  (free : s.free p = true) (may : p.mayIssue rc = true)
include free may

/-- A request that is not conditional, whose effect is `u`. -/
theorem next_answered (plain : rc.conditional = false) {tag : Byte}
    (ha : act (s.accept p rc.toByte tag) = (u.accept p rc.toByte tag, some r)) :
    Host.Outcome.next (s.takeRequest p rc tag act) = (.next (u.answered p rc tag r) : Result) := by
  rw [takeRequest_answered free may ha, clearIfConditional_of_not plain]

/-- A request that is not conditional and has no effect but its answer. -/
theorem next_unchanged (plain : rc.conditional = false) {tag : Byte}
    (ha : act (s.accept p rc.toByte tag) = answer (s.accept p rc.toByte tag) r) :
    Host.Outcome.next (s.takeRequest p rc tag act) = (.next (s.answered p rc tag r) : Result) :=
  next_answered free may plain ha

/-- A conditional request, whose effect besides the link is `u`. -/
theorem next_unlinked (conditional : rc.conditional = true) {tag : Byte}
    (ha : act (s.accept p rc.toByte tag) = (u.accept p rc.toByte tag, some r)) :
    Host.Outcome.next (s.takeRequest p rc tag act) =
      (.next ((u.modPort p fun x => { x with link := none }).answered p rc tag r) : Result) := by
  rw [takeRequest_answered free may ha, clearIfConditional_of conditional]

end Requests

/-- Taking a request passes a change of the port's link. -/
theorem accept_modPort_link (s : State) (p : Port) (c t : Byte) (l : Option Link) :
    (s.accept p c t).modPort p (fun x => { x with link := l }) = (s.modPort p fun x => { x with link := l }).accept p c t := by
  simp only [State.accept, State.modPort_modPort]

/-- Taking a request passes a change of the port's flags. -/
theorem accept_withFlags (s : State) (p : Port) (c t : Byte) (g : Word16 → Word16) :
    (s.accept p c t).modPort p (fun x => x.withFlags (g x.flags)) =
      (s.modPort p fun x => x.withFlags (g x.flags)).accept p c t := by
  simp only [State.accept, State.modPort_modPort, PortState.withFlags]

/-- Taking a request passes a change of the port's mask. -/
theorem accept_withMask (s : State) (p : Port) (c t : Byte) (w : Word16) :
    (s.accept p c t).modPort p (fun x => x.withMask w) = (s.modPort p fun x => x.withMask w).accept p c t := by
  simp only [State.accept, State.modPort_modPort, PortState.withMask]

/-- A terminal port may issue every request that is not the lane ports' alone (R185). -/
theorem mayIssue_of_terminal {p : Port} (terminal : p.isTerminal = true) {rc : ReqCode} (shared : rc.access ≠ .laneOnly) :
    p.mayIssue rc = true := by
  cases access : rc.access with
  | both => simp [Port.mayIssue, access]
  | terminalOnly => simpa [Port.mayIssue, access] using terminal
  | laneOnly => exact absurd access shared

/-! ## Notices (R187) -/

/-- A set within the class names no foreign flag. -/
theorem namesForeignFlag_of_within {p : Port} {w : Word16} (within : w &&& ~~~(classFlags p) = 0#16) :
    State.namesForeignFlag p w = false := by
  simp [State.namesForeignFlag, within]

/-- Settles O10: each request acts on the flags or the mask of the port that it has taken. -/
theorem noticeRequestsActOnOwnPort : Obligations.NoticeRequestsActOnOwnPort := by
  unfold Obligations.NoticeRequestsActOnOwnPort
  intro p tag w s free
  refine ⟨?read, fun within => ⟨?clear, ?set, ?mask⟩⟩
  case read =>
    refine next_unchanged free rfl rfl ?_
    rw [State.noticesRead, accept_flags, accept_mask]
    rfl
  case clear =>
    refine next_answered free rfl rfl (u := s.modPort p fun x => x.withFlags (x.flags &&& ~~~w)) ?_
    simp only [State.noticesCleared, namesForeignFlag_of_within within, Bool.false_eq_true, if_false,
      accept_withFlags s p _ _ (· &&& ~~~w), accept_flags, State.modPort_port_self]
    rfl
  case set =>
    refine next_answered free rfl rfl (u := s.modPort p fun x => x.withFlags (x.flags ||| w)) ?_
    simp only [State.noticesSet, namesForeignFlag_of_within within, Bool.false_eq_true, if_false,
      accept_withFlags s p _ _ (· ||| w), accept_flags, State.modPort_port_self]
    rfl
  case mask =>
    refine next_answered free rfl rfl (u := s.modPort p fun x => x.withMask w) ?_
    simp only [State.maskSet, namesForeignFlag_of_within within, Bool.false_eq_true, if_false, accept_withMask,
      accept_mask, State.modPort_port_self]
    rfl

/-! ## Device mode (R188) -/

/-- An enabled arm with its meters and its lane enabled lacks nothing. -/
theorem armLacks_eq_none {s : State} {a : Fin 8} (ready : (s.arm a).enable = true →
    (s.meter (gasolineOf a)).enable = true ∧ (s.meter (ethanolOf a)).enable = true ∧
      s.settings.laneEnable[(laneOf a).val] = true) : s.armLacks a = none := by
  unfold State.armLacks
  split
  · rfl
  · rename_i enabled
    obtain ⟨gasoline, ethanol, lane⟩ := ready (by simpa using enabled)
    simp [gasoline, ethanol, lane]

/-- Settles O13: each request finds what it looks for, and writes the mode. -/
theorem modeRequestsChangeMode : Obligations.ModeRequestsChangeMode := by
  unfold Obligations.ModeRequestsChangeMode
  intro p tag s free terminal
  refine ⟨fun mode ready => ?begin, fun mode idle => ?back⟩
  case begin =>
    refine next_answered free (mayIssue_of_terminal terminal (by decide)) rfl (u := { s with mode := .operate }) ?_
    have none : allArms.find? (fun a => ((s.accept p ReqCode.beginOperation.toByte tag).armLacks a).isSome) = none := by
      refine List.find?_eq_none.mpr fun a _ => ?_
      rw [show (s.accept p ReqCode.beginOperation.toByte tag).armLacks a = s.armLacks a from rfl, armLacks_eq_none (ready a)]
      simp
    have accepted : (s.accept p ReqCode.beginOperation.toByte tag).mode = .configure := mode
    simp only [State.operationBegun, accepted, none, ne_eq, not_true_eq_false, if_false]
    rfl
  case back =>
    refine next_answered free (mayIssue_of_terminal terminal (by decide)) rfl (u := { s with mode := .configure }) ?_
    have none : (allArms.any fun a =>
        decide (((s.accept p ReqCode.returnToConfigure.toByte tag).arm a).state ≠ .idle)) = false := by
      refine List.any_eq_false.mpr fun a _ => ?_
      have still : ((s.accept p ReqCode.returnToConfigure.toByte tag).arm a).state = .idle := idle a
      simpa using still
    have accepted : (s.accept p ReqCode.returnToConfigure.toByte tag).mode = .operate := mode
    simp only [State.returnedToConfigure, accepted, none, ne_eq, not_true_eq_false, if_false, Bool.false_eq_true]
    rfl

/-! ## Recipes (R9 to R14) -/

/-- The byte of a small number is that number. -/
theorem toNat_ofNat8 {n : Nat} (small : n < 256) : (BitVec.ofNat 8 n).toNat = n := by
  rw [BitVec.toNat_ofNat]
  exact Nat.mod_eq_of_lt small

/-- READ RECIPE of a slot, past the Port Unit. -/
theorem recipeRead_of_slot (s : State) (p : Port) (k : Fin 32) (link : Byte) (l : Bool) (known : yesNo link.toNat = some l) :
    State.recipeRead p (BitVec.ofNat 8 k.val) link s =
      answer (if l then s.setLink p (some (.recipe k.val (s.slot k).revision)) else s)
        (okay (.recipe k.val (s.slot k))) := by
  have number : (BitVec.ofNat 8 k.val).toNat = k.val := toNat_ofNat8 (by omega)
  simp only [State.recipeRead, number, k.isLt, dif_pos, known]
  rfl

/-- Settles O14. -/
theorem readRecipeTakesLink : Obligations.ReadRecipeTakesLink := by
  unfold Obligations.ReadRecipeTakesLink
  intro p tag s free
  refine ⟨fun k => ⟨?linked, ?plain⟩, fun slot link outside => ?outside⟩
  case linked =>
    refine next_answered free rfl rfl (u := s.modPort p fun x => { x with link := some (.recipe k.val (s.slot k).revision) }) ?_
    rw [recipeRead_of_slot _ p k 1#8 true rfl, if_pos rfl, accept_setLink]
    rfl
  case plain =>
    refine next_unchanged free rfl rfl ?_
    rw [recipeRead_of_slot _ p k 0#8 false rfl]
    rfl
  case outside =>
    refine next_unchanged free rfl rfl ?_
    rw [State.recipeRead, dif_neg (by omega)]
    rfl

/-- The link test fails where no slot has the number and the revision that the link names. -/
theorem recipeLinked_eq_none {s : State} {p : Port} {slot : Byte}
    (unlinked : ∀ k : Fin 32, k.val = slot.toNat → (s.port p).link ≠ some (.recipe k.val (s.slot k).revision)) :
    recipeLinked s p slot = none := by
  unfold recipeLinked
  split
  · rename_i inside
    exact if_neg (unlinked ⟨slot.toNat, inside⟩ rfl)
  · rfl

/-- The link test passes where the link names the slot at its revision. -/
theorem recipeLinked_eq_some {s : State} {p : Port} {k : Fin 32}
    (linked : (s.port p).link = some (.recipe k.val (s.slot k).revision)) :
    recipeLinked s p (BitVec.ofNat 8 k.val) = some k := by
  have number : (BitVec.ofNat 8 k.val).toNat = k.val := toNat_ofNat8 (by omega)
  simp only [recipeLinked, number, k.isLt, dif_pos, linked, if_true]

/-- The link test is the same once the request has been taken. -/
theorem recipeLinked_accept (s : State) (p : Port) (c t slot : Byte) :
    recipeLinked (s.accept p c t) p slot = recipeLinked s p slot := by
  simp only [recipeLinked, accept_link]
  rfl

/-- COMMIT RECIPE of a whole content block is taken as a request. -/
theorem exec_commitRecipe (p : Port) (tag slot : Byte) {content : List Byte} (long : content.length = 58) (s : State) :
    exec (.commitRecipe p tag slot content) s =
      .next (s.takeRequest p .commitRecipe tag (State.recipeCommitted p slot content)) := if_pos long

/-- The revision after one. -/
theorem nextRevision_eq (n : Nat) : nextRevision n = if 65535 ≤ n then 1 else n + 1 := rfl

/-- Settles O15: the link test decides, then the content or the slot. -/
theorem linkedEditsWriteSlot : Obligations.LinkedEditsWriteSlot := by
  unfold Obligations.LinkedEditsWriteSlot
  refine ⟨fun p tag slot content s free terminal long unlinked => ⟨?commitLost, ?withdrawLost⟩,
    fun p tag k s free terminal linked => ⟨fun content long good => ?commit, fun ready => ?withdraw, fun empty => ?noSuch⟩⟩
  case commitLost =>
    rw [exec_commitRecipe p tag slot long]
    refine next_unlinked free (mayIssue_of_terminal terminal (by decide)) rfl ?_
    simp only [State.recipeCommitted, recipeLinked_accept, recipeLinked_eq_none unlinked]
    rfl
  case withdrawLost =>
    refine next_unlinked free (mayIssue_of_terminal terminal (by decide)) rfl (u := s) ?_
    simp only [State.recipeWithdrawn, recipeLinked_accept, recipeLinked_eq_none unlinked]
    rfl
  case commit =>
    rw [exec_commitRecipe p tag _ long, ← nextRevision_eq]
    refine next_unlinked free (mayIssue_of_terminal terminal (by decide)) rfl (u := s.setSlot k
      { revision := nextRevision (s.slot k).revision, content := some (parseContent content).keep }) ?_
    simp only [State.recipeCommitted, recipeLinked_accept, recipeLinked_eq_some linked, good]
    rfl
  case withdraw =>
    obtain ⟨r, present⟩ := Option.ne_none_iff_exists'.mp ready
    rw [← nextRevision_eq]
    refine next_unlinked free (mayIssue_of_terminal terminal (by decide)) rfl
      (u := s.setSlot k { revision := nextRevision (s.slot k).revision, content := none }) ?_
    have held : ((s.accept p ReqCode.withdrawRecipe.toByte tag).slot k).content = some r := present
    simp only [State.recipeWithdrawn, recipeLinked_accept, recipeLinked_eq_some linked, held]
    rfl
  case noSuch =>
    refine next_unlinked free (mayIssue_of_terminal terminal (by decide)) rfl (u := s) ?_
    have held : ((s.accept p ReqCode.withdrawRecipe.toByte tag).slot k).content = none := empty
    simp only [State.recipeWithdrawn, recipeLinked_accept, recipeLinked_eq_some linked, held]
    rfl

/-! ## Stray counters (R91) -/

/-- Settles O32: the class, the meter's number, then the counter. -/
theorem clearStrayReturnsCount : Obligations.ClearStrayReturnsCount := by
  unfold Obligations.ClearStrayReturnsCount
  intro p tag meter s free
  refine ⟨fun lanePort => ?lane, fun terminal above => ?above, fun terminal m number => ?clear⟩
  case lane =>
    change Host.Outcome.next (s.takeRequest p .clearStray tag _) = _
    rw [takeRequest_forbidden free (rc := .clearStray) (by simpa [Port.mayIssue, ReqCode.access] using lanePort)]
    rfl
  case above =>
    refine next_unchanged free (mayIssue_of_terminal terminal (by decide)) rfl ?_
    rw [State.strayCleared, dif_neg (by omega)]
    rfl
  case clear =>
    refine next_answered free (mayIssue_of_terminal terminal (by decide)) rfl
      (u := s.modMeter m fun x => { x with stray := 0, silent := false }) ?_
    have inside : meter.toNat < 16 := by omega
    have same : (⟨meter.toNat, inside⟩ : Fin 16) = m := Fin.ext number.symm
    rw [State.strayCleared, dif_pos inside, same, number]
    rfl

end Sys2Proof.Machine
end

section
/-! PROOFS. CONFIGURE: what each of its eight groups reads from its values and sets, and that a refusal changes nothing (R38,
R88, R93, R95, R97, R98, R109, R110, R117, R146, R189, R193). -/

namespace Sys2Proof.Machine

/-! ## Values read from bytes (R192) -/

/-- An enable as a byte. -/
def enableByte (e : Bool) : Byte := if e then 1#8 else 0#8

/-- An enable is read back from its byte. -/
theorem yesNo_enableByte (e : Bool) : yesNo (enableByte e).toNat = some e := by cases e <;> rfl

/-- A field of one byte. -/
theorem beNat_byte (b : Byte) : beNat [b] = b.toNat := Nat.zero_add _

/-- The enable in front of a group's values is read back. -/
theorem yesNo_fieldAt_enable (e : Bool) (rest : List Byte) : yesNo (fieldAt (enableByte e :: rest) 0 1) = some e := by
  rw [show fieldAt (enableByte e :: rest) 0 1 = beNat [enableByte e] from rfl, beNat_byte, yesNo_enableByte]

/-- A field of two bytes is read back from them. -/
theorem beNat_bytes16 (w : Word16) : beNat (bytes16 w) = w.toNat := by
  have high : (w.extractLsb' 8 8).toNat = w.toNat / 256 := by
    rw [BitVec.extractLsb'_toNat, Nat.shiftRight_eq_div_pow]
    omega
  have low : (w.extractLsb' 0 8).toNat = w.toNat % 256 := by
    rw [BitVec.extractLsb'_toNat, Nat.shiftRight_zero]
  have value : beNat (bytes16 w) = (0 * 256 + (w.extractLsb' 8 8).toNat) * 256 + (w.extractLsb' 0 8).toNat := rfl
  rw [value, high, low]
  omega

/-- A field of two bytes at the head of a block. -/
theorem fieldAt_bytes16 (w : Word16) (rest : List Byte) : fieldAt (bytes16 w ++ rest) 0 2 = w.toNat := beNat_bytes16 w

/-- A field behind other bytes. -/
theorem fieldAt_append (before rest : List Byte) (o w : Nat) :
    fieldAt (before ++ rest) (before.length + o) w = fieldAt rest o w := by
  rw [fieldAt, fieldAt, List.drop_append, List.drop_eq_nil_of_le (Nat.le_add_right _ _), List.nil_append,
    Nat.add_sub_cancel_left]

/-- The fields of a table. -/
theorem fieldAt_flatMap_bytes16 : ∀ (ws : List Word16) (i : Nat) (h : i < ws.length),
    fieldAt (ws.flatMap bytes16) (2 * i) 2 = ws[i].toNat
  | w :: rest, 0, _ => fieldAt_bytes16 w (rest.flatMap bytes16)
  | w :: rest, i + 1, h => by
    have behind := fieldAt_append (bytes16 w) (rest.flatMap bytes16) (2 * i) 2
    rw [show (bytes16 w).length + 2 * i = 2 * (i + 1) from by simp only [bytes16, List.length_cons, List.length_nil]; omega]
      at behind
    rw [List.flatMap_cons, behind]
    exact fieldAt_flatMap_bytes16 rest i (Nat.lt_of_succ_lt_succ h)

/-- The bytes of a table. -/
theorem length_flatMap_bytes16 (ws : List Word16) : (ws.flatMap bytes16).length = 2 * ws.length := by
  induction ws with
  | nil => rfl
  | cons w rest ih =>
    rw [List.flatMap_cons, List.length_append, ih, List.length_cons]
    simp only [bytes16, List.length_cons, List.length_nil]
    omega

/-! ## A CONFIGURE that is taken -/

/-- A CONFIGURE of its group's length is taken as a request. -/
theorem exec_configure {group : Byte} {values : List Byte} (long : configureLengthOk group values = true) (p : Port)
    (tag index : Byte) (s : State) :
    exec (.configure p tag group index values) s =
      .next (s.takeRequest p .configure tag (State.configured group index values)) := if_pos long

/-- In CONFIGURE mode the group decides. -/
theorem configured_of_mode {s : State} (mode : s.mode = .configure) (group index : Byte) (values : List Byte) :
    State.configured group index values s =
      match group.toNat with
      | 0 => s.configureArm group index values
      | 1 => s.configureLane group index values
      | 2 => s.configureMeter group index values
      | 3 => s.configureProbe group index values
      | 4 => s.configureTable group index values
      | 5 => s.configureStation group index values
      | 6 => s.configureTimers group index values
      | 7 => s.configureHeader group index values
      | _ => answer s (.badField 1) := if_neg (not_not_intro mode)

section Taken

variable {s : State} {p : Port} (free : s.free p = true) (terminal : p.isTerminal = true)
include free terminal

/-- A CONFIGURE that is taken and sets `u`. -/
theorem configure_sets {u : State} {group index : Byte} {values : List Byte} {tag : Byte} {g i : Nat}
    (long : configureLengthOk group values = true)
    (sets : State.configured group index values (s.accept p ReqCode.configure.toByte tag) =
      (u.accept p ReqCode.configure.toByte tag, some (okay (.configured g i)))) :
    exec (.configure p tag group index values) s = .next (u.answered p .configure tag (okay (.configured g i))) := by
  rw [exec_configure long]
  exact next_answered free (mayIssue_of_terminal terminal (by decide)) rfl sets

end Taken

/-! ## The groups -/

section Groups

variable {s : State} (mode : s.mode = .configure)
include mode

/-- Group 0 sets an arm's enable. -/
theorem configured_arm (a : Fin 8) (e : Bool) :
    State.configured 0#8 (armByte a) [enableByte e] s =
      (s.modArm a fun x => { x with enable := e }, some (okay (.configured 0 a.val))) := by
  have number : (armByte a).toNat = a.val := toNat_ofNat8 (by omega)
  rw [configured_of_mode mode]
  change s.configureArm 0#8 (armByte a) [enableByte e] = _
  simp only [State.configureArm, State.configuredTo, number, a.isLt, dif_pos, yesNo_fieldAt_enable]
  rfl

/-- Group 1 sets a lane's enable. -/
theorem configured_lane (l : Fin 4) (e : Bool) :
    State.configured 1#8 (BitVec.ofNat 8 l.val) [enableByte e] s =
      ({ s with settings := { s.settings with laneEnable := s.settings.laneEnable.set l.val e } },
        some (okay (.configured 1 l.val))) := by
  have number : (BitVec.ofNat 8 l.val).toNat = l.val := toNat_ofNat8 (by omega)
  rw [configured_of_mode mode]
  change s.configureLane 1#8 (BitVec.ofNat 8 l.val) [enableByte e] = _
  simp only [State.configureLane, State.configuredTo, number, l.isLt, dif_pos, yesNo_fieldAt_enable]
  rfl

/-- Group 2 sets a meter's enable and K-factor. -/
theorem configured_meter (m : Fin 16) (e : Bool) {k : Byte} (low : 1 ≤ k.toNat) (high : k.toNat ≤ 250) :
    State.configured 2#8 (BitVec.ofNat 8 m.val) [enableByte e, k] s =
      (s.modMeter m fun x =>
        { x with
          enable := e
          kFactor := k.toNat
          divider := if x.enable = e ∧ x.kFactor = k.toNat then x.divider else k.toNat },
        some (okay (.configured 2 m.val))) := by
  have number : (BitVec.ofNat 8 m.val).toNat = m.val := toNat_ofNat8 (by omega)
  have factor : fieldAt [enableByte e, k] 1 1 = k.toNat := beNat_byte k
  have meter : (fun x => State.meterConfigured x e k.toNat) = fun x : Meter =>
      { x with
        enable := e
        kFactor := k.toNat
        divider := if x.enable = e ∧ x.kFactor = k.toNat then x.divider else k.toNat } := by
    funext x
    unfold State.meterConfigured
    by_cases same : x.enable = e ∧ x.kFactor = k.toNat
    · rw [if_pos same, if_pos same, ← same.1, ← same.2]
    · rw [if_neg same, if_neg same]
  rw [configured_of_mode mode]
  change s.configureMeter 2#8 (BitVec.ofNat 8 m.val) [enableByte e, k] = _
  simp only [State.configureMeter, State.configuredTo, number, m.isLt, dif_pos, yesNo_fieldAt_enable, factor,
    inRange_eq_true_iff.mpr ⟨low, high⟩, if_true, meter]
  rfl

/-- Group 3 enables or disables a channel. -/
theorem configured_probe (c : Fin 16) (e : Bool) :
    State.configured 3#8 (BitVec.ofNat 8 c.val) [enableByte e] s =
      (if e then s.enableProbe c else s.disableProbe c, some (okay (.configured 3 c.val))) := by
  have number : (BitVec.ofNat 8 c.val).toNat = c.val := toNat_ofNat8 (by omega)
  rw [configured_of_mode mode]
  change s.configureProbe 3#8 (BitVec.ofNat 8 c.val) [enableByte e] = _
  simp only [State.configureProbe, State.configuredTo, number, c.isLt, dif_pos, yesNo_fieldAt_enable]
  cases e <;> rfl

/-- Group 6 sets the device-wide items. -/
theorem configured_timers {noFlow settle hold : Byte} {wait overrun stray : Word16} (noFlowIn : 1 ≤ noFlow.toNat ∧ noFlow.toNat ≤ 60)
    (settleIn : 5 ≤ settle.toNat ∧ settle.toNat ≤ 100) (holdIn : 1 ≤ hold.toNat ∧ hold.toNat ≤ 120)
    (waitIn : wait.toNat ≤ 600) (overrunIn : 10 ≤ overrun.toNat ∧ overrun.toNat ≤ 500)
    (strayIn : 1 ≤ stray.toNat ∧ stray.toNat ≤ 1000) :
    State.configured 6#8 0#8 ([noFlow, settle, hold] ++ bytes16 wait ++ bytes16 overrun ++ bytes16 stray) s =
      ({ s with
          settings :=
            { s.settings with
              noFlowSeconds := noFlow.toNat
              settleTenths := settle.toNat
              holdMinutes := hold.toNat
              shareWaitSeconds := wait.toNat
              overrunLimit := overrun.toNat
              strayThreshold := stray.toNat }
          meters := s.meters.map fun x =>
            { x with
              silent :=
                x.silent || decide (stray.toNat < s.settings.strayThreshold ∧ stray.toNat ≤ x.stray) } },
        some (okay (.configured 6 0))) := by
  have items : ∀ vs, vs = [noFlow, settle, hold] ++ bytes16 wait ++ bytes16 overrun ++ bytes16 stray →
      fieldAt vs 0 1 = noFlow.toNat ∧ fieldAt vs 1 1 = settle.toNat ∧ fieldAt vs 2 1 = hold.toNat ∧
        fieldAt vs 3 2 = wait.toNat ∧ fieldAt vs 5 2 = overrun.toNat ∧ fieldAt vs 7 2 = stray.toNat := by
    rintro vs rfl
    exact ⟨beNat_byte noFlow, beNat_byte settle, beNat_byte hold, beNat_bytes16 wait, beNat_bytes16 overrun,
      beNat_bytes16 stray⟩
  obtain ⟨noFlowAt, settleAt, holdAt, waitAt, overrunAt, strayAt⟩ := items _ rfl
  rw [configured_of_mode mode]
  change s.configureTimers 6#8 0#8 _ = _
  simp only [State.configureTimers, noFlowAt, settleAt, holdAt, waitAt, overrunAt, strayAt, inRange_eq_true_iff.mpr noFlowIn,
    inRange_eq_true_iff.mpr settleIn, inRange_eq_true_iff.mpr holdIn, inRange_eq_true_iff.mpr ⟨wait.toNat.zero_le, waitIn⟩,
    inRange_eq_true_iff.mpr overrunIn, inRange_eq_true_iff.mpr strayIn, Bool.true_eq_false, if_false]
  rfl

/-- Group 7 sets the header capacity. -/
theorem configured_header {capacity : Byte} (inside : capacity.toNat ≤ 16) :
    State.configured 7#8 0#8 [capacity] s =
      (s.modHeader fun h => { h with capacity := capacity.toNat }, some (okay (.configured 7 0))) := by
  have value : fieldAt [capacity] 0 1 = capacity.toNat := beNat_byte capacity
  rw [configured_of_mode mode]
  change s.configureHeader 7#8 0#8 _ = _
  simp only [State.configureHeader, value, inRange_eq_true_iff.mpr ⟨capacity.toNat.zero_le, inside⟩, Bool.true_eq_false,
    if_false]
  rfl

/-! ### Group 4, the correction tables (R98) -/

omit mode in
/-- A factor of a table, as its bytes give it. -/
theorem fieldAt_factors (factors : Vector Word16 17) (i : Nat) (h : i < 17) :
    fieldAt (factors.toList.flatMap bytes16) (2 * i) 2 = factors[i].toNat := by
  have inside : i < factors.toList.length := by simpa using h
  rw [fieldAt_flatMap_bytes16 _ i inside, Vector.getElem_toList]

omit mode in
/-- The factors of a table are read back from its bytes. -/
theorem factorsOf_eq (factors : Vector Word16 17) :
    State.factorsOf (factors.toList.flatMap bytes16) = factors.map BitVec.toNat := by
  refine Vector.ext fun i h => ?_
  rw [Vector.getElem_map, ← fieldAt_factors factors i h]
  simp [State.factorsOf]

omit mode in
/-- The bytes of a table are those of its group. -/
theorem configureLengthOk_table (factors : Vector Word16 17) :
    configureLengthOk 4#8 (factors.toList.flatMap bytes16) = true := by
  change ((factors.toList.flatMap bytes16).length == 34) = true
  rw [length_flatMap_bytes16, Vector.length_toList]
  rfl

omit mode in
/-- Factors within the bounds have no bad band. -/
theorem badBand_eq_none {factors : Vector Word16 17}
    (bounded : ∀ f ∈ factors.toList, 9000 ≤ f.toNat ∧ f.toNat ≤ 11000) :
    State.badBand (factors.toList.flatMap bytes16) = none := by
  refine List.find?_eq_none.mpr fun i hi => ?_
  have h := List.mem_range.mp hi
  rw [fieldAt_factors factors i h, inRange_eq_true_iff.mpr (bounded _ (by simp))]
  decide

/-- Group 4 sets the gasoline table. -/
theorem configured_gasolineTable {factors : Vector Word16 17}
    (bounded : ∀ f ∈ factors.toList, 9000 ≤ f.toNat ∧ f.toNat ≤ 11000) :
    State.configured 4#8 0#8 (factors.toList.flatMap bytes16) s =
      ({ s with settings := { s.settings with gasolineTable := factors.map BitVec.toNat } },
        some (okay (.configured 4 0))) := by
  rw [configured_of_mode mode]
  change s.configureTable 4#8 0#8 _ = _
  have index : (0#8 : Byte).toNat = 0 := rfl
  simp only [State.configureTable, index, badBand_eq_none bounded, factorsOf_eq]
  rfl

/-- Group 4 sets the ethanol table. -/
theorem configured_ethanolTable {factors : Vector Word16 17}
    (bounded : ∀ f ∈ factors.toList, 9000 ≤ f.toNat ∧ f.toNat ≤ 11000) :
    State.configured 4#8 1#8 (factors.toList.flatMap bytes16) s =
      ({ s with settings := { s.settings with ethanolTable := factors.map BitVec.toNat } },
        some (okay (.configured 4 1))) := by
  rw [configured_of_mode mode]
  change s.configureTable 4#8 1#8 _ = _
  have index : (1#8 : Byte).toNat = 1 := rfl
  simp only [State.configureTable, index, badBand_eq_none bounded, factorsOf_eq]
  rfl

/-! ### Group 5, the stations (R117) -/

/-- Group 5 enables or disables a station and sets its reach and intervals. -/
theorem configured_station (st : Fin 4) (e : Bool) {reach : Byte} {change shot : Word16}
    (changeIn : 50 ≤ change.toNat ∧ change.toNat ≤ 5000) (shotIn : 200 ≤ shot.toNat ∧ shot.toNat ≤ 5000) :
    State.configured 5#8 (BitVec.ofNat 8 st.val) ([enableByte e, reach] ++ bytes16 change ++ bytes16 shot) s =
      ((if e then s.enableStation st else s.disableStation st).modStation st fun x =>
        { x with reach := reach, changeoverMs := change.toNat, shotTimeoutMs := shot.toNat },
        some (okay (.configured 5 st.val))) := by
  have number : (BitVec.ofNat 8 st.val).toNat = st.val := toNat_ofNat8 (by omega)
  have items : ∀ vs, vs = [enableByte e, reach] ++ bytes16 change ++ bytes16 shot →
      yesNo (fieldAt vs 0 1) = some e ∧ BitVec.ofNat 8 (fieldAt vs 1 1) = reach ∧ fieldAt vs 2 2 = change.toNat ∧
        fieldAt vs 4 2 = shot.toNat := by
    rintro vs rfl
    refine ⟨yesNo_fieldAt_enable e _, ?_, beNat_bytes16 change, beNat_bytes16 shot⟩
    change BitVec.ofNat 8 (beNat [reach]) = reach
    rw [beNat_byte]
    exact BitVec.eq_of_toNat_eq (toNat_ofNat8 reach.isLt)
  obtain ⟨enableAt, reachAt, changeAt, shotAt⟩ := items _ rfl
  rw [configured_of_mode mode]
  change s.configureStation 5#8 (BitVec.ofNat 8 st.val) _ = _
  simp only [State.configureStation, State.configuredTo, number, st.isLt, dif_pos, enableAt, reachAt, changeAt, shotAt,
    inRange_eq_true_iff.mpr changeIn, inRange_eq_true_iff.mpr shotIn, Bool.true_eq_false, if_false]
  rfl

end Groups

/-! ## Probe channels (R95, R97) -/

namespace State

/-- Every channel stands at the place of its number. -/
theorem allChannels_getElem (i : Nat) (h : i < allChannels.length) : allChannels[i] = ⟨i, h⟩ :=
  (by decide : ∀ k : Fin 16, allChannels[k.val] = k) ⟨i, h⟩

/-- The first channel that passes a test passes it, and no lower one does. -/
theorem find?_allChannels {f : Fin 16 → Bool} {d : Fin 16} (found : allChannels.find? f = some d) :
    f d = true ∧ ∀ k, k < d → f k = false := by
  obtain ⟨passes, i, h, at_, before⟩ := List.find?_eq_some_iff_getElem.mp found
  rw [allChannels_getElem] at at_
  subst at_
  refine ⟨passes, fun k below => ?_⟩
  have lower := before k.val below
  rw [allChannels_getElem] at lower
  simpa using lower

/-- A test that some channel passes finds one. -/
theorem exists_find?_allChannels {f : Fin 16 → Bool} {c : Fin 16} (passes : f c = true) :
    ∃ d, allChannels.find? f = some d := by
  have listed : ∀ k : Fin 16, k ∈ allChannels := by decide
  exact Option.isSome_iff_exists.mp (List.find?_isSome.mpr ⟨c, listed c, passes⟩)

/-- A channel that is enabled takes no notice of an enable. -/
theorem enableProbe_of_enabled {s : State} {c : Fin 16} (enabled : (s.probe c).enable = true) : s.enableProbe c = s :=
  if_pos enabled

/-- A channel that is disabled takes no notice of a disable. -/
theorem disableProbe_of_disabled {s : State} {c : Fin 16} (disabled : (s.probe c).enable = false) :
    s.disableProbe c = s := if_neg (by simp [probeEnabled, disabled])

/-- A channel that is enabled becomes disabled, and its conversion is marked. -/
theorem disableProbe_of_enabled {s : State} {c : Fin 16} (enabled : (s.probe c).enable = true) :
    s.disableProbe c =
      { s.modProbe c fun _ => { enable := false, reading := 0, condition := .off } with
        scan := s.scan.map fun v => if v.channel = c then { v with discard := true } else v } := if_pos enabled

/-- A channel that is disabled becomes enabled; an idle scan begins with the lowest enabled one. -/
theorem enableProbe_of_disabled {s : State} {c : Fin 16} (disabled : (s.probe c).enable = false) :
    ∃ scan, s.enableProbe c =
        { s.modProbe c fun _ => { enable := true, reading := 0, condition := .off } with scan := scan } ∧
      (s.scan ≠ none → scan = s.scan) ∧
      (s.scan = none →
        ∃ d, scan = some { channel := d, discard := false } ∧ (d = c ∨ (s.probe d).enable = true) ∧ d ≤ c ∧
          ∀ k, k < d → (s.probe k).enable = false) := by
  have off : s.probeEnabled c = false := disabled
  have probe : ∀ k, ((s.modProbe c fun _ => { enable := true, reading := 0, condition := .off }).probe k).enable =
      if k = c then true else (s.probe k).enable := fun k => by
    by_cases e : k = c
    · subst e
      simp
    · simp [e]
  cases idle : s.scan with
  | some v =>
    refine ⟨some v, ?_, fun _ => rfl, fun none => absurd none (by simp)⟩
    simp only [enableProbe, off, Bool.false_eq_true, if_false, modProbe, idle]
  | none =>
    obtain ⟨d, found⟩ := exists_find?_allChannels
      (f := (s.modProbe c fun _ => { enable := true, reading := 0, condition := .off }).probeEnabled) (c := c)
      ((probe c).trans (if_pos rfl))
    obtain ⟨enabled, first⟩ := find?_allChannels found
    refine ⟨some { channel := d, discard := false }, ?_, fun busy => absurd rfl busy, fun _ => ⟨d, rfl, ?_, ?_, fun k below => ?_⟩⟩
    · have lowest : (s.modProbe c fun _ => { enable := true, reading := 0, condition := .off }).lowestConversion =
          some { channel := d, discard := false } := by
        rw [lowestConversion, found, Option.map_some]
      have scanning : (s.modProbe c fun _ => { enable := true, reading := 0, condition := .off }).scan = none := idle
      simp only [enableProbe, off, Bool.false_eq_true, if_false, scanning, lowest]
    · have either := (probe d).symm.trans enabled
      by_cases e : d = c
      · exact .inl e
      · exact .inr (by rwa [if_neg e] at either)
    · by_contra above
      have missed := (probe c).symm.trans (first c (by omega))
      rw [if_pos rfl] at missed
      exact absurd missed (by decide)
    · have missed := (probe k).symm.trans (first k below)
      by_cases e : k = c
      · rw [if_pos e] at missed
        exact absurd missed (by decide)
      · rwa [if_neg e] at missed

/-! ## Stations (R117) -/

/-- Two updates of one station are one. -/
theorem modStation_modStation (s : State) (st : Fin 4) (f g : Station → Station) :
    (s.modStation st f).modStation st g = s.modStation st fun x => g (f x) := by
  simp [modStation]

/-- An update of a station is what it makes of that station. -/
theorem modStation_congr {s : State} {st : Fin 4} {f g : Station → Station} (same : f (s.station st) = g (s.station st)) :
    s.modStation st f = s.modStation st g := by
  have given : f s.stations[st.val] = g s.stations[st.val] := same
  rw [modStation, modStation, given]

/-- An update that leaves the station leaves the state. -/
theorem modStation_eq_self {s : State} {st : Fin 4} {f : Station → Station} (same : f (s.station st) = s.station st) :
    s.modStation st f = s := by
  have given : f s.stations[st.val] = s.stations[st.val] := same
  simp [modStation, given]

/-- A station is switched off: its request, queue and shot go, and a transaction of its own is marked. -/
def stationOff (s : State) (st : Fin 4) : State :=
  ({ s with
      bus :=
        { s.bus with
          txn := s.bus.txn.map fun x => if x.station = st then { x with shot := none, discarded := true } else x } }
    : State).modStation st fun x =>
      { x with
        state := .off, request := false, queue := [], shot := none, changeover := .stopped, poll := .stopped,
        shotTimer := .stopped }

/-- A station that has been switched off. -/
theorem stationOff_station_self (s : State) (st : Fin 4) :
    (s.stationOff st).station st =
      { s.station st with
        state := .off, request := false, queue := [], shot := none, changeover := .stopped, poll := .stopped,
        shotTimer := .stopped } := modStation_station_self _ _ _

/-- A disable switches the station off, and answers a pending restore unless its CLEAR is on the bus. -/
theorem disableStation_of_on {s : State} {st : Fin 4} (on : (s.station st).state ≠ .off) :
    s.disableStation st = if s.clearOnBus st then s.stationOff st else (s.stationOff st).answerRestore st none := by
  have off : (((s.dropShot st).modStation st fun x =>
      { x with state := .off, request := false, queue := [], changeover := .stopped, poll := .stopped,
               shotTimer := .stopped }).modTxn fun t => if t.station = st then { t with discarded := true } else t) =
      s.stationOff st := by
    have marked : ((fun t : Txn => if t.station = st then { t with discarded := true } else t) ∘
        fun t : Txn => if t.station = st then { t with shot := none } else t) =
        fun x : Txn => if x.station = st then { x with shot := none, discarded := true } else x := by
      funext x
      by_cases e : x.station = st <;> simp [e]
    simp only [dropShot, modTxn, modStation, stationOff, Option.map_map, Vector.getElem_set_self, Vector.set_set, marked]
  rw [disableStation, if_neg on, off]

end State

/-- What an OFF station's enable makes of it. -/
theorem State.enableStation_of_off {s : State} {st : Fin 4} (off : (s.station st).state = .off) :
    s.enableStation st =
      s.modStation st fun x => { x with state := .idle, manifold := none, failures := 0, lowLevel := false } :=
  modStation_congr (if_pos off)

/-- A station that is on takes no notice of an enable. -/
theorem State.enableStation_of_on {s : State} {st : Fin 4} (on : (s.station st).state ≠ .off) : s.enableStation st = s :=
  modStation_eq_self (if_neg on)

/-- A station that is OFF takes no notice of a disable. -/
theorem State.disableStation_of_off {s : State} {st : Fin 4} (off : (s.station st).state = .off) :
    s.disableStation st = s := if_pos off

/-- The clear on the bus is that of the transaction in progress. -/
theorem State.clearOnBus_iff {s : State} {st : Fin 4} :
    s.clearOnBus st = true ↔ ∃ x, s.bus.txn = some x ∧ x.station = st ∧ x.kind = .clear := by
  unfold State.clearOnBus
  cases s.bus.txn with
  | none => simp
  | some x => simp

/-- A disable of a station with no restore to answer. -/
theorem State.disableStation_of_answered {s : State} {st : Fin 4} (on : (s.station st).state ≠ .off)
    (answered : (s.station st).restore = none ∨ ∃ x, s.bus.txn = some x ∧ x.station = st ∧ x.kind = .clear) :
    s.disableStation st = s.stationOff st := by
  rw [disableStation_of_on on]
  by_cases clear : s.clearOnBus st = true
  · rw [if_pos clear]
  · have none : ((s.stationOff st).station st).restore = none := by
      rw [stationOff_station_self]
      exact answered.resolve_right (mt clearOnBus_iff.mpr clear)
    rw [if_neg clear, answerRestore, none]

/-- A request that is taken, as what its checks and effect make of the accepting state. -/
theorem takeRequest_acts {s v : State} {p : Port} (free : s.free p = true) {rc : ReqCode} (may : p.mayIssue rc = true)
    {tag : Byte} {act : State → State × Option Response} {r : Response} (ha : act (s.accept p rc.toByte tag) = (v, some r)) :
    s.takeRequest p rc tag act = (v.clearIfConditional p rc).respond p r := by
  rw [State.takeRequest, if_neg (by simp [isBusy_of_free free])]
  simp only [may, if_true, ha]

/-- A request taken at a port leaves the other ports. -/
theorem accept_port_ne (s : State) {p q : Port} (c t : Byte) (ne : q ≠ p) : (s.accept p c t).port q = s.port q :=
  State.modPort_port_ne _ _ _ _ ne

/-- The disable of a station whose restore waits for a CLEAR that is not on the bus: the restore is answered at once. -/
theorem configure_answersRestore {p q : Port} {s : State} {st : Fin 4} {tag code qtag reach : Byte} {change shot : Word16}
    (free : s.free p = true) (terminal : p.isTerminal = true) (mode : s.mode = .configure)
    (changeIn : 50 ≤ change.toNat ∧ change.toNat ≤ 5000) (shotIn : 200 ≤ shot.toNat ∧ shot.toNat ≤ 5000)
    (on : (s.station st).state ≠ .off) (pending : (s.station st).restore = some q)
    (waits : (s.port q).answer = .busy code qtag none)
    (notClear : ∀ x, s.bus.txn = some x → x.station = st → x.kind ≠ .clear) :
    ∃ t, exec (.configure p tag 5#8 (BitVec.ofNat 8 st.val) ([enableByte false, reach] ++ bytes16 change ++ bytes16 shot)) s =
        .next t ∧ (t.station st).state = .off ∧ (t.station st).restore = none ∧ (t.station st).queue = [] ∧
      (t.port q).answer = .busy code qtag (some (okay (.restored .off none))) ∧
      t.response? p = some (okay (.configured 5 st.val)) := by
  have apart : q ≠ p := by
    rintro rfl
    have busy := isBusy_of_free free
    rw [waits] at busy
    exact absurd busy (by simp [Answer.isBusy])
  have clear : s.clearOnBus st = false := by
    refine Bool.eq_false_iff.mpr fun on => ?_
    obtain ⟨x, txn, mine, kind⟩ := State.clearOnBus_iff.mp on
    exact notClear x txn mine kind
  let u := s.accept p ReqCode.configure.toByte tag
  have off : u.disableStation st = ((u.stationOff st).modStation st fun x => { x with restore := none }).respond q
      (okay (.restored .off none)) := by
    have restore : ((u.stationOff st).station st).restore = some q := by
      rw [State.stationOff_station_self]
      exact pending
    have state : ((u.stationOff st).station st).state = .off := by rw [State.stationOff_station_self]
    rw [State.disableStation_of_on (s := u) on, show u.clearOnBus st = false from clear, State.answerRestore, restore]
    simp only [state, Bool.false_eq_true, if_false]
    rfl
  have acted := takeRequest_acts (rc := .configure) free (mayIssue_of_terminal terminal (by decide))
    (configured_station (s := u) mode st false (reach := reach) changeIn shotIn)
  rw [clearIfConditional_of_not rfl] at acted
  refine ⟨_, (exec_configure rfl _ _ _ _).trans (congrArg _ acted), ?_, ?_, ?_, ?_, ?_⟩
  all_goals simp only [Bool.false_eq_true, if_false, off]
  · simp [State.respond, State.stationOff_station_self]
  · simp [State.respond]
  · simp [State.respond, State.stationOff_station_self]
  · have port : (u.stationOff st).port q = s.port q := accept_port_ne s _ tag apart
    simp [State.respond, apart, port, waits, Answer.form]
  · have port : ((u.stationOff st).port p).answer = .busy ReqCode.configure.toByte tag none :=
      congrArg PortState.answer (accept_port_self s p _ tag)
    simp [State.response?, State.respond, apart.symm, port, Answer.form]

/-- Settles O11: each group reads its values and sets its items in the state that has taken the request. -/
theorem configureSetsItsGroup : Obligations.ConfigureSetsItsGroup := by
  unfold Obligations.ConfigureSetsItsGroup
  intro p tag e s free terminal mode
  refine ⟨fun a => ?arm, fun l => ?lane, fun m k low high => ?meter, fun c => ⟨fun same => ?probeSame, ?probeOn, ?probeOff⟩,
    fun factors bounded => ⟨?gasoline, ?ethanol⟩, ?station, ?timers, fun capacity inside => ?header⟩
  case arm => exact configure_sets free terminal rfl (configured_arm (s := s.accept p _ tag) mode a e)
  case lane => exact configure_sets free terminal rfl (configured_lane (s := s.accept p _ tag) mode l e)
  case meter => exact configure_sets free terminal rfl (configured_meter (s := s.accept p _ tag) mode m e low high)
  case probeSame =>
    refine configure_sets free terminal rfl ((configured_probe (s := s.accept p _ tag) mode c e).trans ?_)
    cases e with
    | true => rw [if_pos rfl, State.enableProbe_of_enabled (s := s.accept p _ tag) same]
    | false => rw [if_neg (by decide), State.disableProbe_of_disabled (s := s.accept p _ tag) same]
  case probeOn =>
    rintro disabled rfl
    obtain ⟨scan, enabled, busy, idle⟩ :=
      State.enableProbe_of_disabled (s := s.accept p ReqCode.configure.toByte tag) (c := c) disabled
    refine ⟨scan, configure_sets free terminal rfl ((configured_probe (s := s.accept p _ tag) mode c true).trans ?_), busy,
      idle⟩
    rw [if_pos rfl, enabled]
    rfl
  case probeOff =>
    rintro enabled rfl
    refine configure_sets free terminal rfl ((configured_probe (s := s.accept p _ tag) mode c false).trans ?_)
    rw [if_neg (by decide), State.disableProbe_of_enabled (s := s.accept p _ tag) enabled]
    rfl
  case gasoline =>
    exact configure_sets free terminal (configureLengthOk_table factors)
      (configured_gasolineTable (s := s.accept p _ tag) mode bounded)
  case ethanol =>
    exact configure_sets free terminal (configureLengthOk_table factors)
      (configured_ethanolTable (s := s.accept p _ tag) mode bounded)
  case station =>
    rintro st reach change shot values changeLow changeHigh shotLow shotHigh rfl
    have taken := configured_station (s := s.accept p ReqCode.configure.toByte tag) mode st e (reach := reach)
      ⟨changeLow, changeHigh⟩ ⟨shotLow, shotHigh⟩
    refine ⟨?on, fun same => ?same, ?off⟩
    case on =>
      rintro rfl off
      refine configure_sets free terminal rfl (taken.trans ?_)
      rw [if_pos rfl, State.enableStation_of_off (s := s.accept p _ tag) off, State.modStation_modStation]
      rfl
    case same =>
      refine configure_sets free terminal rfl (taken.trans ?_)
      cases e with
      | true =>
        rw [if_pos rfl, State.enableStation_of_on (s := s.accept p _ tag) (same.mp rfl)]
        rfl
      | false =>
        have off : (s.station st).state = .off := by
          by_contra on
          exact absurd (same.mpr on) (by decide)
        rw [if_neg (by decide), State.disableStation_of_off (s := s.accept p _ tag) off]
        rfl
    case off =>
      rintro rfl on
      refine ⟨fun answered => ?_, fun q code qtag pending waits notClear => configure_answersRestore free terminal mode
        ⟨changeLow, changeHigh⟩ ⟨shotLow, shotHigh⟩ on pending waits notClear⟩
      refine configure_sets free terminal rfl (taken.trans ?_)
      rw [if_neg (by decide), State.disableStation_of_answered (s := s.accept p _ tag) on answered, State.stationOff,
        State.modStation_modStation]
      rfl
  case timers =>
    intro noFlow settle hold wait overrun stray noFlowLow noFlowHigh settleLow settleHigh holdLow holdHigh waitHigh overrunLow
      overrunHigh strayLow strayHigh
    exact configure_sets free terminal rfl (configured_timers (s := s.accept p _ tag) mode ⟨noFlowLow, noFlowHigh⟩
      ⟨settleLow, settleHigh⟩ ⟨holdLow, holdHigh⟩ waitHigh ⟨overrunLow, overrunHigh⟩ ⟨strayLow, strayHigh⟩)
  case header => exact configure_sets free terminal rfl (configured_header (s := s.accept p _ tag) mode inside)

/-! ## Refusals (R182) -/

/-- The outcome of checks and effect is a refusal that changes nothing, or an OK that leaves every BUSY port BUSY. -/
def RefusedOrDone (u : State) (x : State × Option Response) : Prop :=
  (∃ r, x = answer u r ∧ r.result ≠ .ok) ∨
    ∃ v r, x = answer v r ∧ r.result = .ok ∧ ∀ p, (u.port p).answer.isBusy = true → (v.port p).answer.isBusy = true

namespace RefusedOrDone

variable {u v : State}

/-- A refusal. -/
theorem refuse (c : ResultCode) (bad : c ≠ .ok) : RefusedOrDone u (answer u (.refuse c)) := .inl ⟨_, rfl, bad⟩

/-- A field out of its range. -/
theorem badField (n : Nat) : RefusedOrDone u (answer u (.badField n)) := .inl ⟨_, rfl, nofun⟩

/-- An OK with a change of other parts than the ports. -/
theorem done (d : ResponseData) (ports : v.ports = u.ports := by rfl) : RefusedOrDone u (answer v (.okWith d)) :=
  .inr ⟨v, _, rfl, rfl, fun p busy => by rwa [State.port, ports]⟩

/-- A CONFIGURE that sets other parts than the ports. -/
theorem configuredTo (g i : Byte) (ports : v.ports = u.ports := by rfl) :
    RefusedOrDone u (v.configuredTo g i) := done _ ports

end RefusedOrDone

/-- The response that is formed at a BUSY port stands there. -/
theorem response?_respond {s : State} {p : Port} (busy : (s.port p).answer.isBusy = true) (r : Response) :
    (s.respond p r).response? p = some r := by
  cases e : (s.port p).answer with
  | free => rw [e] at busy; exact absurd busy (by simp [Answer.isBusy])
  | busy c t x => simp [State.response?, State.respond, e, Answer.form]

/-- The response that a taken request is answered with stands at the port. -/
theorem response?_answered (s : State) (p : Port) (rc : ReqCode) (tag : Byte) (r : Response) :
    (s.answered p rc tag r).response? p = some r := by
  simp [State.response?, State.answered]

/-- A request whose checks refuse or whose effect answers OK changes nothing where it is refused. -/
theorem refusal_changes_nothing {s : State} {p : Port} {rc : ReqCode} {act : State → State × Option Response}
    (free : s.free p = true) (plain : rc.conditional = false) (tag : Byte) (cases : ∀ u, RefusedOrDone u (act u)) :
    ∃ t r, Host.Outcome.next (s.takeRequest p rc tag act) = (.next t : Result) ∧ t.response? p = some r ∧
      (r.result ≠ .ok → t = s.answered p rc tag r) := by
  cases may : p.mayIssue rc with
  | false =>
    refine ⟨_, refused .notPermitted, rfl, ?_, fun _ => ?_⟩
    all_goals rw [takeRequest_forbidden free may, clearIfConditional_of_not plain]
    exact response?_answered ..
  | true =>
    rcases cases (s.accept p rc.toByte tag) with ⟨r, refusal, bad⟩ | ⟨v, r, effect, ok, busy⟩
    · refine ⟨_, r, next_unchanged free may plain refusal, response?_answered .., fun _ => rfl⟩
    · refine ⟨_, r, rfl, ?_, fun bad => absurd ok bad⟩
      rw [takeRequest_acts free may effect, clearIfConditional_of_not plain]
      exact response?_respond (busy p (by rw [accept_port_self]; rfl)) r

/-- The answer to a restore leaves the BUSY ports BUSY. -/
theorem answerRestore_isBusy {s : State} (st : Fin 4) (r : Option ReplyState) {p : Port}
    (busy : (s.port p).answer.isBusy = true) : ((s.answerRestore st r).port p).answer.isBusy = true := by
  unfold State.answerRestore
  split
  · exact busy
  · rename_i q _
    by_cases e : p = q
    · subst e
      cases a : (s.port p).answer with
      | free => rw [a] at busy; exact absurd busy (by simp [Answer.isBusy])
      | busy c t x => simp [State.respond, a, Answer.form, Answer.isBusy]
    · simpa [State.respond, e] using busy

/-- A disable of a station leaves the BUSY ports BUSY. -/
theorem disableStation_isBusy {s : State} (st : Fin 4) {p : Port} (busy : (s.port p).answer.isBusy = true) :
    ((s.disableStation st).port p).answer.isBusy = true := by
  by_cases off : (s.station st).state = .off
  · rw [State.disableStation_of_off off]
    exact busy
  · rw [State.disableStation_of_on off]
    split
    · exact busy
    · exact answerRestore_isBusy st none busy

/-- The probe scan is not the ports'. -/
theorem enableProbe_ports (s : State) (c : Fin 16) : (s.enableProbe c).ports = s.ports := by
  unfold State.enableProbe
  split
  · rfl
  · dsimp only
    split <;> rfl

/-- The probe scan is not the ports'. -/
theorem disableProbe_ports (s : State) (c : Fin 16) : (s.disableProbe c).ports = s.ports := by
  unfold State.disableProbe
  split <;> rfl

/-- CONFIGURE of an arm, a lane, a meter or a channel. -/
theorem configureEnable_refusedOrDone (u : State) (g i : Byte) (vs : List Byte) :
    RefusedOrDone u (u.configureArm g i vs) ∧ RefusedOrDone u (u.configureLane g i vs) ∧
      RefusedOrDone u (u.configureMeter g i vs) ∧ RefusedOrDone u (u.configureProbe g i vs) := by
  refine ⟨?_, ?_, ?_, ?_⟩
  · unfold State.configureArm
    split
    · split
      · exact .badField 3
      · exact .configuredTo g i
    · exact .badField 2
  · unfold State.configureLane
    split
    · split
      · exact .badField 3
      · exact .configuredTo g i
    · exact .badField 2
  · unfold State.configureMeter
    split
    · split
      · exact .badField 3
      · split
        · exact .configuredTo g i
        · exact .badField 4
    · exact .badField 2
  · unfold State.configureProbe
    split
    · split
      · exact .badField 3
      · exact .configuredTo g i (enableProbe_ports _ _)
      · exact .configuredTo g i (disableProbe_ports _ _)
    · exact .badField 2

/-- CONFIGURE of a table, the timers or the header. -/
theorem configureItems_refusedOrDone (u : State) (g i : Byte) (vs : List Byte) :
    RefusedOrDone u (u.configureTable g i vs) ∧ RefusedOrDone u (u.configureTimers g i vs) ∧
      RefusedOrDone u (u.configureHeader g i vs) := by
  refine ⟨?_, ?_, ?_⟩
  · unfold State.configureTable
    split
    · split
      · exact .badField _
      · exact .configuredTo g i
    · split
      · exact .badField _
      · exact .configuredTo g i
    · exact .badField 2
  · unfold State.configureTimers
    iterate 7
      split
      · exact .badField _
    exact .configuredTo g i
  · unfold State.configureHeader
    split
    · exact .badField 2
    · split
      · exact .badField 3
      · exact .configuredTo g i

/-- CONFIGURE of a station. -/
theorem configureStation_refusedOrDone (u : State) (g i : Byte) (vs : List Byte) :
    RefusedOrDone u (u.configureStation g i vs) := by
  unfold State.configureStation
  split
  · split
    · exact .badField 3
    · split
      · exact .badField 5
      · split
        · exact .badField 6
        · refine .inr ⟨_, _, rfl, rfl, fun p busy => ?_⟩
          split
          · exact busy
          · exact disableStation_isBusy _ busy
  · exact .badField 2

/-- CONFIGURE refuses or sets. -/
theorem configured_refusedOrDone (g i : Byte) (vs : List Byte) (u : State) :
    RefusedOrDone u (State.configured g i vs u) := by
  obtain ⟨arm, lane, meter, probe⟩ := configureEnable_refusedOrDone u g i vs
  obtain ⟨table, timers, header⟩ := configureItems_refusedOrDone u g i vs
  unfold State.configured
  split
  · exact .refuse _ (by decide)
  · split
    · exact arm
    · exact lane
    · exact meter
    · exact probe
    · exact table
    · exact configureStation_refusedOrDone u g i vs
    · exact timers
    · exact header
    · exact .badField 1

/-- A port that may not name the arm is refused. -/
theorem addressArm_error {p : Port} {arm : Byte} {r : Response} (error : addressArm p arm = .error r) :
    r.result ≠ .ok := by
  unfold addressArm at error
  split at error
  · split at error
    · split at error
      · exact absurd error (by simp)
      · obtain rfl := Except.error.inj error
        nofun
    · obtain rfl := Except.error.inj error
      nofun
  · split at error
    · exact absurd error (by simp)
    · obtain rfl := Except.error.inj error
      nofun
  · split at error
    · exact absurd error (by simp)
    · obtain rfl := Except.error.inj error
      nofun

/-- The checks of a START refuse. -/
theorem startChecks_error {s : State} {a : Fin 8} {choice : Word16} {v : Nat} {r : Response}
    (error : s.startChecks a choice v = .error r) : r.result ≠ .ok := by
  unfold State.startChecks at error
  iterate 3
    split at error
    · obtain rfl := Except.error.inj error
      nofun
  split at error
  · obtain rfl := Except.error.inj error
    nofun
  split at error
  · obtain rfl := Except.error.inj error
    nofun
  iterate 5
    split at error
    · obtain rfl := Except.error.inj error
      nofun
  exact absurd error (by simp)

/-- START LOAD refuses or starts the load. -/
theorem loadStarted_refusedOrDone (p : Port) (arm : Byte) (choice : Word16) (preset : Word24) (u : State) :
    RefusedOrDone u (State.loadStarted p arm choice preset u) := by
  unfold State.loadStarted
  split
  · rename_i error
    exact .inl ⟨_, rfl, addressArm_error error⟩
  · split
    · rename_i error
      exact .inl ⟨_, rfl, startChecks_error error⟩
    · exact .done _

/-- Settles O12: each check that refuses leaves the state that has taken the request, and so does a wrong length. -/
theorem refusalsChangeNothing : Obligations.RefusalsChangeNothing := by
  unfold Obligations.RefusalsChangeNothing
  intro p tag s free
  refine ⟨fun group index values => ?_, fun arm choice preset =>
    refusal_changes_nothing free rfl tag (loadStarted_refusedOrDone p arm choice preset)⟩
  cases long : configureLengthOk group values with
  | true =>
    rw [exec_configure long]
    exact refusal_changes_nothing free rfl tag (configured_refusedOrDone group index values)
  | false =>
    have bad : exec (.configure p tag group index values) s = .next (s.takeBadRequest p ReqCode.configure.toByte tag) :=
      if_neg (by simp [long])
    have same : s.takeBadRequest p ReqCode.configure.toByte tag = s.answered p .configure tag (refused .badRequest) :=
      takeBadRequest_free free _ tag
    exact ⟨_, _, bad, by rw [same]; exact response?_answered .., fun _ => same⟩

end Sys2Proof.Machine
end

section
/-! PROOFS. Numbers drawn from a wrapping counter (R22, R163) and the requests and events of the lane queues (R20 to R26). -/

namespace Sys2Proof.Machine

/-! ## Numbers drawn from a wrapping counter (R22, R163) -/

/-- So many advances of the counter, as a remainder. -/
theorem counterAfter_iterate {top n : Nat} (low : 1 ≤ n) (high : n ≤ top) :
    ∀ i, (counterAfter top)^[i] n = (n - 1 + i) % top + 1
  | 0 => by rw [Nat.add_zero, Nat.mod_eq_of_lt (by omega)]; exact (Nat.sub_add_cancel low).symm
  | i + 1 => by
    have below : (n - 1 + i) % top < top := Nat.mod_lt _ (by omega)
    have step : (n - 1 + (i + 1)) % top = ((n - 1 + i) % top + 1) % top := by rw [Nat.mod_add_mod, Nat.add_assoc]
    rw [Function.iterate_succ_apply', counterAfter_iterate low high i, counterAfter, step]
    split
    · rw [show (n - 1 + i) % top + 1 = top by omega, Nat.mod_self]
    · rw [Nat.mod_eq_of_lt (show (n - 1 + i) % top + 1 < top by omega)]

/-- Fewer advances than there are numbers come to different ones. -/
theorem counterAfter_injOn {top n : Nat} (low : 1 ≤ n) (high : n ≤ top) {i j : Nat} (hi : i < top) (hj : j < top)
    (same : (counterAfter top)^[i] n = (counterAfter top)^[j] n) : i = j := by
  rw [counterAfter_iterate low high, counterAfter_iterate low high] at same
  have congruent : (n - 1 + i) ≡ (n - 1 + j) [MOD top] := Nat.succ.inj same
  exact Nat.ModEq.eq_of_lt_of_lt (Nat.ModEq.add_left_cancel' _ congruent) hi hj

section FirstFree

variable {taken : Nat → Bool} {top : Nat}

/-- A number that is not taken is the first free one. -/
theorem firstFree_of_free {n : Nat} (free : taken n = false) : ∀ fuel, firstFree taken top fuel n = n
  | 0 => rfl
  | _ + 1 => by simp [firstFree, free]

/-- The search comes to one of the counter's numbers. -/
theorem firstFree_mem_range : ∀ fuel n, 1 ≤ n → n ≤ top → 1 ≤ firstFree taken top fuel n ∧ firstFree taken top fuel n ≤ top
  | 0, _, low, high => ⟨low, high⟩
  | fuel + 1, n, low, high => by
    rw [firstFree]
    split
    · apply firstFree_mem_range fuel <;> (rw [counterAfter]; split <;> omega)
    · exact ⟨low, high⟩

/-- Where the search comes to a taken number, all that it has passed are taken. -/
theorem taken_of_firstFree_taken : ∀ fuel n, taken (firstFree taken top fuel n) = true →
    ∀ i ≤ fuel, taken ((counterAfter top)^[i] n) = true
  | 0, n, found, i, hi => by
    obtain rfl : i = 0 := by omega
    exact found
  | fuel + 1, n, found, i, hi => by
    rw [firstFree] at found
    split at found
    · rename_i here
      cases i with
      | zero => exact here
      | succ j => exact taken_of_firstFree_taken fuel _ found j (by omega)
    · exact absurd found ‹_›

/-- Where no more numbers are taken than the search tries, it comes to a free one. -/
theorem firstFree_free {fuel n : Nat} (xs : List Nat) (all : ∀ k, taken k = true → k ∈ xs) (few : xs.length ≤ fuel)
    (short : fuel < top) (low : 1 ≤ n) (high : n ≤ top) : taken (firstFree taken top fuel n) = false := by
  by_contra found
  have passed := taken_of_firstFree_taken fuel n (by simpa using found)
  have into : Set.MapsTo (fun i => (counterAfter top)^[i] n) (Finset.range (fuel + 1)) (xs.toFinset : Set Nat) := by
    intro i hi
    have within : i < fuel + 1 := by simpa using hi
    simpa using all _ (passed i (by omega))
  have apart : Set.InjOn (fun i => (counterAfter top)^[i] n) (Finset.range (fuel + 1)) := by
    intro i hi j hj same
    have hi' : i < fuel + 1 := by simpa using hi
    have hj' : j < fuel + 1 := by simpa using hj
    exact counterAfter_injOn low high (by omega) (by omega) same
  have card := Finset.card_le_card_of_injOn _ into apart
  have size := xs.toFinset_card_le
  rw [Finset.card_range] at card
  omega

end FirstFree

/-! ## ISSUE AUTHORIZATION (R22, R23) -/

namespace State

/-- An id is queued exactly where a queue holds it. -/
theorem idQueued_eq_true_iff {s : State} {id : Nat} : s.idQueued id = true ↔ ∃ l, ∃ x ∈ s.queue l, x.id = id := by
  simp only [idQueued, List.any_eq_true, beq_iff_eq]
  exact ⟨fun ⟨l, _, h⟩ => ⟨l, h⟩, fun ⟨l, h⟩ => ⟨l, mem_allLanes l, h⟩⟩

/-- The ids of all queues. -/
def queuedIds (s : State) : List Nat := allLanes.flatMap fun l => (s.queue l).map Authorization.id

/-- The ids of all queues are the queued ones. -/
theorem mem_queuedIds {s : State} {id : Nat} : id ∈ s.queuedIds ↔ s.idQueued id = true := by
  simp only [queuedIds, List.mem_flatMap, List.mem_map, idQueued_eq_true_iff]
  exact ⟨fun ⟨l, _, h⟩ => ⟨l, h⟩, fun ⟨l, h⟩ => ⟨l, mem_allLanes l, h⟩⟩

/-- Queues of at most six hold at most 24 ids. -/
theorem length_queuedIds {s : State} (bounded : s.queuesBounded) : s.queuedIds.length ≤ 24 := by
  have h0 := bounded 0
  have h1 := bounded 1
  have h2 := bounded 2
  have h3 := bounded 3
  simp only [Config.laneQueueLimit] at h0 h1 h2 h3
  simp only [queuedIds, allLanes, List.flatMap_cons, List.flatMap_nil, List.length_append, List.length_map, List.length_nil]
  omega

end State

/-- The bits of a lane's arm set are its two arms. -/
theorem getLsbD_laneArmSet : ∀ (l : Fin 4) (a : Fin 8), (laneArmSet l).getLsbD a.val = decide (laneOf a = l) := by
  decide

/-- A non-empty set of arms of the lane is one that R20 allows. -/
theorem armSetOk_of_within {set : Byte} {l : Fin 4} (some : set ≠ 0#8)
    (within : ∀ a : Fin 8, set.getLsbD a.val = true → laneOf a = l) : armSetOk set l = true := by
  have none : set &&& ~~~(laneArmSet l) = 0#8 := by
    apply BitVec.eq_of_getLsbD_eq
    intro i hi
    have bit := getLsbD_laneArmSet l ⟨i, hi⟩
    have arm := within ⟨i, hi⟩
    cases h : set.getLsbD i with
    | false => simp [h]
    | true => simp [h, bit, arm h]
  simp [armSetOk, some, none]

/-- Settles O16: with every parameter in range the new authorization joins the tail; the id is the first free one from the
counter on, and at most 24 are queued. -/
theorem issueJoinsTail : Obligations.IssueJoinsTail := by
  unfold Obligations.IssueJoinsTail
  intro p tag lane armSet slot required limit customer expiry s free terminal some within slotIn limitLow limitHigh
    expiryLow expiryHigh place
  refine ⟨?issued, fun unused => ?counter, fun low high bounded => ?drawn⟩
  case issued =>
    refine next_answered free (mayIssue_of_terminal terminal (by decide)) rfl
      (u := ({ s with authCounter := if 65535 ≤ s.drawId then 1 else s.drawId + 1 } : State).setQueue lane _) ?_
    have number : (BitVec.ofNat 8 lane.val).toNat = lane.val := toNat_ofNat8 (by omega)
    have inside : (BitVec.ofNat 8 lane.val).toNat < 4 := by omega
    have same : (⟨(BitVec.ofNat 8 lane.val).toNat, inside⟩ : Fin 4) = lane := Fin.ext number
    have limitIn : inRange Config.minPreset Config.maxPresetLimit limit.toNat = true :=
      inRange_eq_true_iff.mpr ⟨limitLow, limitHigh⟩
    have expiryIn : inRange 1 240 expiry.toNat = true := inRange_eq_true_iff.mpr ⟨expiryLow, expiryHigh⟩
    have room : ¬ Config.laneQueueLimit ≤ ((s.accept p ReqCode.issueAuthorization.toByte tag).queue lane).length :=
      Nat.not_le.mpr place
    rw [State.authorizationIssued, dif_pos inside]
    simp only [same, armSetOk_of_within some within, limitIn, expiryIn, Bool.true_eq_false, if_false]
    rw [if_neg (by omega), if_neg room]
    rfl
  case counter =>
    refine firstFree_of_free ?_ 24
    by_contra queued
    obtain ⟨l, x, mem, same⟩ := State.idQueued_eq_true_iff.mp (by simpa using queued)
    exact unused l x mem same
  case drawn =>
    obtain ⟨lowest, highest⟩ := firstFree_mem_range (taken := s.idQueued) (top := 65535) 24 s.authCounter low high
    refine ⟨lowest, highest, fun l x mem same => ?_⟩
    have free := firstFree_free (taken := s.idQueued) s.queuedIds (fun k => State.mem_queuedIds.mpr)
      (State.length_queuedIds bounded) (by omega) low high
    have queued : s.idQueued s.drawId = true := State.idQueued_eq_true_iff.mpr ⟨l, x, mem, same⟩
    exact absurd (queued.symm.trans free) (by decide)

/-! ## LIST AUTHORIZATIONS (R26) -/

/-- The entries show the queue, head first. -/
theorem queueViews_authorizations : ∀ (q : List Authorization) (n : Nat),
    (State.queueViews n q).map AuthorizationView.authorization = q
  | [], _ => rfl
  | x :: rest, n => by rw [State.queueViews, List.map_cons, queueViews_authorizations rest]

/-- Each entry's time remaining is read from the free value. -/
theorem queueViews_remaining : ∀ (q : List Authorization) (n : Nat), ∀ e ∈ State.queueViews n q,
    ∃ k, e.remaining = State.timeRemaining e.authorization k
  | [], _, _, mem => absurd mem (by simp [State.queueViews])
  | _ :: rest, n, e, mem => by
    rw [State.queueViews, List.mem_cons] at mem
    rcases mem with rfl | mem
    · exact ⟨n, rfl⟩
    · exact queueViews_remaining rest (n + 1) e mem

/-- What the second ticks leave, at most a second more, and at least 1. -/
theorem timeRemaining_bounds (x : Authorization) (k : Nat) :
    max 1 (60 * x.expiry - x.elapsed) ≤ State.timeRemaining x k ∧
      State.timeRemaining x k ≤ max 1 (60 * x.expiry - x.elapsed + 1) := by
  rw [State.timeRemaining]
  split <;> omega

/-- A terminal port may list every lane, a lane port its own. -/
theorem mayList_eq_true {p : Port} {l : Fin 4} (own : p.isTerminal = true ∨ p = .lp l) : State.mayList p l = true := by
  cases p with
  | ta => rfl
  | tb => rfl
  | lp k =>
    rcases own with terminal | same
    · exact absurd terminal (by simp [Port.isTerminal])
    · simpa [State.mayList] using same

/-- Settles O18: the entries of the queue with the free values that they have read. -/
theorem listReportsQueue : Obligations.ListReportsQueue := by
  unfold Obligations.ListReportsQueue
  intro p tag lane s free own
  refine ⟨s.freeCount + (s.queue lane).length, State.queueViews s.freeCount (s.queue lane), ?_,
    queueViews_authorizations _ _, fun e mem => ?_⟩
  · refine next_answered free rfl rfl (u := { s with freeCount := s.freeCount + (s.queue lane).length }) ?_
    have number : (BitVec.ofNat 8 lane.val).toNat = lane.val := toNat_ofNat8 (by omega)
    have inside : (BitVec.ofNat 8 lane.val).toNat < 4 := by omega
    have same : (⟨(BitVec.ofNat 8 lane.val).toNat, inside⟩ : Fin 4) = lane := Fin.ext number
    rw [State.authorizationsListed, dif_pos inside]
    simp only [same, mayList_eq_true own, if_true]
    rfl
  · obtain ⟨k, read⟩ := queueViews_remaining _ _ e mem
    rw [read]
    exact timeRemaining_bounds e.authorization k

/-! ## AUTH_EXPIRED (R24) -/

/-- A raise leaves the queues. -/
theorem raise_queue (s : State) (n : Notice) (ps : List Port) (l : Fin 4) : (s.raise n ps).queue l = s.queue l :=
  raise_kept (fun t => t.queue l) (fun _ _ _ => rfl) n ps s

/-- Settles O19: the id leaves its lane's queue, then the notice is raised. -/
theorem expiryRemovesAndRaises : Obligations.ExpiryRemovesAndRaises := by
  unfold Obligations.ExpiryRemovesAndRaises
  intro id l s held alone
  have expired : s.authorizationExpired id = (s.removeId l id).raise .authExpired (terminalsAndLane l) := by
    rw [State.authorizationExpired, State.laneOfId_eq_some_of_unique held alone]
  refine ⟨_, congrArg Host.Outcome.next expired, ?_, fun k other => ?_, ?_, ?_⟩
  · rw [raise_queue]
    exact State.setQueue_queue_self ..
  · rw [raise_queue]
    exact State.setQueue_queue_ne _ _ _ _ other
  · exact raise_portsRaised (s.removeId l id) .authExpired (terminalsAndLane l)
  · have only := raise_ports_only (s.removeId l id) .authExpired (terminalsAndLane l)
    exact congrArg (fun t : State => { t with queues := s.queues }) only

end Sys2Proof.Machine
end

section
/-! PROOFS. Records (R16, R167 to R169), trace reads (R175 to R179), probe conversions (R95 to R97), pulses without a load (R87,
R90), the end of a command frame (R127) and the trip inputs' restoration (R113, R154, R156). -/

namespace Sys2Proof.Machine

/-! ## Updates of one item -/

/-- Two updates of a port that agree on its items are one. -/
theorem modPort_congr {s : State} {p : Port} {f g : PortState → PortState} (same : f (s.port p) = g (s.port p)) :
    s.modPort p f = s.modPort p g := by
  have at_ : f s.ports[(portIndex p).val] = g s.ports[(portIndex p).val] := same
  simp [State.modPort, at_]

/-- Two updates of a meter that agree on its items are one. -/
theorem modMeter_congr {s : State} {m : Fin 16} {f g : Meter → Meter} (same : f (s.meter m) = g (s.meter m)) :
    s.modMeter m f = s.modMeter m g := by
  have at_ : f s.meters[m.val] = g s.meters[m.val] := same
  simp [State.modMeter, at_]

/-- Two updates of one meter are one. -/
theorem modMeter_modMeter (s : State) (m : Fin 16) (f g : Meter → Meter) :
    (s.modMeter m f).modMeter m g = s.modMeter m fun x => g (f x) := by
  simp [State.modMeter]

/-! ## READ LOAD BY_ARM (R167) -/

/-- READ LOAD BY_ARM finds the record of an arm of the port's. -/
theorem loadRead_byArm {s : State} {p : Port} {a : Fin 8} {l : Load} (own : p.isTerminal = true ∨ p = .lp (laneOf a))
    (load : s.load? a = some l) (lane : l.data.lane = laneOf a) {link : Byte} {b : Bool} (known : yesNo link.toNat = some b) :
    State.loadRead p 1#8 (BitVec.ofNat 24 a.val) link s =
      answer (if b then s.setLink p (some (.load l.data.number l.data.revision)) else s)
        (okay (.load s.seconds (s.recordOf a l))) := by
  have number : (BitVec.ofNat 24 a.val).toNat = a.val := by rw [BitVec.toNat_ofNat]; exact Nat.mod_eq_of_lt (by omega)
  have inside : (BitVec.ofNat 24 a.val).toNat < 8 := by omega
  have same : (⟨(BitVec.ofNat 24 a.val).toNat, inside⟩ : Fin 8) = a := Fin.ext number
  have may : State.mayList p (s.recordOf a l).data.lane = true := mayList_eq_true (lane ▸ own)
  change State.loadReadByArm p _ link s = _
  rw [State.loadReadByArm, dif_pos inside]
  simp only [same, mayList_eq_true own, Bool.true_eq_false, if_false, load]
  rw [State.loadReadOf, if_pos may, known]
  rfl

/-- Settles O30: the record of the arm's load, with and without the link. -/
theorem readLoadReturnsRecord : Obligations.ReadLoadReturnsRecord := by
  unfold Obligations.ReadLoadReturnsRecord
  rintro p tag a l s free own load lane d rfl
  constructor
  · refine next_answered free rfl rfl
      (u := s.modPort p fun x => { x with link := some (.load l.data.number l.data.revision) }) ?_
    rw [loadRead_byArm (s := s.accept p ReqCode.readLoad.toByte tag) (b := true) own load lane rfl, if_pos rfl,
      accept_setLink]
    rfl
  · exact next_unchanged free rfl rfl
      (loadRead_byArm (s := s.accept p ReqCode.readLoad.toByte tag) (link := 0#8) (b := false) own load lane rfl)

/-! ## The delivered list (R168, R169) -/

/-- Where no active load carries the number, no arm is found for it. -/
theorem armOfLoad_eq_none {s : State} {n : Nat} (unused : ∀ a l, s.load? a = some l → l.data.number ≠ n) :
    s.armOfLoad n = none := by
  rw [State.armOfLoad, List.find?_eq_none]
  intro a _
  cases load : s.load? a with
  | none => simp
  | some l => simpa using unused a l load

/-- Settles O31: the head of the list, and the record with the number. -/
theorem deliveredListRequests : Obligations.DeliveredListRequests := by
  unfold Obligations.DeliveredListRequests
  intro p tag s free terminal
  refine ⟨fun r rest list => ?read, fun n low high unused held => ?clear⟩
  case read =>
    refine next_unchanged free (mayIssue_of_terminal terminal (by decide)) rfl ?_
    have same : (s.accept p ReqCode.readDelivered.toByte tag).delivered = r :: rest := list
    rw [State.deliveredRead, if_neg (by decide), if_pos (by decide), same]
    rfl
  case clear =>
    refine next_answered free (mayIssue_of_terminal terminal (by decide)) rfl (u := s.removeDelivered n.toNat) ?_
    have noArm : (s.accept p ReqCode.clearDelivered.toByte tag).armOfLoad n.toNat = none :=
      armOfLoad_eq_none (s := s.accept p ReqCode.clearDelivered.toByte tag) unused
    obtain ⟨r, found⟩ : ∃ r, (s.accept p ReqCode.clearDelivered.toByte tag).deliveredWith n.toNat = some r := by
      obtain ⟨r, mem, number⟩ := held
      exact Option.isSome_iff_exists.mp (List.find?_isSome.mpr ⟨r, mem, by simpa using number⟩)
    have known : inRange 1 Config.maxLoadNumber n.toNat = true := inRange_eq_true_iff.mpr ⟨low, high⟩
    rw [State.deliveredCleared, known, if_neg (by decide), noArm, if_neg (by decide), found]
    rfl

/-! ## TRACE READ (R178) -/

section Entries

variable (s : State) (p : Port)

/-- So many entries, as many advances. -/
theorem entriesFrom_window : ∀ n w, (s.entriesFrom p n w).2 = TraceWindow.advance^[n] w
  | 0, _ => rfl
  | n + 1, w => entriesFrom_window n w.advance

/-- Each entry is read where the pointer names. -/
theorem entriesFrom_entries : ∀ n w,
    (s.entriesFrom p n w).1 = (List.range n).map fun i => s.entryAt p (TraceWindow.advance^[i] w)
  | 0, _ => rfl
  | n + 1, w => by
    rw [State.entriesFrom, List.range_succ_eq_map, List.map_cons, List.map_map, entriesFrom_entries n w.advance]
    rfl

end Entries

/-- The entries do not see that a request has been taken. -/
theorem entriesFrom_accept (s : State) (p q : Port) (c t : Byte) : ∀ n w,
    (s.accept q c t).entriesFrom p n w = s.entriesFrom p n w
  | 0, _ => rfl
  | n + 1, w => by rw [State.entriesFrom, State.entriesFrom, entriesFrom_accept s p q c t n]; rfl

/-- A lane port may not read the page of another lane. -/
theorem mayReadPage_eq_false {p : Port} {page : Fin 8} (lanePort : p.isTerminal = false) (other : p ≠ .lp (laneOf page)) :
    mayReadPage p page = false := by
  cases p with
  | ta => exact absurd lanePort (by decide)
  | tb => exact absurd lanePort (by decide)
  | lp l => simpa [mayReadPage, eq_comm] using other

/-- A terminal port may read every page, a lane port its lane's. -/
theorem mayReadPage_eq_true {p : Port} {page : Fin 8} (own : p.isTerminal = true ∨ p = .lp (laneOf page)) :
    mayReadPage p page = true := by
  cases p with
  | ta => rfl
  | tb => rfl
  | lp l =>
    rcases own with terminal | same
    · exact absurd terminal (by simp [Port.isTerminal])
    · simpa [mayReadPage, eq_comm] using same

/-- Settles O50: as many entries as advances, each where the pointer then names. -/
theorem traceReadMovesPointer : Obligations.TraceReadMovesPointer := by
  unfold Obligations.TraceReadMovesPointer
  intro p tag count s free
  refine ⟨fun low high => ?entries, fun outside => ?badField, fun page w named => ?entry⟩
  case entries =>
    refine ⟨(s.entriesFrom p count.toNat (s.port p).window).1, ?_, ?_, fun i below => ?_⟩
    · refine next_answered free rfl rfl
        (u := s.modPort p fun x => { x with window := TraceWindow.advance^[count.toNat] x.window }) ?_
      rw [State.traceTaken, inRange_eq_true_iff.mpr ⟨low, high⟩, if_neg (by decide), entriesFrom_accept, accept_window]
      dsimp only
      rw [State.accept_setWindow, entriesFrom_window]
      rw [modPort_congr (s := s) (g := fun x => { x with window := TraceWindow.advance^[count.toNat] x.window }) rfl]
      rfl
    · rw [entriesFrom_entries, List.length_map, List.length_range]
    · rw [entriesFrom_entries, List.getElem?_map, List.getElem?_range below]
      rfl
  case badField =>
    refine next_unchanged free rfl rfl ?_
    rw [State.traceTaken, inRange_eq_false_iff.mpr (by omega), if_pos rfl]
    rfl
  case entry =>
    have same : pageOf page.val = page := Fin.ext (Nat.mod_eq_of_lt page.isLt)
    refine ⟨fun lanePort other => ?_, fun own => ⟨fun r held => ?_, fun beyond => ?_⟩⟩
    · simp only [State.entryAt, same, mayReadPage_eq_false lanePort other, named, Bool.false_eq_true, if_false]
    · simp only [State.entryAt, same, mayReadPage_eq_true own, if_true, held, named]
    · simp only [State.entryAt, same, mayReadPage_eq_true own, if_true, List.getElem?_eq_none beyond, named]

/-! ## The trip inputs (R113, R154, R156) -/

/-- The trip states are set and TRIP raised on some ports. -/
theorem raise_trip (s : State) (x : Trips) (ps : List Port) :
    s.portsRaised (({ s with trips := x } : State).raise .trip ps) .trip ps ∧
      { ({ s with trips := x } : State).raise .trip ps with ports := s.ports } = { s with trips := x } :=
  ⟨raise_portsRaised { s with trips := x } .trip ps, raise_ports_only { s with trips := x } .trip ps⟩

/-- Settles O46: each restoration sets the state held and raises TRIP. -/
theorem tripInputsRestore : Obligations.TripInputsRestore := by
  unfold Obligations.TripInputsRestore
  intro s
  refine ⟨fun asserted => ?esd, fun lost => ?header, fun l lost => ?lane⟩
  case esd => exact ⟨_, congrArg Host.Outcome.next (if_pos asserted), raise_trip s _ allPorts⟩
  case header => exact ⟨_, congrArg Host.Outcome.next (if_neg (by simp [lost])), raise_trip s _ allPorts⟩
  case lane => exact ⟨_, congrArg Host.Outcome.next (if_neg (by simp [lost])), raise_trip s _ (terminalsAndLane l)⟩

/-! ## Pulses (R87, R90) -/

/-- A pulse that completes a tick on an arm without a load goes to the stray counter. -/
theorem pulse_stray {s : State} {m : Fin 16} (enabled : (s.meter m).enable = true) (last : (s.meter m).divider ≤ 1)
    (vacant : s.load? (armOfMeter m) = none) :
    s.pulse m = (s.modMeter m fun x => { x with divider := x.kFactor }).strayTick m := by
  have noLoad : (s.modMeter m fun x => { x with divider := x.kFactor }).load? (armOfMeter m) = none := vacant
  rw [State.pulse, if_neg (by simp [enabled]), if_neg (by omega), State.tick, noLoad]

/-- Settles O39: the divider, then the stray counter below its end and at it. -/
theorem pulseCountsDownOrStrays : Obligations.PulseCountsDownOrStrays := by
  unfold Obligations.PulseCountsDownOrStrays
  intro m s
  refine ⟨fun disabled => ?disabled, fun enabled before => ?counted, fun enabled last vacant => ?stray⟩
  case disabled => exact congrArg Host.Outcome.next (if_pos disabled)
  case counted => exact congrArg Host.Outcome.next ((if_neg (by simp [enabled])).trans (if_pos before))
  case stray =>
    refine ⟨_, congrArg Host.Outcome.next (pulse_stray enabled last vacant), ?_⟩
    by_cases full : 65535 ≤ (s.meter m).stray
    · have stays : (s.modMeter m fun x => { x with divider := x.kFactor }).strayTick m =
          s.modMeter m fun x => { x with divider := x.kFactor } := by
        rw [State.strayTick, if_pos (by simpa [Config.maxStray] using full)]
      have counted : s.modMeter m (fun x => { x with divider := x.kFactor }) =
          s.modMeter m (fun x =>
            { x with
              divider := x.kFactor
              stray := max x.stray (min (x.stray + 1) 65535)
              silent := x.silent || decide (x.stray < 65535 ∧ x.stray + 1 = s.settings.strayThreshold) }) := by
        refine modMeter_congr ?_
        simp only [show ¬ (s.meter m).stray < 65535 by omega, false_and, decide_false, Bool.or_false]
        rw [show max (s.meter m).stray (min ((s.meter m).stray + 1) 65535) = (s.meter m).stray by omega]
      rw [stays, if_neg (by omega)]
      exact ⟨counted, raise_portsRaised s .strayFlow []⟩
    · have counter : ((s.modMeter m fun x => { x with divider := x.kFactor }).meter m).stray = (s.meter m).stray := by simp
      have silence : ((s.modMeter m fun x => { x with divider := x.kFactor }).meter m).silent = (s.meter m).silent := by simp
      have changed : (s.modMeter m fun x => { x with divider := x.kFactor }).modMeter m (fun x =>
          { x with stray := x.stray + 1
                   silent := x.silent || decide ((s.meter m).stray + 1 = s.settings.strayThreshold) }) =
          s.modMeter m (fun x =>
            { x with
              divider := x.kFactor
              stray := max x.stray (min (x.stray + 1) 65535)
              silent := x.silent || decide (x.stray < 65535 ∧ x.stray + 1 = s.settings.strayThreshold) }) := by
        rw [modMeter_modMeter]
        refine modMeter_congr ?_
        simp only [show (s.meter m).stray < 65535 by omega, true_and]
        rw [show max (s.meter m).stray (min ((s.meter m).stray + 1) 65535) = (s.meter m).stray + 1 by omega]
      rw [State.strayTick, if_neg (by simpa [Config.maxStray] using full)]
      simp only [counter, silence, State.modMeter_settings, decide_eq_true_eq, changed,
        show (s.meter m).stray < 65535 by omega, true_and]
      split
      · exact ⟨raise_ports_only (s.modMeter m _) .strayFlow terminalPorts, raise_portsRaised (s.modMeter m _) .strayFlow _⟩
      · exact ⟨rfl, raise_portsRaised s .strayFlow []⟩

/-! ## The end of a command frame (R127) -/

/-- Settles O38: the window opens, and a SHOT's shot becomes the station's. -/
theorem commandFrameSentOpensWindow : Obligations.CommandFrameSentOpensWindow := by
  unfold Obligations.CommandFrameSentOpensWindow
  intro x s busy sending
  have opened : s.modTxn (fun x => { x with phase := .window, shot := none }) =
      { s with bus := { s.bus with txn := some { x with phase := .window, shot := none } } } := by
    rw [State.modTxn, busy]
    rfl
  have sent : ∀ t : State, s.frameSent = t → exec .commandFrameSent s = .next t := fun t h => congrArg Host.Outcome.next h
  refine ⟨fun noShot => sent _ ?_, fun sh shot => sent _ ?_⟩
  · simp only [State.frameSent, busy, sending, noShot, opened]
  · simp only [State.frameSent, busy, sending, shot, opened]

/-! ## CONVERSION_COMPLETE (R95, R96) -/

/-- The conversion after that of an enabled channel: the next enabled channel above, else the lowest. -/
theorem nextConversion_of_enabled {s : State} {c : Fin 16} (enabled : (s.probe c).enable = true) :
    ∃ d, s.nextConversion c = some { channel := d, discard := false } ∧ (s.probe d).enable = true ∧
      ((c < d ∧ ∀ k, c < k → k < d → (s.probe k).enable = false) ∨
        (d ≤ c ∧ (∀ k, c < k → (s.probe k).enable = false) ∧ ∀ k, k < d → (s.probe k).enable = false)) := by
  have listed : ∀ k : Fin 16, k ∈ State.allChannels := by decide
  cases above : State.allChannels.find? fun k => decide (c < k) && s.probeEnabled k with
  | some d =>
    obtain ⟨passes, before⟩ := State.find?_allChannels above
    obtain ⟨higher, on⟩ : c < d ∧ s.probeEnabled d = true := by simpa using passes
    refine ⟨d, by simp only [State.nextConversion, above], on, .inl ⟨higher, fun k low high => ?_⟩⟩
    have off := before k high
    simp only [low, decide_true, Bool.true_and] at off
    exact off
  | none =>
    have off : ∀ k, c < k → (s.probe k).enable = false := by
      intro k higher
      have fails := List.find?_eq_none.mp above k (listed k)
      simp only [higher, decide_true, Bool.true_and, Bool.not_eq_true] at fails
      exact fails
    obtain ⟨d, found⟩ := State.exists_find?_allChannels (f := s.probeEnabled) (c := c) enabled
    obtain ⟨on, before⟩ := State.find?_allChannels found
    refine ⟨d, by simp only [State.nextConversion, above, State.lowestConversion, found, Option.map_some], on,
      .inr ⟨?_, off, before⟩⟩
    by_contra higher
    exact absurd (on.symm.trans (off d (not_le.mp higher))) (by decide)

/-- A result within the span's ends. -/
theorem clipReading_eq (x : Int) : State.clipReading x = max (-400) (min x 700) := by
  rw [State.clipReading]
  split
  · omega
  · split <;> omega

/-- The condition is that of the result before it is clipped. -/
theorem conditionOf_clipReading (x : Int) :
    State.conditionOf (State.clipReading x) = if -300 ≤ x ∧ x ≤ 550 then .valid else .fault := by
  rw [State.conditionOf, clipReading_eq]
  by_cases valid : -300 ≤ x ∧ x ≤ 550
  · rw [if_pos valid, if_pos (by omega)]
  · rw [if_neg valid, if_neg (by omega)]

/-- A raise leaves the probes. -/
theorem raise_probe (s : State) (n : Notice) (ps : List Port) (c : Fin 16) : (s.raise n ps).probe c = s.probe c :=
  raise_kept (fun t => t.probe c) (fun _ _ _ => rfl) n ps s

/-- Taking a reading sets the channel and raises PROBE_FAULT where its condition becomes FAULT. -/
theorem takeReading_eq (s : State) (c : Fin 16) (x : Int) :
    s.takeReading c x =
      (s.modProbe c fun q =>
        { q with reading := max (-400) (min x 700)
                 condition := if -300 ≤ x ∧ x ≤ 550 then .valid else .fault }).raise .probeFault
        (if (x < -300 ∨ 550 < x) ∧ (s.probe c).condition ≠ .fault then [.ta, .tb] else []) := by
  have fault : State.conditionOf (State.clipReading x) = .fault ↔ x < -300 ∨ 550 < x := by
    rw [conditionOf_clipReading]
    by_cases valid : -300 ≤ x ∧ x ≤ 550
    · rw [if_pos valid]
      exact ⟨nofun, fun out => by omega⟩
    · rw [if_neg valid]
      exact ⟨fun _ => by omega, fun _ => rfl⟩
  simp only [State.takeReading, fault]
  rw [conditionOf_clipReading, clipReading_eq]
  split <;> rfl

/-- Settles O44: the reading, then the scan. -/
theorem conversionSetsReading : Obligations.ConversionSetsReading := by
  unfold Obligations.ConversionSetsReading
  intro x c s scan enabled
  have enables : ∀ k, ((s.takeReading c x).probe k).enable = (s.probe k).enable := by
    intro k
    rw [takeReading_eq, raise_probe]
    by_cases same : k = c
    · subst same; simp
    · rw [State.modProbe_probe_ne _ _ _ _ same]
  obtain ⟨d, next, on, order⟩ := nextConversion_of_enabled ((enables c).trans enabled)
  simp only [enables] at on order
  have done : s.conversionDone x = { s.takeReading c x with scan := some { channel := d, discard := false } } := by
    simp only [State.conversionDone, scan]
    rw [if_pos ⟨trivial, enabled⟩, next]
  refine ⟨_, d, congrArg Host.Outcome.next done, ?_, fun k other => ?_, rfl, on, order, ?_, ?_⟩
  · change (s.takeReading c x).probe c = _
    rw [takeReading_eq, raise_probe, State.modProbe_probe_self, enabled]
  · change (s.takeReading c x).probe k = _
    rw [takeReading_eq, raise_probe, State.modProbe_probe_ne _ _ _ _ other]
  · have raised := raise_portsRaised (s.modProbe c fun q =>
      { q with reading := max (-400) (min x 700)
               condition := if -300 ≤ x ∧ x ≤ 550 then .valid else .fault }) .probeFault
        (if (x < -300 ∨ 550 < x) ∧ (s.probe c).condition ≠ .fault then [.ta, .tb] else [])
    rw [← takeReading_eq] at raised
    exact raised
  · have only := raise_ports_only (s.modProbe c fun q =>
      { q with reading := max (-400) (min x 700)
               condition := if -300 ≤ x ∧ x ≤ 550 then .valid else .fault }) .probeFault
        (if (x < -300 ∨ 550 < x) ∧ (s.probe c).condition ≠ .fault then [.ta, .tb] else [])
    rw [← takeReading_eq] at only
    exact congrArg (fun t : State => { t with probes := s.probes, scan := s.scan, ports := s.ports }) only

end Sys2Proof.Machine
end

section
/-! PROOFS. What an event on one arm leaves of the others: the operations of the load cycle change the arm that they are made
on, the stations, the bus, the notices, the trace and the header; the wait list is served to the arms on it alone. -/

namespace Sys2Proof.Machine

/-! ## Changes of a load that keep its lines and volumes -/

/-- What the ticks of a load add up, with its number. -/
def LoadData.volumes (d : LoadData) : Nat × Nat × Nat × Nat × Nat × Nat × Bool × Nat :=
  (d.number, d.product, d.gasoline, d.ethanol, d.gasolineNet, d.ethanolNet, d.tempSubstituted, d.overrun)

/-- A change of a load that leaves its lines, its recipe and its volumes, and an ADDITIVE_FAULT. -/
structure Load.Kept (l m : Load) : Prop where
  lines : m.lines = l.lines
  recipe : m.recipe = l.recipe
  volumes : m.data.volumes = l.data.volumes
  fault : l.data.faults.additiveFault = true → m.data.faults.additiveFault = true

namespace Load.Kept

theorem refl (l : Load) : l.Kept l := ⟨rfl, rfl, rfl, id⟩

theorem trans {l m n : Load} (h : l.Kept m) (k : m.Kept n) : l.Kept n :=
  ⟨k.lines.trans h.lines, k.recipe.trans h.recipe, k.volumes.trans h.volumes, k.fault ∘ h.fault⟩

theorem applyPending (l : Load) : l.Kept l.applyPending := by
  unfold Load.applyPending
  cases l.data.pending <;> exact ⟨rfl, rfl, rfl, id⟩

theorem adjustFlushEnd (l : Load) : l.Kept l.adjustFlushEnd := by
  unfold Load.adjustFlushEnd
  split <;> exact ⟨rfl, rfl, rfl, id⟩

theorem closed (l : Load) : l.Kept l.closed := by
  refine trans ?_ (applyPending _)
  exact ⟨rfl, rfl, rfl, id⟩

theorem heldFrom (r : ResumePhase) (l : Load) : l.Kept (l.heldFrom r) := by
  refine trans ?_ (applyPending _)
  exact ⟨rfl, rfl, rfl, id⟩

theorem flushed (k : FlushKind) (l : Load) : l.Kept (l.flushed k) := by
  refine trans (trans ?_ (applyPending _)) (adjustFlushEnd _)
  exact ⟨rfl, rfl, rfl, id⟩

theorem amend (v : Nat) (l : Load) : l.Kept (l.amend v) := ⟨rfl, rfl, rfl, id⟩

theorem setDue (e : EndStatus) (l : Load) : l.Kept (l.setDue e) := by
  unfold Load.setDue
  split <;> exact ⟨rfl, rfl, rfl, id⟩

theorem atTrimPoint (l : Load) : l.Kept l.atTrimPoint := .trans (applyPending l) ⟨rfl, rfl, rfl, id⟩

theorem setFlag (n : Fin 2) (b : Bool) (l : Load) : l.Kept { l with data := l.data.setFlag n b } := by
  unfold LoadData.setFlag
  split <;> exact ⟨rfl, rfl, rfl, id⟩

end Load.Kept

/-! ## Operations made on the arms of a set -/

/-- A property of states that the moves of the arms of the set `A` keep: arms and loads change but for lines and volumes,
lines are withdrawn and set again, shares left, granted and asked for. -/
structure Moves (A : Fin 8 → Prop) (P : State → Prop) : Prop where
  move : ∀ {s : State} {b : Fin 8} (f : Arm → Arm) (g : Load → Load), A b → P s →
    (f (s.arm b)).load = (s.arm b).load.map g → (∀ l : Load, l.Kept (g l)) → P (s.modArm b f)
  drop : ∀ {s : State} {b : Fin 8}, A b → P s → P (s.dropShares b)
  grant : ∀ {s : State} {b : Fin 8} (n : Nat), A b → P s → P (s.modHeader fun h => h.grant b n)
  queue : ∀ {s : State} {b : Fin 8} (n : Nat) (t : Timer), A b → P s →
    P (s.modHeader fun h => { h with wait := h.wait ++ [{ arm := b, shares := n, timer := t }] })
  page : ∀ {s : State} {b : Fin 8} (f : TracePage → TracePage), A b → P s → P (s.modPage b f)
  raise : ∀ {s : State} (n : Notice) (ps : List Port), n = .checkpoint ∨ n = .overrun → P s → P (s.raise n ps)
  withdrawLine : ∀ {s : State} {b : Fin 8} (keep : Bool) (i : Nat), A b → P s → P (s.withdrawLine b keep i)
  requeueLine : ∀ {s : State} {b : Fin 8} (i : Nat), A b → P s → P (s.requeueLine b i)

/-- Such a property that the serving of the wait list keeps as well: every arm on it belongs to `A`. -/
structure Serves (A : Fin 8 → Prop) (P : State → Prop) : Prop extends Moves A P where
  head : ∀ {s : State} {w : Waiter} {rest : List Waiter}, P s → s.header.wait = w :: rest →
    A w.arm ∧ P (s.modHeader fun h => ({ h with wait := rest } : Header).grant w.arm w.shares)

/-- Such a property that any change of a line, a station and the bus keeps. -/
structure ActsOn (A : Fin 8 → Prop) (P : State → Prop) : Prop extends Moves A P where
  modLine : ∀ {s : State} {b : Fin 8} (i : Nat) (f : Line → Line), A b → P s → P (s.modLine b i f)
  station : ∀ {s : State} (st : Fin 4) (f : Station → Station), P s → P (s.modStation st f)
  bus : ∀ {s : State} (x : Bus), P s → P { s with bus := x }

/-- All of these. -/
structure MadeOn (A : Fin 8 → Prop) (P : State → Prop) : Prop extends ActsOn A P, Serves A P

/-- A property of states that changes of the arms of `A` but for volumes, any changes of lines, of the stations and the bus
keep. -/
structure LinesActOn (A : Fin 8 → Prop) (P : State → Prop) : Prop where
  move : ∀ {s : State} {b : Fin 8} (f : Arm → Arm) (g : Load → Load), A b → P s →
    (f (s.arm b)).load = (s.arm b).load.map g → (∀ l : Load, l.Kept (g l)) → P (s.modArm b f)
  modLine : ∀ {s : State} {b : Fin 8} (i : Nat) (f : Line → Line), A b → P s → P (s.modLine b i f)
  drop : ∀ {s : State} {b : Fin 8}, A b → P s → P (s.dropShares b)
  grant : ∀ {s : State} {b : Fin 8} (n : Nat), A b → P s → P (s.modHeader fun h => h.grant b n)
  queue : ∀ {s : State} {b : Fin 8} (n : Nat) (t : Timer), A b → P s →
    P (s.modHeader fun h => { h with wait := h.wait ++ [{ arm := b, shares := n, timer := t }] })
  station : ∀ {s : State} (st : Fin 4) (f : Station → Station), P s → P (s.modStation st f)
  bus : ∀ {s : State} (x : Bus), P s → P { s with bus := x }
  page : ∀ {s : State} {b : Fin 8} (f : TracePage → TracePage), A b → P s → P (s.modPage b f)
  raise : ∀ {s : State} (n : Notice) (ps : List Port), n = .checkpoint ∨ n = .overrun → P s → P (s.raise n ps)

/-- A property of states that any change of the arms of `A`, of the stations and the bus keeps. -/
structure AnyActsOn (A : Fin 8 → Prop) (P : State → Prop) : Prop where
  arm : ∀ {s : State} {b : Fin 8} (f : Arm → Arm), A b → P s → P (s.modArm b f)
  drop : ∀ {s : State} {b : Fin 8}, A b → P s → P (s.dropShares b)
  grant : ∀ {s : State} {b : Fin 8} (n : Nat), A b → P s → P (s.modHeader fun h => h.grant b n)
  queue : ∀ {s : State} {b : Fin 8} (n : Nat) (t : Timer), A b → P s →
    P (s.modHeader fun h => { h with wait := h.wait ++ [{ arm := b, shares := n, timer := t }] })
  station : ∀ {s : State} (st : Fin 4) (f : Station → Station), P s → P (s.modStation st f)
  bus : ∀ {s : State} (x : Bus), P s → P { s with bus := x }
  page : ∀ {s : State} {b : Fin 8} (f : TracePage → TracePage), A b → P s → P (s.modPage b f)
  raise : ∀ {s : State} (n : Notice) (ps : List Port), n = .checkpoint ∨ n = .overrun → P s → P (s.raise n ps)

/-- Such a property that the serving of the wait list keeps as well. -/
structure AnyMadeOn (A : Fin 8 → Prop) (P : State → Prop) : Prop extends AnyActsOn A P where
  head : ∀ {s : State} {w : Waiter} {rest : List Waiter}, P s → s.header.wait = w :: rest →
    A w.arm ∧ P (s.modHeader fun h => ({ h with wait := rest } : Header).grant w.arm w.shares)

/-! ### Stations and the bus -/

/-- The changes of the stations and the bus that the lines make. -/
structure OnStations (P : State → Prop) : Prop where
  station : ∀ {s : State} (st : Fin 4) (f : Station → Station), P s → P (s.modStation st f)
  bus : ∀ {s : State} (x : Bus), P s → P { s with bus := x }

namespace OnStations

variable {P : State → Prop} (h : OnStations P) {s : State}
include h

theorem arbitrate (hs : P s) : P s.arbitrate := by
  unfold State.arbitrate
  refine Leaving.ite (fun _ => hs) fun _ => ?_
  split
  · exact hs
  · exact h.bus _ (h.station _ _ hs)

theorem gainRequest (st : Fin 4) (hs : P s) : P (s.gainRequest st) := h.arbitrate (h.station _ _ hs)

theorem dropEntry (st : Fin 4) (b : Fin 8) (hs : P s) : P (s.dropEntry st b) :=
  h.bus _ (h.station _ _ (h.station _ _ hs))

theorem appendEntry (st : Fin 4) (e : QueueEntry) (hs : P s) : P (s.appendEntry st e) :=
  Leaving.ite (fun _ => h.gainRequest _ (h.station _ _ hs)) fun _ => h.station _ _ hs

end OnStations

namespace LinesActOn

variable {A : Fin 8 → Prop} {P : State → Prop} (h : LinesActOn A P) {s : State}
include h

theorem onStations : OnStations P := ⟨h.station, h.bus⟩

theorem withdrawLine {b : Fin 8} (keep : Bool) (i : Nat) (hb : A b) (hs : P s) : P (s.withdrawLine b keep i) := by
  unfold State.withdrawLine
  split
  · exact hs
  · exact Leaving.ite (fun _ => hs) fun _ => h.modLine _ _ hb (h.onStations.dropEntry _ _ hs)

theorem requeueLine {b : Fin 8} (i : Nat) (hb : A b) (hs : P s) : P (s.requeueLine b i) := by
  unfold State.requeueLine
  split
  · exact hs
  · split
    · refine Leaving.ite (fun _ => hs) fun _ => ?_
      have set := fun f => h.modLine i f hb hs
      exact Leaving.ite (fun _ => set _) fun _ => h.onStations.appendEntry _ _ (set _)
    · exact hs
    · exact hs

/-- Such a property is one that the operations keep. -/
theorem actsOn : ActsOn A P :=
  { h with withdrawLine := h.withdrawLine, requeueLine := h.requeueLine }

end LinesActOn

theorem AnyActsOn.modLoad {A : Fin 8 → Prop} {P : State → Prop} (h : AnyActsOn A P) {s : State} {b : Fin 8}
    {f : Load → Load} (hb : A b) (hs : P s) : P (s.modLoad b f) := h.arm _ hb hs

theorem AnyActsOn.modLine {A : Fin 8 → Prop} {P : State → Prop} (h : AnyActsOn A P) {s : State} {b : Fin 8} {i : Nat}
    {f : Line → Line} (hb : A b) (hs : P s) : P (s.modLine b i f) := h.modLoad hb hs

/-- A property that any change of an arm keeps is one that the operations keep. -/
theorem AnyActsOn.actsOn {A : Fin 8 → Prop} {P : State → Prop} (h : AnyActsOn A P) : ActsOn A P :=
  LinesActOn.actsOn
    { h with
      move := fun f _ hb hs _ _ => h.arm f hb hs
      modLine := fun _ _ hb hs => h.modLine hb hs }

/-- Such a property is one that the operations and the serving keep. -/
theorem AnyMadeOn.madeOn {A : Fin 8 → Prop} {P : State → Prop} (h : AnyMadeOn A P) : MadeOn A P :=
  { h.toAnyActsOn.actsOn with head := h.head }

namespace Moves

variable {A : Fin 8 → Prop} {P : State → Prop} (h : Moves A P) {s : State}
include h

/-! ### Loads and lines -/

theorem arm {b : Fin 8} (f : Arm → Arm) (hb : A b) (hs : P s) (same : ∀ x, (f x).load = x.load := by exact fun _ => rfl) :
    P (s.modArm b f) := h.move f id hb hs (by rw [same, Option.map_id]; rfl) Load.Kept.refl

theorem modLoad {b : Fin 8} (g : Load → Load) (hb : A b) (hs : P s)
    (kept : ∀ l : Load, l.Kept (g l) := by exact fun _ => ⟨rfl, rfl, rfl, id⟩) : P (s.modLoad b g) :=
  h.move _ g hb hs rfl kept

theorem appendTrace {b : Fin 8} (c : TraceCause) (hb : A b) (hs : P s) : P (s.appendTrace b c) := by
  unfold State.appendTrace
  split
  · exact hs
  · exact h.page _ hb hs

theorem withdrawLines {b : Fin 8} (keep : Bool) (hb : A b) (hs : P s) : P (s.withdrawLines b keep) :=
  Leaving.foldl _ hs fun _ i ht => h.withdrawLine keep i hb ht

theorem requeueLines {b : Fin 8} (hb : A b) (hs : P s) : P (s.requeueLines b) :=
  Leaving.foldl _ hs fun _ i ht => h.requeueLine i hb ht

theorem addFault {b : Fin 8} (f : FaultSet → FaultSet) (hb : A b) (hs : P s)
    (fault : ∀ x : FaultSet, x.additiveFault = true → (f x).additiveFault = true := by exact fun _ => id) :
    P (s.addFault b f) := h.modLoad _ hb hs fun _ => ⟨rfl, rfl, rfl, fault _⟩

theorem setDue {b : Fin 8} (e : EndStatus) (hb : A b) (hs : P s) : P (s.setDue b e) := h.modLoad _ hb hs (.setDue e)

theorem supplyFault {b : Fin 8} (hb : A b) (hs : P s) : P (s.supplyFault b) := h.setDue _ hb (h.addFault _ hb hs)

/-! ### CLOSING, HELD and FLUSH -/

theorem enterClosing {b : Fin 8} (hb : A b) (hs : P s) : P (s.enterClosing b) :=
  h.appendTrace _ hb (h.withdrawLines _ hb (h.drop hb (h.modLoad _ hb (h.arm _ hb hs) .closed)))

theorem enterHeld {b : Fin 8} (r : ResumePhase) (hb : A b) (hs : P s) : P (s.enterHeld b r) :=
  h.appendTrace _ hb (h.withdrawLines _ hb (h.drop hb (h.modLoad _ hb (h.arm _ hb hs) (.heldFrom r))))

theorem closeIfFlushed {b : Fin 8} (hb : A b) (hs : P s) : P (s.closeIfFlushed b) :=
  Leaving.ite (fun _ => h.enterClosing hb hs) fun _ => hs

theorem enterFlush {b : Fin 8} (k : FlushKind) (hb : A b) (hs : P s) : P (s.enterFlush b k) := by
  unfold State.enterFlush
  split
  · exact hs
  · exact h.closeIfFlushed hb
      (h.appendTrace _ hb (h.withdrawLines _ hb (h.drop hb (h.modLoad _ hb (h.arm _ hb hs) (.flushed k)))))

theorem cutFlush {b : Fin 8} (e : EndStatus) (hb : A b) (hs : P s) : P (s.cutFlush b e) :=
  h.enterFlush _ hb (h.setDue _ hb hs)

theorem resumeFlush {b : Fin 8} (hb : A b) (hs : P s) : P (s.resumeFlush b) := by
  unfold State.resumeFlush
  split
  · exact hs
  · exact h.closeIfFlushed hb (h.appendTrace _ hb (h.modLoad _ hb (h.arm _ hb hs)))

theorem addCauses {b : Fin 8} (c : HoldCauses) (hb : A b) (hs : P s) : P (s.addCauses b c) := by
  unfold State.addCauses
  refine Leaving.ite (fun _ => hs) fun _ => ?_
  have joined := h.modLoad (fun l => { l with data := { l.data with causes := l.data.causes.union c } }) hb hs
  dsimp only
  split
  case h_1 => exact joined
  case h_2 => exact hs
  case h_3 => exact hs
  all_goals exact h.enterHeld _ hb joined

theorem fireEvent {b : Fin 8} (ev : EventKind) (hb : A b) (hs : P s) : P (s.fireEvent b ev) := by
  unfold State.fireEvent
  split
  · exact hs
  · exact Leaving.ite (fun _ => h.addCauses _ hb (h.raise _ _ (.inl rfl) (h.modLoad _ hb hs))) fun _ => hs

theorem fireIfFirst {b : Fin 8} (first : Bool) (hb : A b) (hs : P s) : P (s.fireIfFirst b first) :=
  Leaving.ite (fun _ => h.fireEvent _ hb hs) fun _ => hs

/-! ### The blending phases -/

theorem enterRamp {b : Fin 8} (hb : A b) (hs : P s) : P (s.enterRamp b) := by
  unfold State.enterRamp
  split
  · exact hs
  · exact h.appendTrace _ hb (h.requeueLines hb (h.modLoad _ hb (h.arm _ hb hs)))

theorem enterTaperAtStep {b : Fin 8} (hb : A b) (hs : P s) : P (s.enterTaperAtStep b) := by
  unfold State.enterTaperAtStep
  split
  · exact hs
  · exact h.fireIfFirst _ hb (h.appendTrace _ hb (h.requeueLines hb (h.modLoad _ hb (h.arm _ hb hs))))

theorem enterTaperFromRun {b : Fin 8} (hb : A b) (hs : P s) : P (s.enterTaperFromRun b) := by
  unfold State.enterTaperFromRun
  split
  · exact hs
  · exact h.fireIfFirst _ hb (h.appendTrace _ hb (h.modLoad _ hb (h.arm _ hb hs)))

theorem goToTarget {b : Fin 8} (w : WaitTarget) (hb : A b) (hs : P s) : P (s.goToTarget b w) := by
  cases w with
  | ramp => exact h.enterRamp hb hs
  | taper => exact h.enterTaperAtStep hb hs

theorem enterShareWait {b : Fin 8} (w : WaitTarget) (n : Nat) (hb : A b) (hs : P s) : P (s.enterShareWait b w n) :=
  h.appendTrace _ hb (h.queue _ _ hb (h.modLoad _ hb (h.arm _ hb hs)))

theorem requestShares {b : Fin 8} (w : WaitTarget) (hb : A b) (hs : P s) : P (s.requestShares b w) := by
  unfold State.requestShares
  split
  · exact hs
  · exact Leaving.ite (fun _ => h.goToTarget w hb hs) fun _ =>
      Leaving.ite (fun _ => h.enterClosing hb (h.supplyFault hb hs)) fun _ =>
        Leaving.ite (fun _ => h.goToTarget w hb (h.grant _ hb hs)) fun _ => h.enterShareWait w _ hb hs

theorem leavePrime {b : Fin 8} (hb : A b) (hs : P s) : P (s.leavePrime b) := by
  unfold State.leavePrime
  split
  · exact hs
  · exact h.fireEvent _ hb (Leaving.ite (fun _ => h.enterClosing hb hs) fun _ =>
      Leaving.ite (fun _ => h.enterFlush _ hb hs) fun _ =>
        Leaving.ite (fun _ => h.requestShares _ hb hs) fun _ => h.requestShares _ hb hs)

theorem resumePrime {b : Fin 8} (hb : A b) (hs : P s) : P (s.resumePrime b) := by
  unfold State.resumePrime
  split
  · exact hs
  · dsimp only
    have resumed := fun f same => h.appendTrace .phase hb (h.modLoad (fun l => { l with resume := none }) hb (h.arm f hb hs same))
    exact Leaving.ite (fun _ => h.leavePrime hb (resumed _ fun _ => rfl)) fun _ => resumed _ fun _ => rfl

theorem resumeBlending {b : Fin 8} (toTaper : Bool) (hb : A b) (hs : P s) : P (s.resumeBlending b toTaper) := by
  unfold State.resumeBlending
  split
  · exact hs
  · exact Leaving.ite (fun _ => h.enterClosing hb hs) fun _ =>
      Leaving.ite (fun _ => h.enterFlush _ hb hs) fun _ =>
        Leaving.ite (fun _ => h.requestShares _ hb hs) fun _ => h.requestShares _ hb hs

theorem leaveHeld {b : Fin 8} (hb : A b) (hs : P s) : P (s.leaveHeld b) := by
  unfold State.leaveHeld
  split
  · exact hs
  · have stopped := h.arm (fun x => { x with hold := .stopped }) hb hs
    refine Leaving.ite (fun _ => h.enterClosing hb stopped) fun _ => ?_
    split
    case h_1 => exact stopped
    case h_2 => exact h.resumePrime hb stopped
    case h_6 => exact h.resumeFlush hb stopped
    all_goals exact h.resumeBlending _ hb stopped

theorem removeCause {b : Fin 8} (c : HoldCause) (hb : A b) (hs : P s) : P (s.removeCause b c) := by
  have removed := h.modLoad (fun l => { l with data := { l.data with causes := l.data.causes.put false c } }) hb hs
  unfold State.removeCause
  dsimp only
  split
  · exact removed
  · exact Leaving.ite (fun _ => h.leaveHeld hb removed) fun _ => removed

/-! ### A grant received, and the revisions -/

theorem receiveGrant {b : Fin 8} (hb : A b) (hs : P s) : P (s.receiveGrant b) := by
  unfold State.receiveGrant
  split
  · exact hs
  · exact Leaving.ite (fun _ => h.enterClosing hb hs) fun _ =>
      Leaving.ite (fun _ => h.enterFlush _ hb hs) fun _ =>
        Leaving.ite (fun _ => h.enterTaperAtStep hb hs) fun _ => h.enterRamp hb hs

theorem bumpRevisions (s0 : State) (all : ∀ b, A b) (hs : P s) : P (State.bumpRevisions s0 s) :=
  Leaving.foldl _ hs fun _ b ht => Leaving.ite (fun _ => h.modLoad _ (all b) ht) fun _ => ht

/-! ### Ticks -/

theorem rampStep {b : Fin 8} (hb : A b) (hs : P s) : P (s.rampStep b) := by
  unfold State.rampStep
  split
  · exact hs
  · split
    · exact hs
    · exact Leaving.ite (fun _ => h.appendTrace _ hb (h.arm _ hb hs)) fun _ => h.arm _ hb hs

theorem taperStep {b : Fin 8} (hb : A b) (hs : P s) : P (s.taperStep b) := by
  unfold State.taperStep
  split
  · exact hs
  · exact h.arm _ hb hs

theorem trimWork {b : Fin 8} (hb : A b) (hs : P s) : P (s.trimWork b) := by
  unfold State.trimWork
  split
  · exact hs
  · dsimp only
    have worked := fun f same => h.appendTrace .trim hb
      (h.modLoad (fun l => l.trimmed (s.arm b).ethanolOpening) hb (h.arm f hb hs same))
    exact Leaving.ite (fun _ => h.cutFlush _ hb (h.addFault _ hb (worked _ fun _ => rfl))) fun _ => worked _ fun _ => rfl

theorem evaluatePoints {b : Fin 8} (hb : A b) (hs : P s) : P (s.evaluatePoints b) := by
  unfold State.evaluatePoints
  split
  · exact hs
  · refine Leaving.ite (fun _ => h.enterClosing hb hs) fun _ => Leaving.ite (fun _ => h.enterFlush _ hb hs) fun _ => ?_
    split
    case h_1 => exact Leaving.ite (fun _ => h.leavePrime hb hs) fun _ => hs
    case h_2 => exact Leaving.ite (fun _ => h.enterTaperFromRun hb hs) fun _ => h.rampStep hb hs
    case h_3 => exact Leaving.ite (fun _ => h.enterTaperFromRun hb hs) fun _ => hs
    case h_4 => exact h.taperStep hb hs
    all_goals exact hs

theorem flowSteps {b : Fin 8} (hb : A b) (hs : P s) : P (s.flowSteps b) := by
  have evaluated := h.evaluatePoints hb (h.modLoad Load.atTrimPoint hb hs .atTrimPoint)
  exact Leaving.ite (fun _ => Leaving.ite (fun _ => h.trimWork hb evaluated) fun _ => evaluated) fun _ =>
    h.evaluatePoints hb hs

/-! ### Requests on a load -/

theorem stopFlush {b : Fin 8} (l : Load) (hb : A b) (hs : P s) : P (s.stopFlush b l) := by
  unfold State.stopFlush
  split
  · exact hs
  · refine Leaving.ite (fun _ => ?_) fun _ => hs
    have lowered := fun f kept => h.setDue .stopped hb (h.modLoad f hb hs kept)
    exact Leaving.ite (fun _ => h.enterClosing hb (lowered _ fun _ => ⟨rfl, rfl, rfl, id⟩)) fun _ =>
      lowered _ fun _ => ⟨rfl, rfl, rfl, id⟩

theorem stopArm {b : Fin 8} (l : Load) (hb : A b) (hs : P s) : P (s.stopArm b l) := by
  have closed := h.enterClosing hb (h.setDue .stopped hb hs)
  unfold State.stopArm
  split
  case h_4 => exact closed
  case h_5 => exact closed
  case h_6 => exact closed
  case h_7 => exact h.stopFlush l hb hs
  case h_8 => exact hs
  case h_9 => exact hs
  all_goals exact h.cutFlush _ hb hs

theorem amendArm {b : Fin 8} (v : Nat) (hb : A b) (hs : P s) : P (s.amendArm b v) := by
  unfold State.amendArm
  split
  case h_5 =>
    have amended := h.modLoad (fun l => l.amend v) hb hs
    dsimp only
    split
    · exact amended
    · exact Leaving.ite (fun _ => h.enterFlush _ hb amended) fun _ => amended
  case h_6 =>
    refine h.modLoad _ hb hs fun l => ?_
    split
    · exact (Load.Kept.amend v _).trans (.adjustFlushEnd _)
    · exact ⟨rfl, rfl, rfl, id⟩
  case h_7 => exact h.modLoad _ hb hs fun _ => (Load.Kept.amend v _).trans (.adjustFlushEnd _)
  case h_8 => exact hs
  case h_9 => exact hs
  all_goals exact h.modLoad _ hb hs

theorem markFlag {b : Fin 8} (l : Load) (n : Fin 2) (hb : A b) (hs : P s) : P (s.markFlag b l n) :=
  Leaving.ite (fun _ => hs) fun _ => h.raise _ _ (.inl rfl) (h.modLoad _ hb hs (.setFlag n true))

theorem supplyLostArm {b : Fin 8} (hb : A b) (hs : P s) : P (s.supplyLostArm b) := by
  have flushed := h.enterFlush .cut hb (h.supplyFault hb hs)
  have marked := h.modLoad (fun l => { l with supplyLost := true }) hb (h.supplyFault hb hs)
  unfold State.supplyLostArm
  split
  · exact hs
  · refine Leaving.ite (fun _ => hs) fun _ => ?_
    split
    case h_4 => exact h.enterClosing hb (h.supplyFault hb hs)
    case h_5 =>
      split
      case h_5 => exact hs
      case h_6 => exact hs
      case h_7 => exact hs
      all_goals exact marked
    case h_6 => exact Leaving.ite (fun _ => h.addFault _ hb hs) fun _ => hs
    case h_7 => exact hs
    case h_8 => exact hs
    case h_9 => exact hs
    all_goals exact flushed

end Moves

namespace Serves

variable {A : Fin 8 → Prop} {P : State → Prop} (h : Serves A P) {s : State}
include h

/-! ### The serving of the wait list -/

theorem serveUpTo : ∀ (n : Nat) {s : State}, P s → P (State.serveUpTo n s)
  | 0, _, hs => hs
  | n + 1, s, hs => by
    unfold State.serveUpTo
    split
    · exact hs
    · rename_i head
      refine Leaving.ite (fun _ => ?_) fun _ => hs
      obtain ⟨member, served⟩ := h.head hs head
      exact serveUpTo n (h.receiveGrant member served)

theorem serveAfter (s0 : State) (hs : P s) : P (State.serveAfter s0 s) :=
  Leaving.ite (fun _ => hs) fun _ => h.serveUpTo _ hs

theorem endEvent (s0 : State) (all : ∀ b, A b) (hs : P s) : P (State.endEvent s0 s) :=
  h.bumpRevisions s0 all (h.serveAfter s0 hs)

end Serves

namespace ActsOn

variable {A : Fin 8 → Prop} {P : State → Prop} (h : ActsOn A P) {s : State}
include h

theorem onStations : OnStations P := ⟨h.station, h.bus⟩

/-! ### Shots due -/

theorem placeShot {b : Fin 8} (i : Nat) (st : Fin 4) (n : Nat) (hb : A b) (hs : P s) : P (s.placeShot b i st n).1 := by
  unfold State.placeShot
  dsimp only
  split
  · exact h.onStations.appendEntry _ _ (h.modLine _ _ hb hs)
  · split
    · dsimp only
      exact h.station st _ (h.modLine i _ hb hs)
    · exact h.modLine _ _ hb hs

theorem missOutOfService {b : Fin 8} (i : Nat) (required : Bool) (hb : A b) (hs : P s) :
    P (s.missOutOfService b i required) := by
  have missed := h.modLine i (Line.modCounts LineRecord.fallMissed) hb hs
  exact Leaving.ite (fun _ => h.cutFlush _ hb (h.addFault _ hb missed fun _ _ => rfl)) fun _ => missed

theorem judgeLine {x : State × Bool} {b : Fin 8} (i : Nat) (hb : A b) (hs : P x.1) : P (State.judgeLine x b i).1 := by
  unfold State.judgeLine
  split
  · exact hs
  · split
    · split
      · exact hs
      · split
        · have advanced := fun f => h.modLine i f hb hs
          dsimp only
          split
          · exact h.placeShot _ _ _ hb (advanced _)
          · exact h.missOutOfService _ _ hb (advanced _)
        · exact hs
    · exact hs
    · exact hs

theorem judgeShots {b : Fin 8} (hb : A b) (hs : P s) : P (s.judgeShots b) := by
  have judged : P ([0, 1, 2].foldl (fun x i => State.judgeLine x b i) (s, false)).1 :=
    List.foldlRecOn (motive := fun x : State × Bool => P x.1) _ _ hs fun x ht i _ => h.judgeLine i hb ht
  exact Leaving.ite (fun _ => h.fireEvent _ hb judged) fun _ => judged

theorem judgeVolume {b : Fin 8} (hb : A b) (hs : P s) : P (s.judgeVolume b) := by
  unfold State.judgeVolume
  split
  · exact hs
  · exact Leaving.ite (fun _ => hs) fun _ => h.fireEvent _ hb hs

end ActsOn

end Sys2Proof.Machine
end

section
/-! PROOFS. What an event leaves: the frame that every operation of the load cycle keeps, the arms it spares, and the end of an
event (R15, R106). -/

namespace Sys2Proof.Machine

/-! ## The header allocator, arm by arm (R104 to R108) -/

namespace Header

variable {h : Header} {a b : Fin 8}

/-- An arm that leaves its shares holds none. -/
@[simp] theorem sharesOf_drop_self (h : Header) (a : Fin 8) : ((h.release a).leave a).sharesOf a = 0 := by
  have gone : (h.grants.filter fun g => g.arm != a).find? (fun g => g.arm == a) = none := by
    simp [List.find?_eq_none]
  simp only [sharesOf, release, leave, gone]

/-- Another arm's leaving takes no shares from an arm. -/
theorem sharesOf_drop_ne (ne : b ≠ a) : ((h.release b).leave b).sharesOf a = h.sharesOf a := by
  have same : (h.grants.filter fun g => g.arm != b).find? (fun g => g.arm == a) = h.grants.find? fun g => g.arm == a := by
    rw [List.find?_filter]
    congr
    funext g
    by_cases own : g.arm = a
    · simp [own, ne.symm]
    · simp [own]
  simp only [sharesOf, release, leave, same]

/-- A grant to another arm gives an arm no shares. -/
theorem sharesOf_grant_ne (ne : b ≠ a) (n : Nat) : (h.grant b n).sharesOf a = h.sharesOf a := by
  simp only [sharesOf, grant, List.find?_append]
  cases h.grants.find? fun g => g.arm == a <;> simp [ne]

end Header

/-- The wait list without the arm does not hold it. -/
theorem notListed_drop (s : State) (a : Fin 8) : (s.dropShares a).notListed a := by
  intro w mem
  have stays : w ∈ (s.header.wait.filter fun w => w.arm != a) := mem
  simpa using (List.mem_filter.mp stays).2

/-! ## The frame of an event -/

/-- What every operation of the load cycle leaves: all outside the arms, the trips, the capacity and each port's answer; it sets
flags and clears none. -/
structure State.Frame (s t : State) : Prop where
  elsewhere : s.SameOutsideArms t
  trips : t.trips = s.trips
  capacity : t.header.capacity = s.header.capacity
  answer : ∀ q, (t.port q).answer = (s.port q).answer
  flags : ∀ q n, s.flagged q n = true → t.flagged q n = true

/-- A state is in its own frame. -/
theorem State.Frame.refl (s : State) : s.Frame s :=
  ⟨⟨⟨rfl, rfl, rfl, rfl, rfl, rfl, rfl, rfl, rfl, rfl, rfl⟩, rfl, rfl, rfl⟩, rfl, rfl, fun _ => rfl, fun _ _ => id⟩

/-- A raise leaves the frame. -/
theorem State.Frame.raise {s t : State} (k : s.Frame t) (n : Notice) (ps : List Port) : s.Frame (t.raise n ps) := by
  have only : s.Frame { t.raise n ps with ports := t.ports } := by rw [raise_ports_only]; exact k
  obtain ⟨⟨⟨k1, k2, k3, k4, k5, k6, k7, k8, k9, k10, k11⟩, k12, k13, k14⟩, k15, k16, _, _⟩ := only
  refine ⟨⟨⟨k1, k2, k3, k4, k5, k6, k7, k8, k9, k10, k11⟩, k12, k13, k14⟩, k15, k16, fun q => ?_, fun q m set => ?_⟩
  · rw [raise_answer]
    exact k.answer q
  · rw [raise_flagged, k.flags q m set, Bool.true_or]

/-- Every change of arms, stations and bus keeps the frame. -/
theorem frame_anyMadeOn (s : State) : AnyMadeOn (fun _ => True) s.Frame where
  arm _ _ k := ⟨⟨⟨k.1.1.1, k.1.1.2, k.1.1.3, k.1.1.4, k.1.1.5, k.1.1.6, k.1.1.7, k.1.1.8, k.1.1.9, k.1.1.10, k.1.1.11⟩,
    k.1.2, k.1.3, k.1.4⟩, k.2, k.3, k.4, k.5⟩
  drop _ k := ⟨⟨⟨k.1.1.1, k.1.1.2, k.1.1.3, k.1.1.4, k.1.1.5, k.1.1.6, k.1.1.7, k.1.1.8, k.1.1.9, k.1.1.10, k.1.1.11⟩,
    k.1.2, k.1.3, k.1.4⟩, k.2, k.3, k.4, k.5⟩
  grant _ _ k := ⟨⟨⟨k.1.1.1, k.1.1.2, k.1.1.3, k.1.1.4, k.1.1.5, k.1.1.6, k.1.1.7, k.1.1.8, k.1.1.9, k.1.1.10, k.1.1.11⟩,
    k.1.2, k.1.3, k.1.4⟩, k.2, k.3, k.4, k.5⟩
  queue _ _ _ k := ⟨⟨⟨k.1.1.1, k.1.1.2, k.1.1.3, k.1.1.4, k.1.1.5, k.1.1.6, k.1.1.7, k.1.1.8, k.1.1.9, k.1.1.10, k.1.1.11⟩,
    k.1.2, k.1.3, k.1.4⟩, k.2, k.3, k.4, k.5⟩
  head k _ := ⟨trivial, ⟨⟨k.1.1.1, k.1.1.2, k.1.1.3, k.1.1.4, k.1.1.5, k.1.1.6, k.1.1.7, k.1.1.8, k.1.1.9, k.1.1.10,
    k.1.1.11⟩, k.1.2, k.1.3, k.1.4⟩, k.2, k.3, k.4, k.5⟩
  station _ _ k := ⟨⟨⟨k.1.1.1, k.1.1.2, k.1.1.3, k.1.1.4, k.1.1.5, k.1.1.6, k.1.1.7, k.1.1.8, k.1.1.9, k.1.1.10,
    k.1.1.11⟩, k.1.2, k.1.3, k.1.4⟩, k.2, k.3, k.4, k.5⟩
  bus _ k := ⟨⟨⟨k.1.1.1, k.1.1.2, k.1.1.3, k.1.1.4, k.1.1.5, k.1.1.6, k.1.1.7, k.1.1.8, k.1.1.9, k.1.1.10, k.1.1.11⟩,
    k.1.2, k.1.3, k.1.4⟩, k.2, k.3, k.4, k.5⟩
  page _ _ k := ⟨⟨⟨k.1.1.1, k.1.1.2, k.1.1.3, k.1.1.4, k.1.1.5, k.1.1.6, k.1.1.7, k.1.1.8, k.1.1.9, k.1.1.10, k.1.1.11⟩,
    k.1.2, k.1.3, k.1.4⟩, k.2, k.3, k.4, k.5⟩
  raise n ps _ k := k.raise n ps

/-- So do those made on all arms, with the serving. -/
theorem frame_madeOn (s : State) : MadeOn (fun _ => True) s.Frame := (frame_anyMadeOn s).madeOn

/-- Every change of arms, stations and bus leaves TRIP as it is on each port. -/
theorem trip_anyMadeOn (s : State) : AnyMadeOn (fun _ => True) fun t => ∀ p, t.flagged p .trip = s.flagged p .trip where
  arm _ _ k := k
  drop _ k := k
  grant _ _ k := k
  queue _ _ _ k := k
  head k _ := ⟨trivial, k⟩
  station _ _ k := k
  bus _ k := k
  page _ _ k := k
  raise n ps other k p := by
    have ne : Notice.trip ≠ n := by rcases other with rfl | rfl <;> decide
    rw [raise_flagged, decide_eq_false ne, Bool.and_false, Bool.or_false]
    exact k p

/-- So do those made on all arms, with the serving. -/
theorem trip_madeOn (s : State) : MadeOn (fun _ => True) fun t => ∀ p, t.flagged p .trip = s.flagged p .trip :=
  (trip_anyMadeOn s).madeOn

/-! ## The arms that an event spares -/

/-- Every change of other arms, of stations and the bus leaves an arm and its shares. -/
theorem untouched_anyActsOn (a : Fin 8) (s : State) :
    AnyActsOn (· ≠ a) fun t => t.arm a = s.arm a ∧ t.header.sharesOf a = s.header.sharesOf a where
  arm f ne k := ⟨(State.modArm_arm_ne _ _ f _ (Ne.symm ne)).trans k.1, k.2⟩
  drop ne k := ⟨k.1, (Header.sharesOf_drop_ne ne).trans k.2⟩
  grant n ne k := ⟨k.1, (Header.sharesOf_grant_ne ne n).trans k.2⟩
  queue _ _ _ k := k
  station _ _ k := k
  bus _ k := k
  page _ _ k := k
  raise n ps _ k := by
    rename_i t _
    exact ⟨(raise_kept (fun u => u.arm a) (fun _ _ _ => rfl) n ps t).trans k.1,
      (raise_kept (fun u => u.header.sharesOf a) (fun _ _ _ => rfl) n ps t).trans k.2⟩

/-- Such operations as the load cycle has. -/
theorem untouched_actsOn (a : Fin 8) (s : State) :
    ActsOn (· ≠ a) fun t => t.arm a = s.arm a ∧ t.header.sharesOf a = s.header.sharesOf a := (untouched_anyActsOn a s).actsOn


/-- An arm that waits for no shares is as it was, with its shares, and still waits for none. -/
structure State.Spares (a : Fin 8) (s t : State) : Prop where
  arm : t.arm a = s.arm a
  shares : t.header.sharesOf a = s.header.sharesOf a
  listed : t.notListed a

/-- Every change of other arms, of stations and the bus spares an arm that waits for no shares. -/
theorem spares_anyMadeOn (a : Fin 8) (s : State) : AnyMadeOn (· ≠ a) (State.Spares a s) where
  arm f ne k := ⟨(State.modArm_arm_ne _ _ f _ (Ne.symm ne)).trans k.arm, k.shares, k.listed⟩
  drop ne k := ⟨k.arm, (Header.sharesOf_drop_ne ne).trans k.shares, fun w mem => k.listed w (List.mem_filter.mp mem).1⟩
  grant n ne k := ⟨k.arm, (Header.sharesOf_grant_ne ne n).trans k.shares, k.listed⟩
  queue n t ne k := by
    refine ⟨k.arm, k.shares, fun w mem => ?_⟩
    rcases List.mem_append.mp mem with mem | mem
    · exact k.listed w mem
    · obtain rfl := List.mem_singleton.mp mem
      exact ne
  head k waits := by
    rename_i u w rest
    have other : w.arm ≠ a := k.listed w (by rw [waits]; exact List.mem_cons_self)
    exact ⟨other, k.arm, (Header.sharesOf_grant_ne (h := { u.header with wait := rest }) other w.shares).trans k.shares,
      fun x mem => k.listed x (by rw [waits]; exact List.mem_cons_of_mem _ mem)⟩
  station _ _ k := ⟨k.arm, k.shares, k.listed⟩
  bus _ k := ⟨k.arm, k.shares, k.listed⟩
  page _ _ k := ⟨k.arm, k.shares, k.listed⟩
  raise n ps _ k := by
    rename_i t _
    have only : State.Spares a s { t.raise n ps with ports := t.ports } := by rw [raise_ports_only]; exact k
    exact ⟨only.arm, only.shares, only.listed⟩

/-- Such operations as the load cycle has. -/
theorem spares_madeOn (a : Fin 8) (s : State) : MadeOn (· ≠ a) (State.Spares a s) := (spares_anyMadeOn a s).madeOn

/-- The serving at the end of an event spares an arm that waits for no shares. -/
theorem serveAfter_spares {a : Fin 8} (s0 : State) {s : State} (unlisted : s.notListed a) :
    s.Spares a (State.serveAfter s0 s) :=
  (spares_madeOn a s).serveAfter s0 ⟨rfl, rfl, unlisted⟩

/-! ## The revisions at the end of an event (R15) -/

/-- The arm with its load's revision advanced. -/
def Arm.bumped (x : Arm) : Arm := { x with load := x.load.map Load.bump }

/-- The arms whose loads' parts have changed have their revisions advanced, each once. -/
theorem bumped_arm (c : Fin 8 → Bool) (a : Fin 8) : ∀ (xs : List (Fin 8)) (s : State), xs.Nodup →
    (xs.foldl (fun t b => if c b then t.modLoad b Load.bump else t) s).arm a =
      if a ∈ xs ∧ c a = true then (s.arm a).bumped else s.arm a
  | [], _, _ => by simp
  | b :: rest, s, nodup => by
    obtain ⟨fresh, nodup⟩ := List.nodup_cons.mp nodup
    rw [List.foldl_cons, bumped_arm c a rest _ nodup]
    by_cases same : a = b
    · subst same
      cases changed : c a
      · simp [fresh]
      · simp [fresh, Arm.bumped, State.modLoad]
    · have stays : (if c b then s.modLoad b Load.bump else s).arm a = s.arm a := by
        split
        · exact State.modArm_arm_ne _ _ _ _ same
        · rfl
      simp [stays, same]

/-- An arm at the end of an event. -/
theorem bumpRevisions_arm (s0 s : State) (a : Fin 8) :
    (State.bumpRevisions s0 s).arm a = if State.partsChanged s0 s a = true then (s.arm a).bumped else s.arm a := by
  rw [State.bumpRevisions, bumped_arm _ a allArms s (by decide)]
  simp [mem_allArms]

/-- Where the parts of one arm's load alone may have changed, its revision alone advances. -/
theorem bumpRevisions_of_others {s0 s : State} {a : Fin 8} (others : ∀ b, b ≠ a → State.partsChanged s0 s b = false) :
    State.bumpRevisions s0 s = if State.partsChanged s0 s a = true then s.modLoad a Load.bump else s := by
  have only : (fun b => State.partsChanged s0 s b) = fun b => decide (b = a) && State.partsChanged s0 s a := by
    funext b
    by_cases same : b = a
    · simp [same]
    · simp [same, others b same]
  have single : ∀ x : Fin 8, allArms.filter (fun b => decide (b = x)) = [x] := by decide
  have folded := List.foldl_filter (p := fun b => State.partsChanged s0 s b) (f := fun t b => State.modLoad t b Load.bump)
    (l := allArms) (init := s)
  rw [State.bumpRevisions, ← folded, only]
  cases State.partsChanged s0 s a
  · simp
  · simp [single]

/-- The five parts do not change where arm and load do not. -/
theorem partsChanged_of_arm {s0 s : State} {a : Fin 8} (same : s.arm a = s0.arm a) : State.partsChanged s0 s a = false := by
  have parts : s.revisionParts a = s0.revisionParts a := by simp only [State.revisionParts, State.load?, same]
  rw [State.partsChanged, parts]
  cases s0.revisionParts a <;> simp

/-- Whether the parts of a load have changed. -/
theorem partsChanged_of_loads {s0 s : State} {a : Fin 8} {l m : Load} (before : s0.load? a = some l)
    (after : s.load? a = some m) (number : m.data.number = l.data.number) :
    State.partsChanged s0 s a =
      !(decide (m.data.preset = l.data.preset ∧ m.data.pending = l.data.pending ∧ m.data.causes = l.data.causes ∧
        m.data.flag0 = l.data.flag0 ∧ m.data.flag1 = l.data.flag1 ∧ (s.arm a).state = (s0.arm a).state ∧
        m.resume = l.resume)) := by
  simp only [State.partsChanged, State.revisionParts, before, after, number, beq_self_eq_true, Bool.true_and, bne]
  congr 1
  rw [Bool.eq_iff_iff]
  simp only [beq_iff_eq, Prod.mk.injEq, decide_eq_true_eq, true_and]
  constructor
  · rintro ⟨e1, e2, e3, e4, e5, e6, e7⟩
    exact ⟨e1.symm, e2.symm, e3.symm, e4.symm, e5.symm, e6.symm, e7.symm⟩
  · rintro ⟨e1, e2, e3, e4, e5, e6, e7⟩
    exact ⟨e1.symm, e2.symm, e3.symm, e4.symm, e5.symm, e6.symm, e7.symm⟩

/-- A load whose arm's state has changed. -/
theorem partsChanged_of_state {s0 s : State} {a : Fin 8} {l m : Load} (before : s0.load? a = some l)
    (after : s.load? a = some m) (number : m.data.number = l.data.number) (moved : (s.arm a).state ≠ (s0.arm a).state) :
    State.partsChanged s0 s a = true := by
  rw [partsChanged_of_loads before after number]
  simp [moved]

/-- The parts changed are those of the two arms. -/
theorem partsChanged_congr {s0 s t : State} {a : Fin 8} (same : t.arm a = s.arm a) :
    State.partsChanged s0 t a = State.partsChanged s0 s a := by
  simp only [State.partsChanged, State.revisionParts, State.load?, same]

/-- An arm that has moved has its load's revision advanced. -/
theorem bumpRevisions_arm_moved {a : Fin 8} {s0 s : State} {l m : Load} (before : s0.load? a = some l)
    (after : s.load? a = some m) (number : m.data.number = l.data.number) (moved : (s.arm a).state ≠ (s0.arm a).state) :
    (State.bumpRevisions s0 s).arm a = { s.arm a with load := some m.bump } := by
  rw [bumpRevisions_arm, if_pos (partsChanged_of_state before after number moved), Arm.bumped,
    show (s.arm a).load = some m from after]
  rfl

/-- The advance of the revisions leaves the wait list. -/
theorem bumpRevisions_notListed {a : Fin 8} {s0 s : State} (unlisted : s.notListed a) :
    (State.bumpRevisions s0 s).notListed a := by
  intro w mem
  rw [State.bumpRevisions_header] at mem
  exact unlisted w mem

/-! ## The end of an event -/

/-- An arm that waits for no shares is spared by the serving at the end of an event. -/
theorem State.Spares.served {a : Fin 8} {s u : State} (h : s.Spares a u) (s0 : State) : s.Spares a (State.serveAfter s0 u) :=
  (spares_madeOn a s).serveAfter s0 h

/-- An arm that waits for no shares at the end of an event. -/
theorem endEvent_arm {a : Fin 8} (s0 : State) {s : State} (unlisted : s.notListed a) :
    (State.endEvent s0 s).arm a = if State.partsChanged s0 s a = true then (s.arm a).bumped else s.arm a := by
  have spared := serveAfter_spares s0 unlisted
  rw [State.endEvent, bumpRevisions_arm, partsChanged_congr spared.arm, spared.arm]

/-- An arm that has moved by the end of an event, and waits for no shares. -/
theorem endEvent_arm_moved {a : Fin 8} {s0 s : State} {l m : Load} (unlisted : s.notListed a)
    (before : s0.load? a = some l) (after : s.load? a = some m) (number : m.data.number = l.data.number)
    (moved : (s.arm a).state ≠ (s0.arm a).state) :
    (State.endEvent s0 s).arm a = { s.arm a with load := some m.bump } := by
  rw [endEvent_arm s0 unlisted, if_pos (partsChanged_of_state before after number moved), Arm.bumped,
    show (s.arm a).load = some m from after]
  rfl

/-- The shares and the place of an arm that waits for none, at the end of an event. -/
theorem endEvent_header {a : Fin 8} (s0 : State) {s : State} (unlisted : s.notListed a) :
    (State.endEvent s0 s).header.sharesOf a = s.header.sharesOf a ∧ (State.endEvent s0 s).notListed a := by
  have spared := serveAfter_spares s0 unlisted
  refine ⟨?_, fun w mem => ?_⟩
  · rw [State.endEvent, State.bumpRevisions_header]
    exact spared.shares
  · rw [State.endEvent, State.bumpRevisions_header] at mem
    exact spared.listed w mem

/-- The frame of an event. -/
theorem endEvent_frame {u s : State} (s0 : State) (k : u.Frame s) : u.Frame (State.endEvent s0 s) :=
  (frame_madeOn u).endEvent s0 (fun _ => trivial) k

/-- An event that leaves the header serves nobody. -/
theorem endEvent_of_header {s0 s : State} (same : s.header = s0.header) :
    State.endEvent s0 s = State.bumpRevisions s0 s := by
  rw [State.endEvent, State.serveAfter, if_pos same]

/-- A head that may not be granted is left. -/
theorem serve_of_blocked {s : State}
    (blocked : ∀ w rest, s.header.wait = w :: rest → s.trips.header = true → ¬ w.shares ≤ s.header.free) : s.serve = s := by
  unfold State.serve
  cases waits : s.header.wait with
  | nil => rfl
  | cons w rest =>
    rw [List.length_cons, State.serveUpTo]
    simp only [waits]
    rw [if_neg fun fits => blocked w rest waits fits.1 fits.2]

/-- An event that leaves nobody to be served. -/
theorem endEvent_of_blocked {s0 s : State}
    (blocked : ∀ w rest, s.header.wait = w :: rest → s.trips.header = true → ¬ w.shares ≤ s.header.free) :
    State.endEvent s0 s = State.bumpRevisions s0 s := by
  rw [State.endEvent, State.serveAfter, serve_of_blocked blocked, ite_self]

/-- An event on one arm that leaves the header. -/
theorem endEvent_of_one {s0 s : State} {a : Fin 8} (same : s.header = s0.header) (others : ∀ b, b ≠ a → s.arm b = s0.arm b) :
    State.endEvent s0 s = if State.partsChanged s0 s a = true then s.modLoad a Load.bump else s := by
  rw [endEvent_of_header same]
  exact bumpRevisions_of_others fun b ne => partsChanged_of_arm (others b ne)

end Sys2Proof.Machine
end

section
/-! PROOFS. What entering CLOSING, HELD and FLUSH makes of an arm and its load (R49 to R51, R57, R58, R63). -/

namespace Sys2Proof.Machine

/-! ## Lines of a withdrawn load (R131) -/

/-- What a withdrawal leaves of a line: its place and what has fallen due; shots may be missed. -/
structure Line.Withdrawn (x y : Line) : Prop where
  boundary : y.nextBoundary = x.nextBoundary
  station : y.counts.station = x.counts.station
  skipped : y.counts.skipped = x.counts.skipped
  due : y.counts.due = x.counts.due
  missed : x.counts.missed ≤ y.counts.missed

/-- Every line of the first list stands withdrawn in the second. -/
def LinesWithdrawn (xs ys : List Line) : Prop := ∀ (i : Nat) (x : Line), xs[i]? = some x → ∃ y, ys[i]? = some y ∧ x.Withdrawn y

namespace LinesWithdrawn

/-- Lines that stay. -/
theorem refl (xs : List Line) : LinesWithdrawn xs xs := fun _ x at_ => ⟨x, at_, rfl, rfl, rfl, rfl, le_refl _⟩

/-- Two withdrawals in a row. -/
theorem trans {xs ys zs : List Line} (h : LinesWithdrawn xs ys) (k : LinesWithdrawn ys zs) : LinesWithdrawn xs zs := by
  intro i x at_
  obtain ⟨y, aty, hy⟩ := h i x at_
  obtain ⟨z, atz, hz⟩ := k i y aty
  exact ⟨z, atz, hz.boundary.trans hy.boundary, hz.station.trans hy.station, hz.skipped.trans hy.skipped,
    hz.due.trans hy.due, hy.missed.trans hz.missed⟩

/-- One line withdrawn. -/
theorem modify {f : Line → Line} (hf : ∀ x : Line, x.Withdrawn (f x)) (xs : List Line) (i : Nat) :
    LinesWithdrawn xs (xs.modify i f) := by
  intro j x at_
  rw [List.getElem?_modify, at_]
  by_cases same : i = j
  · exact ⟨f x, by simp [same], hf x⟩
  · exact ⟨x, by simp [same], rfl, rfl, rfl, rfl, le_refl _⟩

end LinesWithdrawn

/-- Kept shots leave the line's counts. -/
theorem keepShots_withdrawn (n : Nat) (x : Line) : x.Withdrawn (State.keepShots n x) := ⟨rfl, rfl, rfl, rfl, le_refl _⟩

/-- Missed shots add to the missed ones. -/
theorem missShots_withdrawn (n : Nat) (x : Line) : x.Withdrawn (State.missShots n x) :=
  ⟨rfl, rfl, rfl, rfl, Nat.le_add_right _ _⟩

/-- Owed shots are settled by being kept or missed. -/
theorem settleShots_withdrawn (keep : Bool) (n : Nat) (x : Line) :
    x.Withdrawn ((if keep then State.keepShots n else State.missShots n) x) := by
  cases keep
  · exact missShots_withdrawn n x
  · exact keepShots_withdrawn n x

/-- The arm with its load's lines replaced. -/
def Arm.relined (x : Arm) (l : Load) (ls : List Line) : Arm := { x with load := some { l with lines := ls } }

section Withdraw

variable {s : State} {a : Fin 8} {l : Load}

/-- A withdrawn entry leaves every arm. -/
@[simp] theorem dropEntry_arm (s : State) (st : Fin 4) (a b : Fin 8) : (s.dropEntry st a).arm b = s.arm b := rfl

/-- A withdrawn entry leaves the header. -/
@[simp] theorem dropEntry_header (s : State) (st : Fin 4) (a : Fin 8) : (s.dropEntry st a).header = s.header := rfl

/-- A change of one line of an arm's load. -/
theorem modLine_relined (i : Nat) (f : Line → Line) (load : s.load? a = some l) :
    (s.modLine a i f).arm a = (s.arm a).relined l (l.lines.modify i f) := by
  simp only [State.modLine, State.modLoad, State.modArm_arm_self, Arm.relined, show (s.arm a).load = some l from load,
    Option.map_some]

/-- The withdrawal of one line changes the load's lines alone. -/
theorem withdrawLine_arm (keep : Bool) (i : Nat) (load : s.load? a = some l) :
    ∃ ls, LinesWithdrawn l.lines ls ∧ (s.withdrawLine a keep i).arm a = (s.arm a).relined l ls := by
  have unchanged : s.arm a = (s.arm a).relined l l.lines := by
    rw [Arm.relined, ← show (s.arm a).load = some l from load]
  unfold State.withdrawLine
  split
  · exact ⟨_, .refl _, unchanged⟩
  · split
    · exact ⟨_, .refl _, unchanged⟩
    · rename_i x _ _
      refine ⟨_, ?_, modLine_relined (s := s.dropEntry x.counts.station a) i _ load⟩
      exact .modify (settleShots_withdrawn keep _) l.lines i

/-- The withdrawal of one line leaves the header. -/
theorem withdrawLine_header (keep : Bool) (i : Nat) : (s.withdrawLine a keep i).header = s.header := by
  unfold State.withdrawLine
  split
  · rfl
  · split <;> rfl

/-- The withdrawal of every line changes the load's lines alone. -/
theorem withdrawLines_arm (keep : Bool) (load : s.load? a = some l) :
    ∃ ls, LinesWithdrawn l.lines ls ∧ (s.withdrawLines a keep).arm a = (s.arm a).relined l ls := by
  have loadAfter : ∀ {t : State} {ls}, t.arm a = (s.arm a).relined l ls → t.load? a = some { l with lines := ls } := by
    intro t ls arm
    rw [State.load?, arm]
    rfl
  have next : ∀ {t : State} {ls} (i : Nat), LinesWithdrawn l.lines ls → t.arm a = (s.arm a).relined l ls →
      ∃ ks, LinesWithdrawn l.lines ks ∧ (t.withdrawLine a keep i).arm a = (s.arm a).relined l ks := by
    intro t ls i done arm
    obtain ⟨ks, withdrawn, after⟩ := withdrawLine_arm keep i (loadAfter arm)
    exact ⟨ks, done.trans withdrawn, by rw [after, arm]; rfl⟩
  obtain ⟨_, done0, arm0⟩ := withdrawLine_arm keep 0 load
  obtain ⟨_, done1, arm1⟩ := next 1 done0 arm0
  exact next 2 done1 arm1

/-- The withdrawal of every line leaves the header. -/
theorem withdrawLines_header (keep : Bool) : (s.withdrawLines a keep).header = s.header :=
  (withdrawLine_header keep 2).trans ((withdrawLine_header keep 1).trans (withdrawLine_header keep 0))

end Withdraw

/-- A trace record leaves the header. -/
@[simp] theorem appendTrace_header (s : State) (a : Fin 8) (c : TraceCause) : (s.appendTrace a c).header = s.header := by
  unfold State.appendTrace
  split <;> rfl

/-! ## Entries to CLOSING and HELD (R58, R63) -/

/-- The lines have no part in the closing of a load. -/
theorem closed_lines (l : Load) (ls : List Line) :
    ({ l with lines := ls } : Load).closed = { l.closed with lines := ls } := by
  unfold Load.closed Load.applyPending
  cases l.data.pending <;> rfl

/-- Closing leaves a load's lines. -/
@[simp] theorem lines_closed (l : Load) : l.closed.lines = l.lines := by
  unfold Load.closed Load.applyPending
  cases l.data.pending <;> rfl

/-- Holding leaves a load's lines. -/
@[simp] theorem lines_heldFrom (l : Load) (r : ResumePhase) : (l.heldFrom r).lines = l.lines := by
  unfold Load.heldFrom Load.applyPending
  cases l.data.pending <;> rfl

/-- Flushing leaves a load's lines. -/
@[simp] theorem lines_flushed (l : Load) (k : FlushKind) : (l.flushed k).lines = l.lines := by
  unfold Load.flushed Load.applyPending Load.adjustFlushEnd
  cases l.data.pending <;> cases k <;> rfl

section Enter

variable {s : State} {a : Fin 8} {l : Load}

/-- An arm that leaves its shares with its load changed, and withdraws its lines. -/
theorem leave_arm (f : Arm → Arm) (g : Load → Load) (keep : Bool) (c : TraceCause) (load : s.load? a = some l)
    (same : (f (s.arm a)).load = (s.arm a).load) :
    ∃ ls, LinesWithdrawn (g l).lines ls ∧
      (((((s.modArm a f).modLoad a g).dropShares a).withdrawLines a keep).appendTrace a c).arm a =
        (f (s.arm a)).relined (g l) ls := by
  have moved : (((s.modArm a f).modLoad a g).dropShares a).load? a = some (g l) := by
    change ((s.modArm a f).modLoad a g).load? a = _
    rw [State.modLoad_load_self, State.load?_modArm_self, same, show (s.arm a).load = some l from load, Option.map_some]
  obtain ⟨ls, withdrawn, arm⟩ := withdrawLines_arm keep moved
  refine ⟨ls, withdrawn, ?_⟩
  rw [State.appendTrace_arm, arm]
  change Arm.relined (((s.modArm a f).modLoad a g).arm a) _ _ = _
  rw [State.modArm_modLoad, State.modArm_arm_self]
  rfl

/-- The header that such an arm leaves. -/
theorem leave_header (f : Arm → Arm) (g : Load → Load) (keep : Bool) (c : TraceCause) :
    (((((s.modArm a f).modLoad a g).dropShares a).withdrawLines a keep).appendTrace a c).header =
      (s.header.release a).leave a := by
  rw [appendTrace_header, withdrawLines_header]
  rfl

/-- The arm in CLOSING. -/
theorem enterClosing_arm (load : s.load? a = some l) :
    ∃ ls, LinesWithdrawn l.lines ls ∧
      (s.enterClosing a).arm a =
        { s.arm a with
          state := .closing, mainOpening := 0, ethanolOpening := 0, noFlow := .stopped, settle := s.settleStart
          hold := .stopped, load := some { l.closed with lines := ls } } := by
  obtain ⟨ls, withdrawn, arm⟩ := leave_arm (fun x =>
    { x with state := .closing, mainOpening := 0, ethanolOpening := 0, noFlow := .stopped, hold := .stopped,
             settle := s.settleStart }) Load.closed false .phase load rfl
  exact ⟨ls, lines_closed l ▸ withdrawn, arm⟩

/-- The arm in HELD. -/
theorem enterHeld_arm (r : ResumePhase) (load : s.load? a = some l) :
    ∃ ls, LinesWithdrawn l.lines ls ∧
      (s.enterHeld a r).arm a =
        { s.arm a with
          state := .held, mainOpening := 0, ethanolOpening := 0, noFlow := .stopped, hold := s.holdStart
          load := some { l.heldFrom r with lines := ls } } := by
  obtain ⟨ls, withdrawn, arm⟩ := leave_arm (fun x =>
    { x with state := .held, mainOpening := 0, ethanolOpening := 0, noFlow := .stopped, hold := s.holdStart })
    (fun l => l.heldFrom r) true .hold load rfl
  exact ⟨ls, lines_heldFrom l r ▸ withdrawn, arm⟩

/-- The header without the arm that has entered CLOSING. -/
@[simp] theorem enterClosing_header (s : State) (a : Fin 8) : (s.enterClosing a).header = (s.header.release a).leave a :=
  leave_header ..

/-- The header without the arm that has entered HELD. -/
@[simp] theorem enterHeld_header (s : State) (a : Fin 8) (r : ResumePhase) :
    (s.enterHeld a r).header = (s.header.release a).leave a := leave_header ..

/-! ## Entries to FLUSH (R49 to R51) -/

/-- The flush end of a load that enters FLUSH now, a pending amendment applied. -/
def Load.entryEnd (l : Load) : FlushKind → Nat
  | .ordered => l.data.pending.getD l.data.preset
  | .cut => l.cutEnd l.data.product

/-- The flush end that a load has in FLUSH. -/
theorem flushed_flushEnd (l : Load) (k : FlushKind) : (l.flushed k).flushEnd = some (l.entryEnd k) := by
  unfold Load.flushed Load.applyPending Load.adjustFlushEnd Load.entryEnd Load.flushEndAtEntry Load.cutEnd
  cases k <;> cases pending : l.data.pending <;> simp [pending, Load.amend, LoadData.withPreset]

/-- The kind of flush that a load has in FLUSH. -/
theorem flushed_flushKind (l : Load) (k : FlushKind) : (l.flushed k).flushKind = some k := by
  unfold Load.flushed Load.applyPending Load.adjustFlushEnd
  cases k <;> cases l.data.pending <;> rfl

/-- The data of a load in FLUSH: those of a pending amendment applied. -/
theorem flushed_data (l : Load) (k : FlushKind) : (l.flushed k).data = l.amendedData := by
  unfold Load.flushed Load.applyPending Load.adjustFlushEnd Load.amendedData
  cases k <;> cases l.data.pending <;> rfl

/-- The data of a load in HELD. -/
theorem heldFrom_data (l : Load) (r : ResumePhase) : (l.heldFrom r).data = l.amendedData := by
  unfold Load.heldFrom Load.applyPending Load.amendedData
  cases l.data.pending <;> rfl

/-- The data of a load in CLOSING: those of a pending amendment applied, without a hold cause. -/
theorem closed_data (l : Load) : l.closed.data = { l.amendedData with causes := {} } := by
  unfold Load.closed Load.applyPending Load.amendedData
  cases l.data.pending <;> rfl

/-- The preset of a pending amendment applied. -/
theorem amendedData_preset (l : Load) : l.amendedData.preset = l.data.pending.getD l.data.preset := by
  unfold Load.amendedData
  cases l.data.pending <;> rfl

/-- No amendment pends once it has been applied. -/
theorem amendedData_pending (l : Load) : l.amendedData.pending = none := by
  unfold Load.amendedData
  cases pending : l.data.pending
  · exact pending
  · rfl

/-- An amendment applied changes the preset and its points alone. -/
theorem amendedData_eq (l : Load) :
    l.amendedData =
      { l.data with
        preset := l.amendedData.preset, pending := none, blendSpan := l.amendedData.blendSpan
        flushPoint := l.amendedData.flushPoint, taperPoint := l.amendedData.taperPoint
        ethanolTarget := l.amendedData.ethanolTarget } := by
  unfold Load.amendedData
  split
  · rename_i unpended
    rw [← unpended]
  · rfl

/-- What does not look at the preset and its points does not see an amendment applied. -/
theorem amendedData_kept {β : Type} (l : Load) (g : LoadData → β)
    (kept : ∀ (d : LoadData) (preset : Nat) (pending : Option Nat) (span flush taper target : Nat),
      g { d with preset := preset, pending := pending, blendSpan := span, flushPoint := flush, taperPoint := taper
                 ethanolTarget := target } = g d) : g l.amendedData = g l.data := by
  rw [amendedData_eq]
  exact kept ..

/-- The lower of V + F, P and a pending P is the flush end, so a load past its preset is past the end. -/
theorem entryEnd_le_preset (l : Load) (k : FlushKind) : l.entryEnd k ≤ l.amendedData.preset := by
  rw [amendedData_preset]
  cases k
  · exact le_refl _
  · exact Nat.min_le_right _ _

/-- The arm on its way into FLUSH, before its flush end is looked at. -/
def State.flushing (s : State) (a : Fin 8) (l : Load) (k : FlushKind) : State :=
  ((((s.modArm a fun x =>
      { x with state := .flush, mainOpening := l.recipe.taperEndOpening, ethanolOpening := 0,
               noFlow := s.noFlowStart }).modLoad a fun l => l.flushed k).dropShares a).withdrawLines a
                 false).appendTrace a .phase

/-- The arm on its way into FLUSH. -/
theorem flushing_arm (k : FlushKind) (load : s.load? a = some l) :
    ∃ ls, LinesWithdrawn l.lines ls ∧
      (s.flushing a l k).arm a =
        { s.arm a with
          state := .flush, mainOpening := l.recipe.taperEndOpening, ethanolOpening := 0, noFlow := s.noFlowStart
          load := some { l.flushed k with lines := ls } } := by
  obtain ⟨ls, withdrawn, arm⟩ := leave_arm (fun x =>
    { x with state := .flush, mainOpening := l.recipe.taperEndOpening, ethanolOpening := 0, noFlow := s.noFlowStart })
    (fun l => l.flushed k) false .phase load rfl
  exact ⟨ls, lines_flushed l k ▸ withdrawn, arm⟩

/-- The header without the arm that enters FLUSH. -/
theorem flushing_header (l : Load) (k : FlushKind) : (s.flushing a l k).header = (s.header.release a).leave a :=
  leave_header ..

/-- An arm enters FLUSH where its flush end lies above V, and else goes through it into CLOSING. -/
theorem enterFlush_eq (k : FlushKind) (load : s.load? a = some l) :
    s.enterFlush a k =
      if l.entryEnd k ≤ l.data.product then (s.flushing a l k).enterClosing a else s.flushing a l k := by
  obtain ⟨ls, _, arm⟩ := flushing_arm k load
  have loaded : (s.flushing a l k).load? a = some { l.flushed k with lines := ls } := by rw [State.load?, arm]
  have product : l.amendedData.product = l.data.product :=
    amendedData_kept l LoadData.product fun _ _ _ _ _ _ _ => rfl
  have ended : (s.flushing a l k).flushEnded a = decide (l.entryEnd k ≤ l.data.product) := by
    have below := entryEnd_le_preset l k
    simp only [State.flushEnded, loaded, flushed_data, flushed_flushEnd, product]
    by_cases reached : l.entryEnd k ≤ l.data.product
    · simp [reached]
    · simp only [reached, decide_false, Bool.or_false, decide_eq_false_iff_not]
      omega
  have entered : s.enterFlush a k = (s.flushing a l k).closeIfFlushed a := by
    rw [State.enterFlush, load]
    rfl
  rw [entered, State.closeIfFlushed, ended]
  simp only [decide_eq_true_eq]

end Enter

/-! ## The load after a movement of its arm -/

/-- A load whose arm has moved out of the blending phases by an event: its pending amendment applied, its revision advanced once,
its lines withdrawn. -/
structure Load.Moved (l m : Load) (causes : HoldCauses) : Prop where
  data : m.data = { l.amendedData with causes := causes, revision := nextRevision l.data.revision }
  recipe : m.recipe = l.recipe
  endDue : m.endDue = l.endDue
  supplyLost : m.supplyLost = l.supplyLost
  lines : LinesWithdrawn l.lines m.lines

namespace Load.Moved

variable {l m : Load} {c : HoldCauses} (h : l.Moved m c)
include h

theorem number : m.data.number = l.data.number := by
  rw [h.data]; exact amendedData_kept l LoadData.number fun _ _ _ _ _ _ _ => rfl

theorem product : m.data.product = l.data.product := by
  rw [h.data]; exact amendedData_kept l LoadData.product fun _ _ _ _ _ _ _ => rfl

theorem flag0 : m.data.flag0 = l.data.flag0 := by
  rw [h.data]; exact amendedData_kept l LoadData.flag0 fun _ _ _ _ _ _ _ => rfl

theorem flag1 : m.data.flag1 = l.data.flag1 := by
  rw [h.data]; exact amendedData_kept l LoadData.flag1 fun _ _ _ _ _ _ _ => rfl

theorem faults : m.data.faults = l.data.faults := by
  rw [h.data]; exact amendedData_kept l LoadData.faults fun _ _ _ _ _ _ _ => rfl

theorem overrun : m.data.overrun = l.data.overrun := by
  rw [h.data]; exact amendedData_kept l LoadData.overrun fun _ _ _ _ _ _ _ => rfl

theorem deviation : m.data.deviation = l.data.deviation := by
  rw [h.data]; exact amendedData_kept l LoadData.deviation fun _ _ _ _ _ _ _ => rfl

theorem causes : m.data.causes = c := by rw [h.data]

theorem revision : m.data.revision = if 65535 ≤ l.data.revision then 1 else l.data.revision + 1 := by rw [h.data]; rfl

theorem amended : l.amendmentApplied m where
  pending := by rw [h.data]; exact amendedData_pending l
  preset := by rw [h.data]
  blendSpan := by rw [h.data]
  flushPoint := by rw [h.data]
  taperPoint := by rw [h.data]
  ethanolTarget := by rw [h.data]

end Load.Moved

/-- A load whose points are those of another has the other's pending amendment applied. -/
theorem amendmentApplied_of_points {l m k : Load} (h : m.amendmentApplied k) (points : m.amendedData.preset = l.amendedData.preset ∧
    m.amendedData.blendSpan = l.amendedData.blendSpan ∧ m.amendedData.flushPoint = l.amendedData.flushPoint ∧
    m.amendedData.taperPoint = l.amendedData.taperPoint ∧ m.amendedData.ethanolTarget = l.amendedData.ethanolTarget) :
    l.amendmentApplied k := by
  obtain ⟨preset, span, flush, taper, target⟩ := points
  exact ⟨h.pending, h.preset.trans preset, h.blendSpan.trans span, h.flushPoint.trans flush, h.taperPoint.trans taper,
    h.ethanolTarget.trans target⟩

/-- An end status due has no part in the points. -/
theorem setDue_amendedData (l : Load) (e : EndStatus) : (l.setDue e).amendedData = l.amendedData := by
  unfold Load.setDue
  split <;> rfl

/-- The end status due after a cause of an end. -/
theorem setDue_endDue (l : Load) (e : EndStatus) : (l.setDue e).endDue = some (l.endDue.getD e) := by
  unfold Load.setDue
  split
  · rename_i undue
    rw [undue]
    rfl
  · rename_i due
    rw [due]
    rfl

/-- An end status due is all that becomes of the load. -/
theorem setDue_eq (l : Load) (e : EndStatus) : l.setDue e = { l with endDue := some (l.endDue.getD e) } := by
  unfold Load.setDue
  split
  · rename_i undue
    rw [undue]
    rfl
  · rename_i due
    rw [due, Option.getD_some, ← due]

/-! ## Events that move an arm -/

section Event

variable {s0 s : State} {a : Fin 8} {l m : Load}

/-- The load's lines once it is moved. -/
theorem moved_of (data : m.data = { l.amendedData with causes := m.data.causes }) (recipe : m.recipe = l.recipe)
    (endDue : m.endDue = l.endDue) (supplyLost : m.supplyLost = l.supplyLost) {ls : List Line}
    (withdrawn : LinesWithdrawn l.lines ls) : l.Moved ({ m with lines := ls } : Load).bump m.data.causes where
  data := by
    have revision : m.data.revision = l.data.revision :=
      by
      rw [data]; exact amendedData_kept l LoadData.revision fun _ _ _ _ _ _ _ => rfl
    change { m.data with revision := nextRevision m.data.revision } = _
    rw [revision]
    conv_lhs => rw [data]
  recipe := recipe
  endDue := endDue
  supplyLost := supplyLost
  lines := withdrawn

end Event

end Sys2Proof.Machine
end

section
/-! PROOFS. Events that end with an arm in CLOSING, HELD or FLUSH (R15, R49 to R51, R57, R58, R63). -/

namespace Sys2Proof.Machine

/-! ## The arm at the end of the event -/

/-- An arm that has entered CLOSING in the event, as it was at `u` and is at `t`, and its load before and after. -/
structure EndsClosing (u t : State) (a : Fin 8) (l m : Load) : Prop where
  arm : t.arm a =
    { u.arm a with
      state := .closing, mainOpening := 0, ethanolOpening := 0, noFlow := .stopped, settle := u.settleStart
      hold := .stopped, load := some m }
  moved : l.Moved m {}
  resume : m.resume = none
  shares : t.header.sharesOf a = 0
  listed : t.notListed a

/-- An arm that has entered HELD in the event. -/
structure EndsHeld (u t : State) (a : Fin 8) (r : ResumePhase) (l m : Load) : Prop where
  arm : t.arm a =
    { u.arm a with
      state := .held, mainOpening := 0, ethanolOpening := 0, noFlow := .stopped, hold := u.holdStart, load := some m }
  moved : l.Moved m l.data.causes
  resume : m.resume = some r
  waitTarget : m.waitTarget = l.waitTarget
  shares : t.header.sharesOf a = 0
  listed : t.notListed a

/-- An arm that has entered FLUSH in the event. -/
structure EndsFlush (u t : State) (a : Fin 8) (k : FlushKind) (l m : Load) : Prop where
  arm : t.arm a =
    { u.arm a with
      state := .flush, mainOpening := l.recipe.taperEndOpening, ethanolOpening := 0, noFlow := u.noFlowStart
      load := some m }
  moved : l.Moved m l.data.causes
  resume : m.resume = none
  waitTarget : m.waitTarget = none
  flushEnd : m.flushEnd = some (l.entryEnd k)
  flushKind : m.flushKind = some k
  shares : t.header.sharesOf a = 0
  listed : t.notListed a

section Fields

variable {u t : State} {a : Fin 8} {l m : Load} {r : ResumePhase} {k : FlushKind}

theorem EndsClosing.load (h : EndsClosing u t a l m) : t.load? a = some m := by rw [State.load?, h.arm]
theorem EndsClosing.state (h : EndsClosing u t a l m) : (t.arm a).state = .closing := by rw [h.arm]
theorem EndsClosing.main (h : EndsClosing u t a l m) : (t.arm a).mainOpening = 0 := by rw [h.arm]
theorem EndsClosing.ethanol (h : EndsClosing u t a l m) : (t.arm a).ethanolOpening = 0 := by rw [h.arm]
theorem EndsClosing.settle (h : EndsClosing u t a l m) : (t.arm a).settle = u.settleStart := by rw [h.arm]
theorem EndsClosing.noFlow (h : EndsClosing u t a l m) : (t.arm a).noFlow = .stopped := by rw [h.arm]
theorem EndsClosing.hold (h : EndsClosing u t a l m) : (t.arm a).hold = .stopped := by rw [h.arm]
theorem EndsHeld.load (h : EndsHeld u t a r l m) : t.load? a = some m := by rw [State.load?, h.arm]
theorem EndsHeld.state (h : EndsHeld u t a r l m) : (t.arm a).state = .held := by rw [h.arm]
theorem EndsHeld.main (h : EndsHeld u t a r l m) : (t.arm a).mainOpening = 0 := by rw [h.arm]
theorem EndsHeld.ethanol (h : EndsHeld u t a r l m) : (t.arm a).ethanolOpening = 0 := by rw [h.arm]
theorem EndsHeld.hold (h : EndsHeld u t a r l m) : (t.arm a).hold = u.holdStart := by rw [h.arm]
theorem EndsHeld.noFlow (h : EndsHeld u t a r l m) : (t.arm a).noFlow = .stopped := by rw [h.arm]
theorem EndsFlush.load (h : EndsFlush u t a k l m) : t.load? a = some m := by rw [State.load?, h.arm]
theorem EndsFlush.state (h : EndsFlush u t a k l m) : (t.arm a).state = .flush := by rw [h.arm]
theorem EndsFlush.main (h : EndsFlush u t a k l m) : (t.arm a).mainOpening = l.recipe.taperEndOpening := by rw [h.arm]
theorem EndsFlush.ethanol (h : EndsFlush u t a k l m) : (t.arm a).ethanolOpening = 0 := by rw [h.arm]
theorem EndsFlush.noFlow (h : EndsFlush u t a k l m) : (t.arm a).noFlow = u.noFlowStart := by rw [h.arm]

end Fields

/-! ## Loads that move -/

/-- What closing leaves of a load, and that it has no resume phase. -/
theorem closed_rest (l : Load) : l.closed.recipe = l.recipe ∧ l.closed.endDue = l.endDue ∧
    l.closed.supplyLost = l.supplyLost ∧ l.closed.resume = none := by
  unfold Load.closed Load.applyPending
  cases l.data.pending <;> exact ⟨rfl, rfl, rfl, rfl⟩

/-- What holding leaves of a load, and its resume phase. -/
theorem heldFrom_rest (l : Load) (r : ResumePhase) : (l.heldFrom r).recipe = l.recipe ∧ (l.heldFrom r).endDue = l.endDue ∧
    (l.heldFrom r).supplyLost = l.supplyLost ∧ (l.heldFrom r).resume = some r ∧
    (l.heldFrom r).waitTarget = l.waitTarget := by
  unfold Load.heldFrom Load.applyPending
  cases l.data.pending <;> exact ⟨rfl, rfl, rfl, rfl, rfl⟩

/-- What flushing leaves of a load, and that it has neither resume phase nor wait target. -/
theorem flushed_rest (l : Load) (k : FlushKind) : (l.flushed k).recipe = l.recipe ∧ (l.flushed k).endDue = l.endDue ∧
    (l.flushed k).supplyLost = l.supplyLost ∧ (l.flushed k).resume = none ∧ (l.flushed k).waitTarget = none := by
  unfold Load.flushed Load.applyPending Load.adjustFlushEnd
  cases l.data.pending <;> cases k <;> exact ⟨rfl, rfl, rfl, rfl, rfl⟩

/-- A load that has been closed. -/
theorem moved_closed {l : Load} {ls : List Line} (withdrawn : LinesWithdrawn l.lines ls) :
    l.Moved ({ l.closed with lines := ls } : Load).bump {} := by
  have data := closed_data l
  have causes : l.closed.data.causes = {} := by rw [data]
  obtain ⟨recipe, endDue, supplyLost, _⟩ := closed_rest l
  exact causes ▸ moved_of (by rw [causes]; exact data) recipe endDue supplyLost withdrawn

/-- A load that has been held. -/
theorem moved_heldFrom {l : Load} (r : ResumePhase) {ls : List Line} (withdrawn : LinesWithdrawn l.lines ls) :
    l.Moved ({ l.heldFrom r with lines := ls } : Load).bump l.data.causes := by
  have data := heldFrom_data l r
  have causes : (l.heldFrom r).data.causes = l.data.causes := by
    rw [data]; exact amendedData_kept l LoadData.causes fun _ _ _ _ _ _ _ => rfl
  obtain ⟨recipe, endDue, supplyLost, _⟩ := heldFrom_rest l r
  exact causes ▸ moved_of (by rw [data]) recipe endDue supplyLost withdrawn

/-- A load that has been sent into a flush. -/
theorem moved_flushed {l : Load} (k : FlushKind) {ls : List Line} (withdrawn : LinesWithdrawn l.lines ls) :
    l.Moved ({ l.flushed k with lines := ls } : Load).bump l.data.causes := by
  have data := flushed_data l k
  have causes : (l.flushed k).data.causes = l.data.causes := by
    rw [data]; exact amendedData_kept l LoadData.causes fun _ _ _ _ _ _ _ => rfl
  obtain ⟨recipe, endDue, supplyLost, _⟩ := flushed_rest l k
  exact causes ▸ moved_of (by rw [data]) recipe endDue supplyLost withdrawn

/-- A load that has been sent through a flush to its end. -/
theorem moved_flushed_closed {l : Load} (k : FlushKind) {ls : List Line} (withdrawn : LinesWithdrawn l.lines ls) :
    l.Moved ({ (l.flushed k).closed with lines := ls } : Load).bump {} := by
  have pending : (l.flushed k).data.pending = none := by rw [flushed_data]; exact amendedData_pending l
  have stays : (l.flushed k).amendedData = l.amendedData := by rw [Load.amendedData, pending]; exact flushed_data l k
  have data : (l.flushed k).closed.data = { l.amendedData with causes := {} } := by rw [closed_data, stays]
  have causes : (l.flushed k).closed.data.causes = {} := by rw [data]
  obtain ⟨recipe, endDue, supplyLost, _⟩ := flushed_rest l k
  obtain ⟨recipe', endDue', supplyLost', _⟩ := closed_rest (l.flushed k)
  exact causes ▸ moved_of (by rw [causes]; exact data) (recipe'.trans recipe) (endDue'.trans endDue)
    (supplyLost'.trans supplyLost) withdrawn

/-! ## The events -/

/-- An arm that has entered CLOSING waits for no shares. -/
theorem enterClosing_spares (s : State) (a : Fin 8) : (s.enterClosing a).Spares a (s.enterClosing a) := by
  refine ⟨rfl, rfl, fun w mem => ?_⟩
  rw [enterClosing_header] at mem
  exact notListed_drop s a w mem

/-- An arm that has entered HELD waits for no shares. -/
theorem enterHeld_spares (s : State) (a : Fin 8) (r : ResumePhase) : (s.enterHeld a r).Spares a (s.enterHeld a r) := by
  refine ⟨rfl, rfl, fun w mem => ?_⟩
  rw [enterHeld_header] at mem
  exact notListed_drop s a w mem

/-- An arm that has entered FLUSH waits for no shares. -/
theorem enterFlush_spares {s : State} {a : Fin 8} {l : Load} (k : FlushKind) (load : s.load? a = some l) :
    (s.enterFlush a k).Spares a (s.enterFlush a k) := by
  rw [enterFlush_eq k load]
  split
  · exact enterClosing_spares _ a
  · refine ⟨rfl, rfl, fun w mem => ?_⟩
    rw [flushing_header] at mem
    exact notListed_drop s a w mem

section Events

variable {s0 s : State} {a : Fin 8} {l0 l : Load} (before : s0.load? a = some l0) (load : s.load? a = some l)
  (number : l.data.number = l0.data.number)
include before load number

/-- The revisions after the arm's entry to CLOSING, whatever has become of other arms since. -/
theorem endsClosing_of_spared (moved : (s0.arm a).state ≠ .closing) {u : State} (spared : (s.enterClosing a).Spares a u) :
    ∃ m, EndsClosing s (State.bumpRevisions s0 u) a l m := by
  obtain ⟨ls, withdrawn, entered⟩ := enterClosing_arm load
  have arm := spared.arm.trans entered
  have after : u.load? a = some { l.closed with lines := ls } := by rw [State.load?, arm]
  have move := moved_closed withdrawn
  have ended := bumpRevisions_arm_moved before after (move.number.trans number) (by rw [arm]; exact moved.symm)
  obtain ⟨_, _, _, resume⟩ := closed_rest l
  exact ⟨_, by rw [ended, arm], move, resume,
    by rw [State.bumpRevisions_header, spared.shares, enterClosing_header, Header.sharesOf_drop_self],
    bumpRevisions_notListed spared.listed⟩

/-- An event that ends with the arm's entry to CLOSING. -/
theorem endsClosing_of_enter (moved : (s0.arm a).state ≠ .closing) :
    ∃ m, EndsClosing s (State.endEvent s0 (s.enterClosing a)) a l m :=
  endsClosing_of_spared before load number moved ((enterClosing_spares s a).served s0)

/-- The revisions after the arm's entry to HELD, whatever has become of other arms since. -/
theorem endsHeld_of_spared (r : ResumePhase) (moved : (s0.arm a).state ≠ .held) {u : State}
    (spared : (s.enterHeld a r).Spares a u) : ∃ m, EndsHeld s (State.bumpRevisions s0 u) a r l m := by
  obtain ⟨ls, withdrawn, entered⟩ := enterHeld_arm r load
  have arm := spared.arm.trans entered
  have after : u.load? a = some { l.heldFrom r with lines := ls } := by rw [State.load?, arm]
  have move := moved_heldFrom r withdrawn
  have ended := bumpRevisions_arm_moved before after (move.number.trans number) (by rw [arm]; exact moved.symm)
  obtain ⟨_, _, _, resume, waitTarget⟩ := heldFrom_rest l r
  exact ⟨_, by rw [ended, arm], move, resume, waitTarget,
    by rw [State.bumpRevisions_header, spared.shares, enterHeld_header, Header.sharesOf_drop_self],
    bumpRevisions_notListed spared.listed⟩

/-- An event that ends with the arm's entry to HELD. -/
theorem endsHeld_of_enter (r : ResumePhase) (moved : (s0.arm a).state ≠ .held) :
    ∃ m, EndsHeld s (State.endEvent s0 (s.enterHeld a r)) a r l m :=
  endsHeld_of_spared before load number r moved ((enterHeld_spares s a r).served s0)

/-- The revisions after the arm's entry to FLUSH, the flush end lying above V, whatever has become of other arms since. -/
theorem endsFlush_of_spared (k : FlushKind) (below : l.data.product < l.entryEnd k) (moved : (s0.arm a).state ≠ .flush)
    {u : State} (spared : (s.enterFlush a k).Spares a u) : ∃ m, EndsFlush s (State.bumpRevisions s0 u) a k l m := by
  obtain ⟨ls, withdrawn, flushing⟩ := flushing_arm k load
  rw [enterFlush_eq k load, if_neg (by omega)] at spared
  have arm := spared.arm.trans flushing
  have after : u.load? a = some { l.flushed k with lines := ls } := by rw [State.load?, arm]
  have move := moved_flushed k withdrawn
  have ended := bumpRevisions_arm_moved before after (move.number.trans number) (by rw [arm]; exact moved.symm)
  obtain ⟨_, _, _, resume, waitTarget⟩ := flushed_rest l k
  exact ⟨_, by rw [ended, arm], move, resume, waitTarget, flushed_flushEnd l k, flushed_flushKind l k,
    by rw [State.bumpRevisions_header, spared.shares, flushing_header, Header.sharesOf_drop_self],
    bumpRevisions_notListed spared.listed⟩

/-- An event that ends with the arm's entry to FLUSH, the flush end lying above V. -/
theorem endsFlush_of_enter (k : FlushKind) (below : l.data.product < l.entryEnd k) (moved : (s0.arm a).state ≠ .flush) :
    ∃ m, EndsFlush s (State.endEvent s0 (s.enterFlush a k)) a k l m :=
  endsFlush_of_spared before load number k below moved ((enterFlush_spares k load).served s0)

/-- The revisions after the arm's entry to FLUSH, the flush end not lying above V, whatever has become of other arms since. -/
theorem endsClosing_of_flush_spared (k : FlushKind) (reached : l.entryEnd k ≤ l.data.product)
    (moved : (s0.arm a).state ≠ .closing) {u : State} (spared : (s.enterFlush a k).Spares a u) :
    ∃ m, EndsClosing s (State.bumpRevisions s0 u) a l m := by
  obtain ⟨ks, withdrawn0, arm0⟩ := flushing_arm k load
  have mid : (s.flushing a l k).load? a = some { l.flushed k with lines := ks } := by rw [State.load?, arm0]
  obtain ⟨ls, withdrawn, entered⟩ := enterClosing_arm mid
  have settle : (s.flushing a l k).settleStart = s.settleStart := by
    have settings : (s.flushing a l k).settings = s.settings := by
      have frame := frame_madeOn s
      exact (frame.appendTrace .phase trivial (frame.withdrawLines false trivial (frame.drop trivial
        (frame.modLoad _ trivial (frame.arm _ trivial (.refl s)) (.flushed k))))).elsewhere.settings
    rw [State.settleStart, settings]
    rfl
  rw [enterFlush_eq k load, if_pos reached] at spared
  rw [closed_lines] at entered
  have arm := spared.arm.trans entered
  have after : u.load? a = some { (l.flushed k).closed with lines := ls } := by rw [State.load?, arm]
  have move := moved_flushed_closed k (withdrawn0.trans withdrawn)
  have ended := bumpRevisions_arm_moved before after (move.number.trans number) (by rw [arm]; exact moved.symm)
  obtain ⟨_, _, _, resume⟩ := closed_rest (l.flushed k)
  exact ⟨_, by rw [ended, arm, arm0, settle], move, resume,
    by rw [State.bumpRevisions_header, spared.shares, enterClosing_header, Header.sharesOf_drop_self],
    bumpRevisions_notListed spared.listed⟩

/-- An event that ends with the arm's entry to FLUSH, the flush end not lying above V. -/
theorem endsClosing_of_enterFlush (k : FlushKind) (reached : l.entryEnd k ≤ l.data.product)
    (moved : (s0.arm a).state ≠ .closing) :
    ∃ m, EndsClosing s (State.endEvent s0 (s.enterFlush a k)) a l m :=
  endsClosing_of_flush_spared before load number k reached moved ((enterFlush_spares k load).served s0)

end Events

/-! ## Cut flushes (R50) -/

/-- The revisions after a cut flush: the arm flushes, or has passed through FLUSH into CLOSING; whatever has become of other arms
since. -/
theorem cutFlush_ends_of_spared {s0 s u : State} {a : Fin 8} {l0 l : Load} (before : s0.load? a = some l0)
    (load : s.load? a = some l) (number : l.data.number = l0.data.number) (notFlush : (s0.arm a).state ≠ .flush)
    (notClosing : (s0.arm a).state ≠ .closing) (spared : (s.enterFlush a .cut).Spares a u)
    (settings : (State.bumpRevisions s0 u).settings = s.settings) :
    ∃ m c, (State.bumpRevisions s0 u).load? a = some m ∧ l.Moved m c ∧
      (State.bumpRevisions s0 u).cutFlushed a l m l.data.product (l.cutEnd l.data.product) ∧
      (State.bumpRevisions s0 u).notListed a := by
  by_cases below : l.data.product < l.entryEnd .cut
  · obtain ⟨m, ends⟩ := endsFlush_of_spared before load number .cut below notFlush spared
    refine ⟨m, _, ends.load, ends.moved, ⟨fun _ => ⟨ends.state, ends.main, ?_, ends.flushEnd, ends.flushKind⟩,
      fun reached => absurd below (by exact Nat.not_lt.mpr reached), ends.ethanol, ends.shares⟩, ends.listed⟩
    rw [ends.noFlow, settings]
    rfl
  · obtain ⟨m, ends⟩ := endsClosing_of_flush_spared before load number .cut (Nat.not_lt.mp below) notClosing spared
    refine ⟨m, _, ends.load, ends.moved, ⟨fun above => absurd above below, fun _ => ⟨ends.state, ends.main, ?_⟩,
      ends.ethanol, ends.shares⟩, ends.listed⟩
    rw [ends.settle, settings]
    rfl

/-- An event that ends with a cut flush. -/
theorem cutFlush_ends {s0 s : State} {a : Fin 8} {l0 l : Load} (before : s0.load? a = some l0) (load : s.load? a = some l)
    (number : l.data.number = l0.data.number) (notFlush : (s0.arm a).state ≠ .flush)
    (notClosing : (s0.arm a).state ≠ .closing) :
    ∃ m c, (State.endEvent s0 (s.enterFlush a .cut)).load? a = some m ∧ l.Moved m c ∧
      (State.endEvent s0 (s.enterFlush a .cut)).cutFlushed a l m l.data.product (l.cutEnd l.data.product) ∧
      (State.endEvent s0 (s.enterFlush a .cut)).notListed a :=
  cutFlush_ends_of_spared before load number notFlush notClosing ((enterFlush_spares .cut load).served s0)
    (endEvent_frame s0 ((frame_madeOn s).enterFlush .cut trivial (.refl s) (b := a))).elsewhere.settings

end Sys2Proof.Machine
end

section
/-! PROOFS. STOP LOAD, HOLD LOAD, MARK CHECKPOINT and the timers of a load (R52, R53, R61, R64, R143, R147, R151). -/

namespace Sys2Proof.Machine

/-! ## What a request on a load names (R52, R142, R143) -/

/-- A port may name each arm of its own. -/
theorem addressArm_own {p : Port} {a : Fin 8} (own : p.isTerminal = true ∨ p = .lp (laneOf a)) :
    addressArm p (armByte a) = .ok a := by
  have number : (armByte a).toNat = a.val := toNat_ofNat8 (by omega)
  have inside : (armByte a).toNat < 8 := by omega
  have same : (⟨(armByte a).toNat, inside⟩ : Fin 8) = a := Fin.ext number
  cases p with
  | ta => simp only [addressArm, dif_pos inside, same]
  | tb => simp only [addressArm, dif_pos inside, same]
  | lp l =>
    rcases own with terminal | lane
    · exact absurd terminal (by simp [Port.isTerminal])
    · have mine : laneOf a = l := by simpa using lane.symm
      simp only [addressArm, dif_pos inside, same, mine, if_true]

/-- The load that a port names is the one addressed. -/
theorem addressLoad_of_names {s : State} {p : Port} {a : Fin 8} {n : Word24} {l : Load} (named : s.names p a n l) :
    addressLoad s p (armByte a) n = .ok (a, l) := by
  obtain ⟨own, load, number⟩ := named
  simp only [addressLoad, addressArm_own own, load, if_pos number]

/-- The load that a port names, its arm not in CLOSING. -/
theorem addressOpenLoad_of_names {s : State} {p : Port} {a : Fin 8} {n : Word24} {l : Load} (named : s.names p a n l)
    (opened : (s.arm a).state ≠ .closing) : addressOpenLoad s p (armByte a) n = .ok (a, l) := by
  simp only [addressOpenLoad, addressLoad_of_names named, if_neg opened]

/-! ## Changes of one load -/

/-- Two changes of a load are one. -/
theorem modLoad_modLoad (s : State) (a : Fin 8) (f g : Load → Load) :
    (s.modLoad a f).modLoad a g = s.modLoad a fun x => g (f x) := by
  simp only [State.modLoad, State.modArm_modArm, Option.map_map, Function.comp_def]

/-- Two changes of a load that agree on it are one. -/
theorem modLoad_congr {s : State} {a : Fin 8} {l : Load} {f g : Load → Load} (load : s.load? a = some l) (same : f l = g l) :
    s.modLoad a f = s.modLoad a g := by
  have held : s.arms[a.val].load = some l := load
  simp [State.modLoad, State.modArm, held, same]

/-- The load that a change leaves. -/
theorem load?_modLoad {s : State} {a : Fin 8} {l : Load} (f : Load → Load) (load : s.load? a = some l) :
    (s.modLoad a f).load? a = some (f l) := by rw [State.modLoad_load_self, load, Option.map_some]

/-- An amendment applied to a load with the same points and recipe is applied to the load. -/
theorem Load.amendmentApplied.of_same {l m k : Load} (h : m.amendmentApplied k) (recipe : m.recipe = l.recipe)
    (pending : m.data.pending = l.data.pending) (preset : m.data.preset = l.data.preset)
    (span : m.data.blendSpan = l.data.blendSpan) (flush : m.data.flushPoint = l.data.flushPoint)
    (taper : m.data.taperPoint = l.data.taperPoint) (target : m.data.ethanolTarget = l.data.ethanolTarget) :
    l.amendmentApplied k := by
  refine amendmentApplied_of_points h ?_
  simp only [Load.amendedData, pending, recipe]
  cases l.data.pending with
  | none => exact ⟨preset, span, flush, taper, target⟩
  | some q => exact ⟨rfl, rfl, rfl, rfl, rfl⟩

/-! ## Requests that are events on an arm -/

/-- A request that is not conditional, whose event keeps the frame. -/
theorem next_event {s v : State} {p : Port} {rc : ReqCode} {act : State → State × Option Response} {r : Response} {tag : Byte}
    (free : s.free p = true) (may : p.mayIssue rc = true) (plain : rc.conditional = false)
    (effect : act (s.accept p rc.toByte tag) = (v, some r)) (frame : (s.accept p rc.toByte tag).Frame v) :
    Host.Outcome.next (s.takeRequest p rc tag act) = (.next (v.respond p r) : Result) ∧
      (v.respond p r).response? p = some r ∧ s.SameOutsideArms (v.respond p r) := by
  refine ⟨by rw [takeRequest_acts free may effect, clearIfConditional_of_not plain], response?_respond ?_ r, ?_⟩
  · rw [frame.answer p, accept_port_self]
    rfl
  · obtain ⟨⟨⟨k1, k2, k3, k4, k5, k6, k7, k8, k9, k10, k11⟩, k12, k13, k14⟩, _, _, _, _⟩ := frame
    exact ⟨⟨k1, k2, k3, k4, k5, k6, k7, k8, k9, k10, k11⟩, k12, k13, k14⟩

/-- A response leaves what has been said of a cut flush. -/
theorem State.cutFlushed.respond {t : State} {a : Fin 8} {l m : Load} {v e : Nat} (h : t.cutFlushed a l m v e) (p : Port)
    (r : Response) : (t.respond p r).cutFlushed a l m v e := ⟨h.flush, h.closing, h.ethanol, h.shares⟩

/-- A response leaves every flag. -/
theorem respond_flagged (s : State) (p : Port) (r : Response) (q : Port) (n : Notice) :
    (s.respond p r).flagged q n = s.flagged q n := by
  by_cases same : q = p
  · subst same; simp [State.flagged, State.respond]
  · simp [State.flagged, State.respond, same]

/-- An event that changes nothing. -/
theorem endEvent_self (s : State) : State.endEvent s s = s := by
  rw [endEvent_of_one (a := 0) rfl fun _ _ => rfl, partsChanged_of_arm rfl, if_neg (by decide)]

/-- The parts of R15 that a load itself holds. -/
structure Load.SameParts (l m : Load) : Prop where
  preset : m.data.preset = l.data.preset
  pending : m.data.pending = l.data.pending
  causes : m.data.causes = l.data.causes
  flag0 : m.data.flag0 = l.data.flag0
  flag1 : m.data.flag1 = l.data.flag1
  resume : m.resume = l.resume

/-- A change of one load is a change of its parts where it changes one of them. -/
theorem partsChanged_modLoad {s : State} {a : Fin 8} {l : Load} {f : Load → Load} (load : s.load? a = some l)
    (number : (f l).data.number = l.data.number) : State.partsChanged s (s.modLoad a f) a = true ↔ ¬ l.SameParts (f l) := by
  rw [partsChanged_of_loads load (load?_modLoad f load) number, State.modLoad_arm_state]
  simp only [Bool.not_eq_true', decide_eq_false_iff_not, true_and]
  refine not_congr ⟨fun ⟨e1, e2, e3, e4, e5, e6⟩ => ⟨e1, e2, e3, e4, e5, e6⟩, fun h => ?_⟩
  exact ⟨h.preset, h.pending, h.causes, h.flag0, h.flag1, h.resume⟩

/-- An event that changes one load, but none of its parts. -/
theorem endEvent_modLoad_quiet {s : State} {a : Fin 8} {l : Load} {f : Load → Load} (load : s.load? a = some l)
    (number : (f l).data.number = l.data.number) (same : l.SameParts (f l)) :
    State.endEvent s (s.modLoad a f) = s.modLoad a f := by
  rw [endEvent_of_one (s0 := s) (s := s.modLoad a f) (a := a) rfl fun b ne => State.modArm_arm_ne _ _ _ _ ne, if_neg]
  exact fun changed => (partsChanged_modLoad load number).mp changed same

/-- An event that changes one load and one of its parts. -/
theorem endEvent_modLoad_changed {s : State} {a : Fin 8} {l : Load} {f : Load → Load} (load : s.load? a = some l)
    (number : (f l).data.number = l.data.number) (changed : ¬ l.SameParts (f l)) :
    State.endEvent s (s.modLoad a f) = s.modLoad a fun y => (f y).bump := by
  rw [endEvent_of_one (s0 := s) (s := s.modLoad a f) (a := a) rfl fun b ne => State.modArm_arm_ne _ _ _ _ ne,
    if_pos ((partsChanged_modLoad load number).mpr changed), modLoad_modLoad]

/-- An event that ends with a cut flush for a cause of an end. -/
theorem cutFlush_ends_due {s0 s : State} {a : Fin 8} {l0 l : Load} (e : EndStatus) (before : s0.load? a = some l0)
    (load : s.load? a = some l) (number : l.data.number = l0.data.number) (notFlush : (s0.arm a).state ≠ .flush)
    (notClosing : (s0.arm a).state ≠ .closing) :
    ∃ m c, (State.endEvent s0 (s.cutFlush a e)).load? a = some m ∧
      ({ l with endDue := some (l.endDue.getD e) } : Load).Moved m c ∧
      (State.endEvent s0 (s.cutFlush a e)).cutFlushed a l m l.data.product (l.cutEnd l.data.product) ∧
      (State.endEvent s0 (s.cutFlush a e)).notListed a := by
  obtain ⟨m, c, after, moved, cut, listed⟩ := cutFlush_ends (s := s.setDue a e) before (load?_modLoad _ load)
    (by rw [setDue_eq]; exact number) notFlush notClosing
  rw [setDue_eq] at moved cut
  exact ⟨m, c, after, moved, ⟨cut.flush, cut.closing, cut.ethanol, cut.shares⟩, listed⟩

/-- An event that ends with the arm's entry to CLOSING for a cause of an end. -/
theorem endsClosing_due {s0 s : State} {a : Fin 8} {l0 l : Load} (e : EndStatus) (before : s0.load? a = some l0)
    (load : s.load? a = some l) (number : l.data.number = l0.data.number) (notClosing : (s0.arm a).state ≠ .closing) :
    ∃ m, EndsClosing (s.setDue a e) (State.endEvent s0 ((s.setDue a e).enterClosing a)) a
      { l with endDue := some (l.endDue.getD e) } m := by
  have due : (s.setDue a e).load? a = some { l with endDue := some (l.endDue.getD e) } := by
    rw [← setDue_eq]; exact load?_modLoad _ load
  exact endsClosing_of_enter before due number notClosing

/-! ## STOP LOAD (R53) -/

/-- A STOP in a blending phase is a cut flush. -/
theorem stopArm_of_blending {s : State} {a : Fin 8} (l : Load) (blending : (s.arm a).state.isBlending = true) :
    s.stopArm a l = s.cutFlush a .stopped := by
  unfold State.stopArm
  cases state : (s.arm a).state <;> rw [state] at blending <;> first | rfl | exact absurd blending (by decide)

/-- A STOP in PRIME, SHARE_WAIT or HELD closes the arm. -/
theorem stopArm_of_still {s : State} {a : Fin 8} (l : Load)
    (still : (s.arm a).state = .prime ∨ (s.arm a).state = .shareWait ∨ (s.arm a).state = .held) :
    s.stopArm a l = (s.setDue a .stopped).enterClosing a := by
  unfold State.stopArm
  rcases still with state | state | state <;> rw [state]

/-- What STOP LOAD does for the load that the port names. -/
theorem loadStopped_of_names {s : State} {p : Port} {a : Fin 8} {n : Word24} {l : Load} (named : s.names p a n l)
    (opened : (s.arm a).state ≠ .closing) :
    State.loadStopped p (armByte a) n s =
      (State.endEvent s (s.stopArm a l),
        some (okay (.stopped l.data.number ((State.endEvent s (s.stopArm a l)).arm a).state))) := by
  simp only [State.loadStopped, addressOpenLoad_of_names named opened]
  rfl

section Stop

variable {p : Port} {tag : Byte} {a : Fin 8} {n : Word24} {l : Load} {s : State}
  (free : s.free p = true) (named : s.names p a n l)
include free named

/-- STOP LOAD as an event. -/
theorem exec_stopLoad (opened : (s.arm a).state ≠ .closing) :
    let u := s.accept p ReqCode.stopLoad.toByte tag
    let v := State.endEvent u (u.stopArm a l)
    let t := v.respond p (okay (.stopped l.data.number (v.arm a).state))
    exec (.stopLoad p tag (armByte a) n) s = .next t ∧
      t.response? p = some (okay (.stopped l.data.number (v.arm a).state)) ∧ s.SameOutsideArms t :=
  next_event free rfl rfl (loadStopped_of_names (s := s.accept p ReqCode.stopLoad.toByte tag) named opened)
    (endEvent_frame _ ((frame_madeOn _).stopArm l trivial (.refl _)))

/-- A STOP in FLUSH that leaves the flush end. -/
theorem stop_flush_stays (state : (s.arm a).state = .flush) {e : Nat} (flushEnd : l.flushEnd = some e)
    (stays : e ≤ l.data.product + l.recipe.flushVolume) :
    exec (.stopLoad p tag (armByte a) n) s = .next (s.answered p .stopLoad tag (okay (.stopped l.data.number .flush))) := by
  have same : (s.accept p ReqCode.stopLoad.toByte tag).stopArm a l = s.accept p ReqCode.stopLoad.toByte tag := by
    have at_ : ((s.accept p ReqCode.stopLoad.toByte tag).arm a).state = .flush := state
    have kept : State.stoppedFlushEnd l e = e := Nat.min_eq_left stays
    simp only [State.stopArm, at_, State.stopFlush, flushEnd, kept, Nat.lt_irrefl, if_false]
  refine next_unchanged free rfl rfl ?_
  rw [loadStopped_of_names (s := s.accept p ReqCode.stopLoad.toByte tag) named
    (show (s.arm a).state ≠ .closing by rw [state]; decide), same, endEvent_self]
  change (_, some (okay (.stopped _ (s.arm a).state))) = _
  rw [state]
  rfl

/-- A STOP in FLUSH that lowers the flush end above V. -/
theorem stop_flush_lowered (state : (s.arm a).state = .flush) {e : Nat} (flushEnd : l.flushEnd = some e)
    (some_ : 0 < l.recipe.flushVolume) (lower : l.data.product + l.recipe.flushVolume < e) :
    exec (.stopLoad p tag (armByte a) n) s =
      .next ((s.modLoad a fun y =>
        { y with
          flushEnd := some (l.data.product + l.recipe.flushVolume), flushKind := some .cut
          endDue := some (l.endDue.getD .stopped) }).answered p .stopLoad tag (okay (.stopped l.data.number .flush))) := by
  have load : s.load? a = some l := named.2.1
  have lowered : (s.accept p ReqCode.stopLoad.toByte tag).stopArm a l =
      (s.accept p ReqCode.stopLoad.toByte tag).modLoad a fun y =>
        { y with
          flushEnd := some (l.data.product + l.recipe.flushVolume), flushKind := some .cut
          endDue := some (l.endDue.getD .stopped) } := by
    have at_ : ((s.accept p ReqCode.stopLoad.toByte tag).arm a).state = .flush := state
    have newEnd : State.stoppedFlushEnd l e = l.data.product + l.recipe.flushVolume := Nat.min_eq_right lower.le
    simp only [State.stopArm, at_, State.stopFlush, flushEnd, newEnd, lower, if_true]
    rw [if_neg (by omega), State.setDue, modLoad_modLoad]
    exact modLoad_congr load (setDue_eq _ _)
  refine next_answered free rfl rfl ?_
  rw [loadStopped_of_names (s := s.accept p ReqCode.stopLoad.toByte tag) named
    (show (s.arm a).state ≠ .closing by rw [state]; decide), lowered,
    endEvent_modLoad_quiet (s := s.accept p ReqCode.stopLoad.toByte tag) load rfl ⟨rfl, rfl, rfl, rfl, rfl, rfl⟩,
    State.modLoad_arm_state]
  change (_, some (okay (.stopped _ (s.arm a).state))) = _
  rw [state]
  rfl

end Stop

/-- Settles O21: by the arm state, a cut flush, the entry to CLOSING or a lower flush end. -/
theorem stopEndsLoadEarly : Obligations.StopEndsLoadEarly := by
  unfold Obligations.StopEndsLoadEarly
  intro p tag a n l s free named
  have load : s.load? a = some l := named.2.1
  refine ⟨fun blending => ?blending, fun still => ?still, fun state e flushEnd above =>
    ⟨fun some_ lower => stop_flush_lowered free named state flushEnd some_ lower, fun none_ => ?atEnd,
      fun stays => stop_flush_stays free named state flushEnd stays⟩⟩
  case blending =>
    have opened : (s.arm a).state ≠ .closing := fun e => absurd blending (by rw [e]; decide)
    have notFlush : (s.arm a).state ≠ .flush := fun e => absurd blending (by rw [e]; decide)
    obtain ⟨run, response, elsewhere⟩ := exec_stopLoad (tag := tag) free named opened
    obtain ⟨m, c, after, moved, cut, _⟩ := cutFlush_ends_due (s0 := s.accept p ReqCode.stopLoad.toByte tag)
      (s := s.accept p ReqCode.stopLoad.toByte tag) .stopped load load rfl notFlush opened
    rw [stopArm_of_blending (s := s.accept p ReqCode.stopLoad.toByte tag) l blending] at run response elsewhere
    exact ⟨_, m, run, after, moved.number, moved.endDue, cut.respond p _,
      moved.amended.of_same rfl rfl rfl rfl rfl rfl rfl, moved.revision, response, elsewhere⟩
  case still =>
    have opened : (s.arm a).state ≠ .closing := by rcases still with e | e | e <;> (rw [e]; decide)
    obtain ⟨run, response, elsewhere⟩ := exec_stopLoad (tag := tag) free named opened
    obtain ⟨m, ends⟩ := endsClosing_due (s0 := s.accept p ReqCode.stopLoad.toByte tag)
      (s := s.accept p ReqCode.stopLoad.toByte tag) .stopped load load rfl opened
    rw [stopArm_of_still (s := s.accept p ReqCode.stopLoad.toByte tag) l still] at run response elsewhere
    rw [ends.state] at run response elsewhere
    have moved := ends.moved
    exact ⟨_, m, run, ends.load, moved.number, moved.endDue, by rw [moved.causes]; rfl, ends.state, ends.main, ends.ethanol,
      moved.amended.of_same rfl rfl rfl rfl rfl rfl rfl, response, elsewhere⟩
  case atEnd =>
    have opened : (s.arm a).state ≠ .closing := by rw [state]; decide
    obtain ⟨run, response, elsewhere⟩ := exec_stopLoad (tag := tag) free named opened
    have stopped : (s.accept p ReqCode.stopLoad.toByte tag).stopArm a l =
        (((s.accept p ReqCode.stopLoad.toByte tag).modLoad a fun x =>
          { x with flushEnd := some (State.stoppedFlushEnd l e), flushKind := some .cut }).setDue a .stopped).enterClosing
            a := by
      have at_ : ((s.accept p ReqCode.stopLoad.toByte tag).arm a).state = .flush := state
      have newEnd : State.stoppedFlushEnd l e = l.data.product := by rw [State.stoppedFlushEnd, none_]; omega
      simp only [State.stopArm, at_, State.stopFlush, flushEnd, newEnd, above, if_true, le_refl]
    obtain ⟨m, ends⟩ := endsClosing_due (s0 := s.accept p ReqCode.stopLoad.toByte tag) .stopped load
      (load?_modLoad (s := s.accept p ReqCode.stopLoad.toByte tag) (fun x =>
        { x with flushEnd := some (State.stoppedFlushEnd l e), flushKind := some .cut }) load) rfl opened
    rw [stopped] at run response elsewhere
    rw [ends.state] at run response elsewhere
    have moved := ends.moved
    exact ⟨_, m, run, ends.load, moved.number, moved.endDue, ends.state, ends.main, moved.revision, response, elsewhere⟩

end Sys2Proof.Machine
end

section
/-! PROOFS. HOLD LOAD, the removal of a hold cause, MARK CHECKPOINT, and the no-flow, hold and settle timers (R58, R61, R64,
R65, R141 to R147, R151, R152). -/

namespace Sys2Proof.Machine

/-! ## Hold causes (R58, R141) -/

/-- The set of one cause is not empty. -/
theorem only_isEmpty (c : HoldCause) : (HoldCauses.only c).isEmpty = false := by cases c <;> rfl

/-- One cause joins a set. -/
theorem union_only (h : HoldCauses) (c : HoldCause) : h.union (.only c) = h.put true c := by
  cases c <;> simp [HoldCauses.union, HoldCauses.only, HoldCauses.put]

/-- A cause that has joined is in the set. -/
theorem has_put (h : HoldCauses) (b : Bool) (c : HoldCause) : (h.put b c).has c = b := by cases c <;> rfl

/-- A first cause sends the arm to HELD with the state that it leaves as resume phase. -/
theorem addCauses_of_toResume {s : State} {a : Fin 8} {c : HoldCauses} {r : ResumePhase} (some_ : c.isEmpty = false)
    (resume : (s.arm a).state.toResume = some r) :
    s.addCauses a c =
      (s.modLoad a fun l => { l with data := { l.data with causes := l.data.causes.union c } }).enterHeld a r := by
  unfold State.addCauses
  rw [if_neg (by simp [some_])]
  cases state : (s.arm a).state <;> rw [state] at resume <;> cases resume <;> rfl

/-- A further cause joins the set of a held load. -/
theorem addCauses_of_held {s : State} {a : Fin 8} {c : HoldCauses} (some_ : c.isEmpty = false)
    (held : (s.arm a).state = .held) :
    s.addCauses a c = s.modLoad a fun l => { l with data := { l.data with causes := l.data.causes.union c } } := by
  unfold State.addCauses
  rw [if_neg (by simp [some_]), held]

/-- A state that a hold leaves is neither HELD nor CLOSING. -/
theorem ne_of_toResume {x : ArmState} {r : ResumePhase} (resume : x.toResume = some r) : x ≠ .held ∧ x ≠ .closing := by
  constructor <;> (rintro rfl; exact absurd resume (by simp [ArmState.toResume]))

/-- An event in which causes send the arm to HELD. -/
theorem endsHeld_of_causes {s0 s : State} {a : Fin 8} {l0 l : Load} {c : HoldCauses} {r : ResumePhase}
    (before : s0.load? a = some l0) (load : s.load? a = some l) (number : l.data.number = l0.data.number)
    (some_ : c.isEmpty = false) (resume : (s.arm a).state.toResume = some r) (moved : (s0.arm a).state ≠ .held) :
    ∃ m, EndsHeld s (State.endEvent s0 (s.addCauses a c)) a r
        { l with data := { l.data with causes := l.data.causes.union c } } m ∧ l.amendmentApplied m := by
  rw [addCauses_of_toResume some_ resume]
  obtain ⟨m, ends⟩ := endsHeld_of_enter (s := s.modLoad a fun l =>
    { l with data := { l.data with causes := l.data.causes.union c } }) before (load?_modLoad _ load) number r moved
  refine ⟨m, ⟨?_, ends.moved, ends.resume, ends.waitTarget, ends.shares, ends.listed⟩,
    ends.moved.amended.of_same rfl rfl rfl rfl rfl rfl rfl⟩
  rw [ends.arm, State.modLoad, State.modArm_arm_self]
  rfl

/-! ## Requests that answer with the hold (R142) -/

/-- What a request answers of an arm with a load. -/
theorem answerHeld_eq {s0 t : State} {a : Fin 8} {m : Load} (load : (State.endEvent s0 t).load? a = some m) :
    State.answerHeld s0 t a =
      (State.endEvent s0 t, some (okay (.held m.data.number ((State.endEvent s0 t).arm a).state m.data.causes))) := by
  rw [State.answerHeld, State.heldResponse, load]
  rfl

/-- A request that changes one load and one of its parts. -/
theorem answerHeld_modLoad {s : State} {a : Fin 8} {l : Load} {f : Load → Load} (load : s.load? a = some l)
    (number : (f l).data.number = l.data.number) (changed : ¬ l.SameParts (f l)) :
    State.answerHeld s (s.modLoad a f) a =
      (s.modLoad a fun y => (f y).bump, some (okay (.held l.data.number (s.arm a).state (f l).data.causes))) := by
  have ended := endEvent_modLoad_changed load number changed
  rw [answerHeld_eq (m := (f l).bump) (by rw [ended]; exact load?_modLoad _ load), ended, State.modLoad_arm_state]
  change (_, some (okay (.held (f l).data.number _ _))) = _
  rw [number]
  rfl

/-- What HOLD LOAD does for the load that the port names. -/
theorem loadHeld_of_names {s : State} {p : Port} {a : Fin 8} {n : Word24} {l : Load} (named : s.names p a n l)
    (opened : (s.arm a).state ≠ .closing) :
    State.loadHeld p (armByte a) n s = State.answerHeld s (s.addCauses a (.only (classCause p))) a := by
  simp only [State.loadHeld, addressOpenLoad_of_names named opened]

/-- Settles O23: the cause joins, and the arm enters HELD from the state that it leaves. -/
theorem holdEntersHeld : Obligations.HoldEntersHeld := by
  unfold Obligations.HoldEntersHeld
  intro p tag a n l r s free named resume
  have load : s.load? a = some l := named.2.1
  obtain ⟨notHeld, opened⟩ := ne_of_toResume resume
  obtain ⟨m, ends, amended⟩ := endsHeld_of_causes (s0 := s.accept p ReqCode.holdLoad.toByte tag)
    (s := s.accept p ReqCode.holdLoad.toByte tag) (c := .only (classCause p)) load load rfl (only_isEmpty _) resume notHeld
  have effect := (loadHeld_of_names (s := s.accept p ReqCode.holdLoad.toByte tag) named opened).trans
    (answerHeld_eq ends.load)
  rw [ends.state, ends.moved.number] at effect
  obtain ⟨run, response, elsewhere⟩ := next_event free rfl rfl effect
    (endEvent_frame _ ((frame_madeOn _).addCauses _ trivial (.refl _)))
  refine ⟨_, m, run, ends.load, ends.state, ends.main, ends.ethanol, ends.hold, ends.noFlow, ends.resume, amended,
    ends.shares, ?_, ends.moved.revision, response, elsewhere⟩
  rw [ends.moved.causes]
  change (l.data.causes.union (.only (classCause p))).has (classCause p) = true
  rw [union_only, has_put]

/-! ## Removing one cause of several (R59, R144, R145, R152) -/

/-- A cause removed from a set that is not the last leaves the arm HELD. -/
theorem removeCause_of_more {s : State} {a : Fin 8} {l : Load} {c : HoldCause} (load : s.load? a = some l)
    (more : (l.data.causes.put false c).isEmpty = false) :
    s.removeCause a c = s.modLoad a fun l => { l with data := { l.data with causes := l.data.causes.put false c } } := by
  unfold State.removeCause
  dsimp only
  rw [load?_modLoad _ load]
  dsimp only
  rw [if_neg (by simp [more])]

/-- A set that loses a cause changes. -/
theorem put_false_ne {h : HoldCauses} {c : HoldCause} (has : h.has c = true) : h.put false c ≠ h := by
  intro same
  have lost := has_put h false c
  rw [same, has] at lost
  exact absurd lost (by decide)

section Removing

variable {p : Port} {tag : Byte} {a : Fin 8} {n : Word24} {l : Load} {s : State}
  (named : s.names p a n l) (held : (s.arm a).state = .held)
include named held

/-- The load with causes that are left, its revision advanced. -/
theorem answerHeld_removed {f : Load → Load} {c : HoldCause} (more : ((f l).data.causes.put false c).isEmpty = false)
    (number : (f l).data.number = l.data.number)
    (changed : ¬ l.SameParts { f l with data := { (f l).data with causes := (f l).data.causes.put false c } }) :
    State.answerHeld s ((s.modLoad a f).removeCause a c) a =
      (s.modLoad a fun y =>
          Load.bump { f y with data := { (f y).data with causes := (f y).data.causes.put false c } },
        some (okay (.held l.data.number .held ((f l).data.causes.put false c)))) := by
  have load : s.load? a = some l := named.2.1
  rw [removeCause_of_more (load?_modLoad f load) more, modLoad_modLoad,
    answerHeld_modLoad (f := fun x => { f x with data := { (f x).data with causes := (f x).data.causes.put false c } })
      load number changed, held]

/-- The removal of a cause alone. -/
theorem answerHeld_removed_cause {c : HoldCause} (has : l.data.causes.has c = true)
    (more : (l.data.causes.put false c).isEmpty = false) :
    State.answerHeld s (s.removeCause a c) a =
      (s.modLoad a fun y => Load.bump { y with data := { y.data with causes := y.data.causes.put false c } },
        some (okay (.held l.data.number .held (l.data.causes.put false c)))) := by
  have load : s.load? a = some l := named.2.1
  rw [removeCause_of_more load more, answerHeld_modLoad (f := fun l =>
    { l with data := { l.data with causes := l.data.causes.put false c } }) load rfl
      (fun same => put_false_ne has same.causes), held]

end Removing

/-- Settles O24: the set loses the cause and the revision advances. -/
theorem removingOneCauseKeepsHeld : Obligations.RemovingOneCauseKeepsHeld := by
  unfold Obligations.RemovingOneCauseKeepsHeld
  intro p tag a n l s free named held
  have load : s.load? a = some l := named.2.1
  refine ⟨fun has more => ?release, fun lanePort present has more => ?resume, fun set more => ?clear0, fun set more => ?clear1⟩
  case release =>
    refine next_answered free rfl rfl ?_
    rw [State.holdReleased, addressLoad_of_names (s := s.accept p ReqCode.releaseHold.toByte tag) named]
    dsimp only
    rw [if_pos has, answerHeld_removed_cause (s := s.accept p ReqCode.releaseHold.toByte tag) named held has more]
    exact congrArg (·, _) (modLoad_congr (s := s.accept p ReqCode.releaseHold.toByte tag) load rfl)
  case resume =>
    have may : p.mayIssue .resumeLoad = true := by simpa [Port.mayIssue, ReqCode.access] using lanePort
    refine next_answered free may rfl ?_
    have present' : ((s.accept p ReqCode.resumeLoad.toByte tag).trips.lanes[(laneOf a).val]) = true := present
    rw [State.loadResumed, addressLoad_of_names (s := s.accept p ReqCode.resumeLoad.toByte tag) named]
    dsimp only
    rw [if_neg (by simp [present']), if_pos has,
      answerHeld_removed_cause (s := s.accept p ReqCode.resumeLoad.toByte tag) (c := .permissive) named held has more]
    exact congrArg (·, _) (modLoad_congr (s := s.accept p ReqCode.resumeLoad.toByte tag) load rfl)
  case clear0 =>
    refine next_answered free rfl rfl ?_
    have flag : l.data.flag 0 = true := set
    rw [State.checkpointCleared, addressLoad_of_names (s := s.accept p ReqCode.clearCheckpoint.toByte tag) named]
    simp only [show checkpointOf 0#8 = some 0 from rfl]
    rw [if_pos flag, answerHeld_removed (s := s.accept p ReqCode.clearCheckpoint.toByte tag) (c := checkpointCause 0)
      (f := fun x => { x with data := x.data.setFlag 0 false }) named held more rfl
      (fun same => absurd (set.symm.trans (show l.data.flag0 = false from same.flag0.symm)) (by decide))]
    exact congrArg (·, _) (modLoad_congr (s := s.accept p ReqCode.clearCheckpoint.toByte tag) load rfl)
  case clear1 =>
    refine next_answered free rfl rfl ?_
    have flag : l.data.flag 1 = true := set
    rw [State.checkpointCleared, addressLoad_of_names (s := s.accept p ReqCode.clearCheckpoint.toByte tag) named]
    simp only [show checkpointOf 1#8 = some 1 from rfl]
    rw [if_pos flag, answerHeld_removed (s := s.accept p ReqCode.clearCheckpoint.toByte tag) (c := checkpointCause 1)
      (f := fun x => { x with data := x.data.setFlag 1 false }) named held more rfl
      (fun same => absurd (set.symm.trans (show l.data.flag1 = false from same.flag1.symm)) (by decide))]
    exact congrArg (·, _) (modLoad_congr (s := s.accept p ReqCode.clearCheckpoint.toByte tag) load rfl)

/-! ## Timers of a load (R61, R64, R147) -/

/-- Settles O27: each timer makes its end status due and closes the arm. -/
theorem loadTimersClose : Obligations.LoadTimersClose := by
  unfold Obligations.LoadTimersClose
  intro a l s load
  refine ⟨fun flowing running => ?noFlow, fun held running => ?hold⟩
  case noFlow =>
    have opened : (s.arm a).state ≠ .closing := fun e => absurd flowing (by rw [e]; decide)
    have faulted : (s.addFault a fun f => { f with noFlow := true }).load? a =
        some { l with data := { l.data with faults := { l.data.faults with noFlow := true } } } := load?_modLoad _ load
    obtain ⟨m, ends⟩ := endsClosing_due .noFlow load faulted rfl opened
    have elsewhere := (endEvent_frame s ((frame_madeOn s).enterClosing (b := a) trivial ((frame_madeOn s).setDue (b := a) .noFlow
      trivial ((frame_madeOn s).addFault (b := a) (fun f => { f with noFlow := true }) trivial (.refl s))))).elsewhere
    exact ⟨_, m, congrArg Host.Outcome.next (if_pos ⟨running, flowing⟩), ends.load, ends.state, ends.main, ends.ethanol,
      ends.noFlow, ends.settle, by rw [ends.moved.faults], ends.moved.endDue,
      ends.moved.amended.of_same rfl rfl rfl rfl rfl rfl rfl, by rw [ends.moved.causes]; rfl, ends.resume,
      ends.moved.revision, ends.shares, elsewhere⟩
  case hold =>
    have opened : (s.arm a).state ≠ .closing := by rw [held]; decide
    obtain ⟨m, ends⟩ := endsClosing_due .holdTimeout load load rfl opened
    have elsewhere := (endEvent_frame s ((frame_madeOn s).enterClosing (b := a) trivial ((frame_madeOn s).setDue (b := a) .holdTimeout
      trivial (.refl s)))).elsewhere
    exact ⟨_, m, congrArg Host.Outcome.next (if_pos ⟨running, held⟩), ends.load, ends.state, ends.main, ends.ethanol,
      ends.hold, ends.settle, ends.moved.faults, ends.moved.endDue,
      ends.moved.amended.of_same rfl rfl rfl rfl rfl rfl rfl, by rw [ends.moved.causes]; rfl, ends.resume,
      ends.moved.revision, ends.shares, elsewhere⟩

/-! ## Completion (R64, R65) -/

/-- The notices of a completion leave all but the ports. -/
theorem ended_kept {β : Type} (g : State → β) (port : ∀ s p f, g (s.modPort p f) = g s) (s : State) (a : Fin 8) :
    g (s.ended a) = g s := by
  simp only [State.ended]
  split
  · rw [raise_kept g port, raise_kept g port]
  · rw [raise_kept g port]

/-- A completion raises LOAD_ENDED on the terminals and the lane's port. -/
theorem ended_raisedOn (s : State) (a : Fin 8) : s.raisedOn (s.ended a) .loadEnded (lanePorts (laneOf a)) := by
  have raised := raise_raisedOn s .loadEnded (terminalsAndLane (laneOf a))
  simp only [State.ended]
  split
  · refine ⟨fun p mem => ?_, fun p away => ?_⟩
    · rw [raise_flagged, raised.1 p mem, Bool.true_or]
    · rw [raise_flagged, raised.2 p away]
      simp
  · exact raised

/-- The arm that a load has left. -/
theorem completeLoad_arm_self {s : State} {a : Fin 8} {l : Load} (load : s.load? a = some l) (e : EndStatus) :
    (s.completeLoad a e).arm a = (s.arm a).vacated := by
  obtain ⟨t, complete⟩ := State.completeLoad_eq load e
  rw [complete, ended_kept (fun t => t.arm a) (fun _ _ _ => rfl)]
  exact State.modArm_arm_self ..

/-- A completion leaves the other arms. -/
theorem completeLoad_arm_ne {s : State} {a b : Fin 8} (ne : b ≠ a) (e : EndStatus) :
    (s.completeLoad a e).arm b = s.arm b := by
  cases load : s.load? a with
  | none => rw [State.completeLoad_of_none load]
  | some l =>
    obtain ⟨t, complete⟩ := State.completeLoad_eq load e
    rw [complete, ended_kept (fun t => t.arm b) (fun _ _ _ => rfl)]
    exact State.modArm_arm_ne _ _ _ _ ne

/-- The record joins the tail of the delivered list and consumes its reservation. -/
theorem completeLoad_delivered {s : State} {a : Fin 8} {l : Load} (load : s.load? a = some l) (e : EndStatus) :
    (s.completeLoad a e).delivered = s.delivered ++ [l.finished e s.seconds] ∧
      (s.completeLoad a e).reservations = s.reservations - 1 := by
  obtain ⟨t, complete⟩ := State.completeLoad_eq load e
  rw [complete, ended_kept State.delivered (fun _ _ _ => rfl), ended_kept State.reservations (fun _ _ _ => rfl)]
  exact ⟨rfl, rfl⟩

/-- An event that completes the load of one arm. -/
theorem endEvent_completeLoad {s0 s : State} {a : Fin 8} (e : EndStatus) (header : s.header = s0.header)
    (others : ∀ b, b ≠ a → s.arm b = s0.arm b) :
    State.endEvent s0 (s.completeLoad a e) = s.completeLoad a e := by
  rw [endEvent_of_one (a := a) ((State.completeLoad_header s a e).trans header)
    (fun b ne => (completeLoad_arm_ne ne e).trans (others b ne)), if_neg]
  have gone : (s.completeLoad a e).revisionParts a = none := by
    rw [State.revisionParts, State.completeLoad_load?, if_pos rfl]
  rw [State.partsChanged, gone]
  cases s0.revisionParts a <;> simp

/-- A settled load in CLOSING with no shot in flight completes with the end status due, or COMPLETE. -/
theorem completeIfSettled_eq {s : State} {a : Fin 8} {l : Load} (load : s.load? a = some l)
    (closing : (s.arm a).state = .closing) (settled : (s.arm a).settle = .expired)
    (landed : s.shotInFlight a l.data.number = false) :
    s.completeIfSettled a = s.completeLoad a (l.endDue.getD .complete) := by
  simp only [State.completeIfSettled, load]
  rw [if_pos ⟨closing, settled, landed⟩]
  cases l.endDue <;> rfl

/-- Settles O28: the arm's load is handed over with its end status. -/
theorem settleTimeoutCompletes : Obligations.SettleTimeoutCompletes := by
  unfold Obligations.SettleTimeoutCompletes
  intro a l s load closing running landed
  have expired : (s.modArm a fun x => { x with settle := .expired }).load? a = some l := by
    rw [State.load?_modArm_self]; exact load
  have settled : s.settleElapsed a =
      (s.modArm a fun x => { x with settle := .expired }).completeLoad a (l.endDue.getD .complete) := by
    rw [State.settleElapsed, if_pos ⟨running, closing⟩,
      completeIfSettled_eq expired (by simpa using closing) (by simp) landed]
    exact endEvent_completeLoad _ rfl fun b ne => State.modArm_arm_ne _ _ _ _ ne
  have arm := completeLoad_arm_self expired (l.endDue.getD .complete)
  obtain ⟨delivered, reservations⟩ := completeLoad_delivered expired (l.endDue.getD .complete)
  refine ⟨_, l.finished (l.endDue.getD .complete) s.seconds, congrArg Host.Outcome.next settled, ?_, by rw [arm]; rfl,
    by rw [arm]; rfl, by rw [arm]; rfl, by rw [arm]; rfl, delivered, reservations, rfl, rfl, rfl, rfl, rfl, rfl, ?_, ?_, rfl,
    rfl, ?_, ?_⟩
  · rw [State.completeLoad_load?, if_pos rfl]
  · change some (finalRatioOf l.data.gasoline l.data.ethanol) = _
    rw [finalRatioOf]
    split
    · rename_i empty
      rw [empty, Nat.div_zero]
    · rfl
  · rintro f final
    obtain rfl := Option.some.inj final
    rfl
  · obtain ⟨t, complete⟩ := State.completeLoad_eq expired (l.endDue.getD .complete)
    rw [complete]
    exact ended_raisedOn (State.handedOver (s.modArm a fun x => { x with settle := .expired }) a l _ t) a
  · have kept := closed_sameOutsideLoads s
    exact kept.completeLoad a _ (kept.arm a _ ⟨rfl, rfl, rfl, rfl, rfl, rfl, rfl, rfl, rfl, rfl, rfl⟩)

end Sys2Proof.Machine
end

section
/-! PROOFS. A checkpoint event that fires for a load (R149), and the share wait timer (R109). -/

namespace Sys2Proof.Machine

/-! ## Ports through an event -/

/-- The advance of the revisions leaves all but the arms. -/
theorem bumpRevisions_kept {β : Type} (g : State → β) (arm : ∀ s a f, g (s.modArm a f) = g s) (s0 s : State) :
    g (State.bumpRevisions s0 s) = g s :=
  Leaving.foldl (P := fun t => g t = g s) allArms rfl fun _ _ ht =>
    Leaving.ite (P := fun t => g t = g s) (fun _ => (arm _ _ _).trans ht) fun _ => ht

/-- Notices raised are seen from a state with the same ports. -/
theorem State.portsRaised.of_ports {s t u v : State} {n : Notice} {ps : List Port} (h : s.portsRaised t n ps)
    (before : ∀ p, s.port p = u.port p) (after : ∀ p, v.port p = t.port p) : u.portsRaised v n ps :=
  ⟨fun p mem => by rw [after, h.1 p mem, before], fun p away => by rw [after, h.2 p away, before]⟩

/-- Notices raised on ports are set there. -/
theorem State.portsRaised.flagged {s t : State} {n : Notice} {ps : List Port} (h : s.portsRaised t n ps) {p : Port}
    (mem : p ∈ ps) : t.flagged p n = true := by
  have set := raise_getLsbD n n (s.port p)
  rw [decide_eq_true rfl, Bool.or_true] at set
  rw [State.flagged, h.1 p mem]
  exact set

/-! ## What an event finds -/

/-- The second load is the first in all that checkpoints, revisions and amendments look at. -/
structure Load.SameStanding (l m : Load) : Prop where
  number : m.data.number = l.data.number
  revision : m.data.revision = l.data.revision
  flag0 : m.data.flag0 = l.data.flag0
  flag1 : m.data.flag1 = l.data.flag1
  causes : m.data.causes = l.data.causes
  pending : m.data.pending = l.data.pending
  preset : m.data.preset = l.data.preset
  blendSpan : m.data.blendSpan = l.data.blendSpan
  flushPoint : m.data.flushPoint = l.data.flushPoint
  taperPoint : m.data.taperPoint = l.data.taperPoint
  ethanolTarget : m.data.ethanolTarget = l.data.ethanolTarget
  recipe : m.recipe = l.recipe

/-- A load stands as it stands. -/
theorem Load.SameStanding.refl (l : Load) : l.SameStanding l := ⟨rfl, rfl, rfl, rfl, rfl, rfl, rfl, rfl, rfl, rfl, rfl, rfl⟩

/-- What a checkpoint event finds at `w` in an event that has begun at `s0`, the ports being those of `b`: the load as it has
stood but for its volumes, the arm in state `x`, and nobody to be served. -/
structure EventFinds (b s0 w : State) (a : Fin 8) (l m : Load) (x : ArmState) : Prop where
  before : s0.load? a = some l
  state0 : (s0.arm a).state = (b.arm a).state
  load : w.load? a = some m
  state : (w.arm a).state = x
  standing : l.SameStanding m
  resume : x = (b.arm a).state → m.resume = l.resume
  ports : ∀ p, w.port p = b.port p
  settings : w.settings = b.settings
  calm : ∀ v : State, v.header = w.header → v.trips = w.trips → State.endEvent s0 v = State.bumpRevisions s0 v

section Fired

variable {b s0 w : State} {a : Fin 8} {l m : Load} {x : ArmState} (h : EventFinds b s0 w a l m x)
include h

/-- Where no entry is hit nothing but the state has changed. -/
theorem EventFinds.passes :
    ∃ k, b.eventFired (State.endEvent s0 w) a l k x false false false false ∧ k.waitTarget = m.waitTarget := by
  have ended := h.calm w rfl rfl
  have changed : State.partsChanged s0 w a = true ↔ x ≠ (b.arm a).state := by
    rw [partsChanged_of_loads h.before h.load h.standing.number, h.state, h.state0]
    simp only [h.standing.preset, h.standing.pending, h.standing.causes, h.standing.flag0, h.standing.flag1, true_and,
      Bool.not_eq_true', decide_eq_false_iff_not, not_and]
    exact ⟨fun moved same => moved same (h.resume same), fun moved same => absurd same moved⟩
  have arm : (State.endEvent s0 w).arm a =
      { w.arm a with load := some (if x ≠ (b.arm a).state then m.bump else m) } := by
    rw [ended, bumpRevisions_arm]
    have loaded : (w.arm a).load = some m := h.load
    by_cases moved : x ≠ (b.arm a).state
    · rw [if_pos (changed.mpr moved), if_pos moved, Arm.bumped, loaded]
      rfl
    · rw [if_neg (fun c => moved (changed.mp c)), if_neg moved, ← loaded]
  have port : ∀ p, (State.endEvent s0 w).port p = b.port p := fun p => by
    rw [ended, bumpRevisions_kept (fun t => t.port p) (fun _ _ _ => rfl), h.ports]
  refine ⟨if x ≠ (b.arm a).state then m.bump else m, ⟨by rw [State.load?, arm], ?_, nofun, ?_, ?_, fun _ => ⟨?_, ?_, ?_⟩,
    nofun, nofun⟩, ?_⟩
  · split <;> exact ⟨by rw [Bool.or_false]; exact h.standing.flag0, by rw [Bool.or_false]; exact h.standing.flag1⟩
  · simp only [Bool.or_false]
    split <;> exact h.standing.causes
  · simp only [Bool.or_false, Bool.false_eq_true, false_or]
    split
    · change nextRevision m.data.revision = _
      rw [h.standing.revision]
      rfl
    · exact h.standing.revision
  · rw [arm]
    exact h.state
  · split <;> exact h.standing.pending
  · exact ⟨fun p mem => absurd mem (by simp), fun p _ => port p⟩
  · split <;> rfl

variable {hit0 hit1 : Bool} (hit : (hit0 || hit1) = true) (clear0 : hit0 = true → l.data.flag0 = false)
  (clear1 : hit1 = true → l.data.flag1 = false)
include hit clear0 clear1

/-- The load whose flags the hit entries have set. -/
def Load.flagsSet (m : Load) (hit0 hit1 : Bool) : Load :=
  { m with data := { m.data with flag0 := m.data.flag0 || hit0, flag1 := m.data.flag1 || hit1 } }

omit h in
/-- A flag that a hit sets was clear, so it changes. -/
theorem flags_change (same : (l.data.flag0 || hit0) = l.data.flag0 ∧ (l.data.flag1 || hit1) = l.data.flag1) : False := by
  obtain ⟨same0, same1⟩ := same
  cases hit0 with
  | true => rw [clear0 rfl] at same0; exact absurd same0 (by decide)
  | false =>
    cases hit1 with
    | true => rw [clear1 rfl] at same1; exact absurd same1 (by decide)
    | false => exact absurd hit (by decide)

/-- Entries hit in mode NOTE set their flags and raise CHECKPOINT. -/
theorem EventFinds.notes :
    ∃ k, b.eventFired (State.endEvent s0 ((w.modLoad a fun y => y.flagsSet hit0 hit1).raise .checkpoint
      (terminalsAndLane (laneOf a)))) a l k x hit0 hit1 false false ∧ k.waitTarget = m.waitTarget := by
  have raised := fun {β : Type} (g : State → β) (port : ∀ s p f, g (s.modPort p f) = g s) =>
    raise_kept g port .checkpoint (terminalsAndLane (laneOf a)) (w.modLoad a fun y => y.flagsSet hit0 hit1)
  have ended := h.calm ((w.modLoad a fun y => y.flagsSet hit0 hit1).raise .checkpoint (terminalsAndLane (laneOf a)))
    (raised State.header fun _ _ _ => rfl) (raised State.trips fun _ _ _ => rfl)
  have armBefore : ((w.modLoad a fun y => y.flagsSet hit0 hit1).raise .checkpoint (terminalsAndLane (laneOf a))).arm a =
      { w.arm a with load := some (m.flagsSet hit0 hit1) } := by
    rw [raised (fun t => t.arm a) fun _ _ _ => rfl, State.modLoad, State.modArm_arm_self,
      show (w.arm a).load = some m from h.load]
    rfl
  have changed : State.partsChanged s0 ((w.modLoad a fun y => y.flagsSet hit0 hit1).raise .checkpoint
      (terminalsAndLane (laneOf a))) a = true := by
    rw [partsChanged_of_loads h.before (m := m.flagsSet hit0 hit1) (by rw [State.load?, armBefore]) h.standing.number]
    simp only [Bool.not_eq_true', decide_eq_false_iff_not]
    rintro ⟨-, -, -, same0, same1, -, -⟩
    exact flags_change hit clear0 clear1 ⟨(congrArg (· || hit0) h.standing.flag0.symm).trans same0,
      (congrArg (· || hit1) h.standing.flag1.symm).trans same1⟩
  have arm : (State.endEvent s0 ((w.modLoad a fun y => y.flagsSet hit0 hit1).raise .checkpoint
      (terminalsAndLane (laneOf a)))).arm a = { w.arm a with load := some (m.flagsSet hit0 hit1).bump } := by
    rw [ended, bumpRevisions_arm, if_pos changed, armBefore]
    rfl
  have ports : b.portsRaised (State.endEvent s0 ((w.modLoad a fun y => y.flagsSet hit0 hit1).raise .checkpoint
      (terminalsAndLane (laneOf a)))) .checkpoint (lanePorts (laneOf a)) := by
    refine (raise_portsRaised (w.modLoad a fun y => y.flagsSet hit0 hit1) .checkpoint
      (terminalsAndLane (laneOf a))).of_ports h.ports fun p => ?_
    rw [ended, bumpRevisions_kept (fun t => t.port p) fun _ _ _ => rfl]
  refine ⟨(m.flagsSet hit0 hit1).bump, ⟨by rw [State.load?, arm], ⟨?_, ?_⟩, fun _ q mem => ports.flagged mem, ?_, ?_,
    fun _ => ⟨?_, h.standing.pending, ?_⟩, nofun, nofun⟩, rfl⟩
  · exact congrArg (· || hit0) h.standing.flag0
  · exact congrArg (· || hit1) h.standing.flag1
  · simp only [Bool.or_false]
    exact h.standing.causes
  · rw [if_pos (.inl hit)]
    change nextRevision m.data.revision = _
    rw [h.standing.revision]
    rfl
  · rw [arm]
    exact h.state
  · rw [if_pos hit]
    exact ports

/-- Entries hit in mode HALT moreover add their causes: the arm is in HELD at the end. -/
theorem EventFinds.halts {halt0 halt1 : Bool} (some_ : (halt0 || halt1) = true)
    (holds : x = .held ∨ x.toResume ≠ none ∧ (b.arm a).state ≠ .held) :
    ∃ k, b.eventFired (State.endEvent s0 (((w.modLoad a fun y => y.flagsSet hit0 hit1).raise .checkpoint
        (terminalsAndLane (laneOf a))).addCauses a { checkpoint0 := halt0, checkpoint1 := halt1 })) a l k x hit0 hit1 halt0
        halt1 ∧
      k.waitTarget = m.waitTarget ∧
      (x ≠ .held → (State.endEvent s0 (((w.modLoad a fun y => y.flagsSet hit0 hit1).raise .checkpoint
        (terminalsAndLane (laneOf a))).addCauses a { checkpoint0 := halt0, checkpoint1 := halt1 })).notListed a) := by
  have raised := fun {β : Type} (g : State → β) (port : ∀ s p f, g (s.modPort p f) = g s) =>
    raise_kept g port .checkpoint (terminalsAndLane (laneOf a)) (w.modLoad a fun y => y.flagsSet hit0 hit1)
  have flagged := (raise_portsRaised (w.modLoad a fun y => y.flagsSet hit0 hit1) .checkpoint (terminalsAndLane (laneOf a)))
  have set : ∀ q ∈ lanePorts (laneOf a), ((w.modLoad a fun y => y.flagsSet hit0 hit1).raise .checkpoint
      (terminalsAndLane (laneOf a))).flagged q .checkpoint = true := fun q mem => flagged.flagged mem
  have armBefore : ((w.modLoad a fun y => y.flagsSet hit0 hit1).raise .checkpoint (terminalsAndLane (laneOf a))).arm a =
      { w.arm a with load := some (m.flagsSet hit0 hit1) } := by
    rw [raised (fun t => t.arm a) fun _ _ _ => rfl, State.modLoad, State.modArm_arm_self,
      show (w.arm a).load = some m from h.load]
    rfl
  have settings : ((w.modLoad a fun y => y.flagsSet hit0 hit1).raise .checkpoint (terminalsAndLane (laneOf a))).settings =
      b.settings := (raised State.settings fun _ _ _ => rfl).trans h.settings
  have header : ((w.modLoad a fun y => y.flagsSet hit0 hit1).raise .checkpoint (terminalsAndLane (laneOf a))).header =
      w.header := raised State.header fun _ _ _ => rfl
  have trips : ((w.modLoad a fun y => y.flagsSet hit0 hit1).raise .checkpoint (terminalsAndLane (laneOf a))).trips =
      w.trips := raised State.trips fun _ _ _ => rfl
  have causes : m.data.causes.union { checkpoint0 := halt0, checkpoint1 := halt1 } =
      { l.data.causes with
        checkpoint0 := l.data.causes.checkpoint0 || halt0, checkpoint1 := l.data.causes.checkpoint1 || halt1 } := by
    rw [h.standing.causes]
    simp [HoldCauses.union]
  have nonempty : ({ checkpoint0 := halt0, checkpoint1 := halt1 } : HoldCauses).isEmpty = false := by
    cases halt0 <;> cases halt1 <;> first | rfl | exact absurd some_ (by decide)
  generalize ((w.modLoad a fun y => y.flagsSet hit0 hit1).raise .checkpoint (terminalsAndLane (laneOf a))) = v at *
  have load : v.load? a = some (m.flagsSet hit0 hit1) := by rw [State.load?, armBefore]
  have state : (v.arm a).state = x := by rw [armBefore]; exact h.state
  have kept := endEvent_frame s0 ((frame_madeOn v).addCauses (b := a) { checkpoint0 := halt0, checkpoint1 := halt1 }
    trivial (.refl v))
  have notice : ∀ q ∈ lanePorts (laneOf a),
      (State.endEvent s0 (v.addCauses a { checkpoint0 := halt0, checkpoint1 := halt1 })).flagged q .checkpoint = true :=
    fun q mem => kept.flags q _ (set q mem)
  have revised : ∀ k : Load, k.data.revision = nextRevision m.data.revision →
      k.data.revision = if (hit0 || hit1) = true ∨ x ≠ (b.arm a).state then
        (if 65535 ≤ l.data.revision then 1 else l.data.revision + 1) else l.data.revision := by
    intro k next
    rw [next, h.standing.revision, if_pos (.inl hit)]
    rfl
  by_cases held : x = .held
  · have joined := addCauses_of_held (s := v) nonempty (state.trans held)
    have ended := h.calm (v.addCauses a { checkpoint0 := halt0, checkpoint1 := halt1 })
      (by rw [joined]; exact header) (by rw [joined]; exact trips)
    have changed : State.partsChanged s0 (v.addCauses a { checkpoint0 := halt0, checkpoint1 := halt1 }) a = true := by
      rw [joined, partsChanged_of_loads h.before (load?_modLoad _ load) h.standing.number]
      simp only [Bool.not_eq_true', decide_eq_false_iff_not]
      rintro ⟨-, -, -, same0, same1, -, -⟩
      exact flags_change hit clear0 clear1 ⟨(congrArg (· || hit0) h.standing.flag0.symm).trans same0,
        (congrArg (· || hit1) h.standing.flag1.symm).trans same1⟩
    have arm : (State.endEvent s0 (v.addCauses a { checkpoint0 := halt0, checkpoint1 := halt1 })).arm a =
        { w.arm a with
          load := some
            { m.flagsSet hit0 hit1 with
              data :=
                { (m.flagsSet hit0 hit1).data with
                  causes := m.data.causes.union { checkpoint0 := halt0, checkpoint1 := halt1 }
                  revision := nextRevision m.data.revision } } } := by
      rw [ended, bumpRevisions_arm, if_pos changed, joined, State.modLoad, State.modArm_arm_self, armBefore]
      rfl
    refine ⟨_, ⟨congrArg Arm.load arm, ⟨congrArg (· || hit0) h.standing.flag0, congrArg (· || hit1) h.standing.flag1⟩,
      fun _ => notice, causes, revised _ rfl, fun off => absurd (some_.symm.trans off) (by decide), fun _ => ?_,
      fun _ other => absurd held other⟩, rfl, fun other => absurd held other⟩
    rw [arm]
    exact h.state.trans held
  · obtain ⟨resumes, notHeld⟩ := holds.resolve_left held
    obtain ⟨r, resume⟩ := Option.ne_none_iff_exists'.mp resumes
    obtain ⟨k, ends, amended⟩ := endsHeld_of_causes h.before load h.standing.number nonempty (by rw [state]; exact resume)
      (by rw [h.state0]; exact notHeld)
    refine ⟨k, ⟨ends.load, ⟨?_, ?_⟩, fun _ => notice, ends.moved.causes.trans causes, revised _ ends.moved.revision,
      fun off => absurd (some_.symm.trans off) (by decide), fun _ => ends.state, fun _ _ => ⟨ends.main, ends.ethanol,
      ends.noFlow, ?_, ends.resume.trans resume.symm, ends.shares, ?_⟩⟩, ends.waitTarget, fun _ => ends.listed⟩
    · exact ends.moved.flag0.trans (congrArg (· || hit0) h.standing.flag0)
    · exact ends.moved.flag1.trans (congrArg (· || hit1) h.standing.flag1)
    · rw [ends.hold, State.holdStart, settings]
    · exact amended.of_same h.standing.recipe h.standing.pending h.standing.preset h.standing.blendSpan
        h.standing.flushPoint h.standing.taperPoint h.standing.ethanolTarget

end Fired

end Sys2Proof.Machine
end

section
/-! PROOFS. A checkpoint event of a load by its recipe's entries (R149), the share wait timer (R109) and MARK CHECKPOINT (R151). -/

namespace Sys2Proof.Machine

/-! ## The entries that an event hits (R149) -/

/-- What recipe entry 0 does at an event, for a load that stands as `l`. -/
theorem entry0_answers {l m : Load} {ev : EventKind} {hit halt : Bool} (same : l.SameStanding m)
    (answers : l.entryAnswers ev 0 l.data.flag0 hit halt) : m.hit ev 0 = hit ∧ (m.hit ev 0 && m.halts 0) = halt := by
  obtain ⟨hits, halts⟩ := answers
  refine ⟨Bool.eq_iff_iff.mpr (Iff.trans ?_ hits.symm), Bool.eq_iff_iff.mpr (Iff.trans ?_ halts.symm)⟩ <;>
    simp only [Load.hit, Load.halts, same.recipe, same.flag0, Fin.val_zero, if_true]
  all_goals
    cases l.recipe.checkpoints[0]? with
    | none => simp
    | some e => simp [and_assoc]

/-- What recipe entry 1 does at an event, for a load that stands as `l`. -/
theorem entry1_answers {l m : Load} {ev : EventKind} {hit halt : Bool} (same : l.SameStanding m)
    (answers : l.entryAnswers ev 1 l.data.flag1 hit halt) : m.hit ev 1 = hit ∧ (m.hit ev 1 && m.halts 1) = halt := by
  obtain ⟨hits, halts⟩ := answers
  refine ⟨Bool.eq_iff_iff.mpr (Iff.trans ?_ hits.symm), Bool.eq_iff_iff.mpr (Iff.trans ?_ halts.symm)⟩ <;>
    simp only [Load.hit, Load.halts, same.recipe, same.flag1, Fin.val_one, show (1 : Fin 2) ≠ 0 by decide, if_false]
  all_goals
    cases l.recipe.checkpoints[1]? with
    | none => simp
    | some e => simp [and_assoc]

/-- An entry that is hit finds its flag clear, and one that halts is hit. -/
theorem entryAnswers_clear {l : Load} {ev : EventKind} {n : Nat} {flag hit halt : Bool} (answers : l.entryAnswers ev n flag hit halt) :
    (hit = true → flag = false) ∧ (halt = true → hit = true) := by
  obtain ⟨hits, halts⟩ := answers
  refine ⟨fun h => ?_, fun h => ?_⟩
  · obtain ⟨_, _, _, clear⟩ := hits.mp h
    exact clear
  · obtain ⟨e, entry, event, clear, _⟩ := halts.mp h
    exact hits.mpr ⟨e, entry, event, clear⟩

/-- Without an entry for the event nothing fires. -/
theorem fireEvent_of_none {s : State} {a : Fin 8} {l : Load} {ev : EventKind} (load : s.load? a = some l)
    (none_ : ∀ c ∈ l.recipe.checkpoints, c.event ≠ ev) : s.fireEvent a ev = s := by
  have misses : ∀ n, l.hit ev n = false := by
    intro n
    rw [Load.hit]
    cases entry : l.recipe.checkpoints[n.val]? with
    | none => rfl
    | some e => simp [none_ e (List.mem_of_getElem? entry)]
  simp [State.fireEvent, load, misses]

/-- A checkpoint event sets the flags of the entries hit, raises one notice and adds the causes of those that halt. -/
theorem fireEvent_of_hits {s : State} {a : Fin 8} {m : Load} {ev : EventKind} {hit0 hit1 halt0 halt1 : Bool}
    (load : s.load? a = some m) (zero : m.hit ev 0 = hit0 ∧ (m.hit ev 0 && m.halts 0) = halt0)
    (one : m.hit ev 1 = hit1 ∧ (m.hit ev 1 && m.halts 1) = halt1) :
    s.fireEvent a ev =
      if (hit0 || hit1) = true then
        ((s.modLoad a fun y => y.flagsSet hit0 hit1).raise .checkpoint (terminalsAndLane (laneOf a))).addCauses a
          { checkpoint0 := halt0, checkpoint1 := halt1 }
      else s := by
  obtain ⟨rfl, rfl⟩ := zero
  obtain ⟨rfl, rfl⟩ := one
  simp only [State.fireEvent, load]
  rfl

/-- No cause is added where none halts. -/
theorem addCauses_none (s : State) (a : Fin 8) : s.addCauses a {} = s := if_pos rfl

/-- A checkpoint event of the load has fired at the end of the event. -/
theorem EventFinds.fires {b s0 w : State} {a : Fin 8} {l m : Load} {x : ArmState} {ev : EventKind}
    {hit0 hit1 halt0 halt1 : Bool} (h : EventFinds b s0 w a l m x) (answers0 : l.entryAnswers ev 0 l.data.flag0 hit0 halt0)
    (answers1 : l.entryAnswers ev 1 l.data.flag1 hit1 halt1)
    (holds : (halt0 || halt1) = true → x = .held ∨ x.toResume ≠ none ∧ (b.arm a).state ≠ .held) :
    ∃ k, b.eventFired (State.endEvent s0 (w.fireEvent a ev)) a l k x hit0 hit1 halt0 halt1 ∧ k.waitTarget = m.waitTarget ∧
      ((halt0 || halt1) = false → (State.endEvent s0 (w.fireEvent a ev)).header = w.header) ∧
      ((halt0 || halt1) = true → x ≠ .held → (State.endEvent s0 (w.fireEvent a ev)).notListed a) := by
  obtain ⟨clear0, hitOf0⟩ := entryAnswers_clear answers0
  obtain ⟨clear1, hitOf1⟩ := entryAnswers_clear answers1
  have fired := fireEvent_of_hits (ev := ev) h.load (entry0_answers h.standing answers0) (entry1_answers h.standing answers1)
  have raised := fun {β : Type} (g : State → β) (port : ∀ s p f, g (s.modPort p f) = g s) =>
    raise_kept g port .checkpoint (terminalsAndLane (laneOf a)) (w.modLoad a fun y => y.flagsSet hit0 hit1)
  have header : ∀ v : State, v.header = w.header → v.trips = w.trips → (State.endEvent s0 v).header = w.header := by
    intro v sameHeader sameTrips
    rw [h.calm v sameHeader sameTrips, State.bumpRevisions_header, sameHeader]
  cases hit : (hit0 || hit1) with
  | false =>
    obtain ⟨rfl, rfl⟩ : hit0 = false ∧ hit1 = false := by simpa using hit
    obtain rfl : halt0 = false := by cases halt0 with
      | false => rfl
      | true => exact absurd (hitOf0 rfl) (by decide)
    obtain rfl : halt1 = false := by cases halt1 with
      | false => rfl
      | true => exact absurd (hitOf1 rfl) (by decide)
    rw [hit, if_neg (by decide)] at fired
    rw [fired]
    obtain ⟨k, passed, waitTarget⟩ := h.passes
    exact ⟨k, passed, waitTarget, fun _ => header w rfl rfl, nofun⟩
  | true =>
    rw [hit, if_pos rfl] at fired
    cases some_ : (halt0 || halt1) with
    | false =>
      obtain ⟨rfl, rfl⟩ : halt0 = false ∧ halt1 = false := by simpa using some_
      rw [fired, show ({ checkpoint0 := false, checkpoint1 := false } : HoldCauses) = {} from rfl, addCauses_none]
      obtain ⟨k, noted, waitTarget⟩ := h.notes hit clear0 clear1
      exact ⟨k, noted, waitTarget,
        fun _ => header _ (raised State.header fun _ _ _ => rfl) (raised State.trips fun _ _ _ => rfl), nofun⟩
    | true =>
      rw [fired]
      obtain ⟨k, halted, waitTarget, listed⟩ := h.halts hit clear0 clear1 some_ (holds some_)
      exact ⟨k, halted, waitTarget, fun off => absurd off (by decide), fun _ => listed⟩

/-! ## The share wait timer (R109) -/

/-- The timer of an entry that runs. -/
theorem shareTimerRuns_of_waiter {s : State} {a : Fin 8} (waits : ∃ w ∈ s.header.wait, w.arm = a ∧ w.timer.isRunning = true) :
    s.shareTimerRuns a = true := by
  obtain ⟨w, mem, arm, running⟩ := waits
  exact List.any_eq_true.mpr ⟨w, mem, by simp [arm, running]⟩

/-- Settles O29: the notice, then the event for the load's checkpoints. -/
theorem shareWaitLongRaises : Obligations.ShareWaitLongRaises := by
  unfold Obligations.ShareWaitLongRaises
  intro a l s load waits
  have run : exec (.shareWaitLong a) s = .next (State.endEvent (s.shareTimerExpired a)
      (((s.shareTimerExpired a).raise .shareWaitLong (terminalsAndLane (laneOf a))).fireEvent a .shareWaitLong)) :=
    congrArg Host.Outcome.next (if_pos (shareTimerRuns_of_waiter waits))
  have raised := fun {β : Type} (g : State → β) (port : ∀ s p f, g (s.modPort p f) = g s) =>
    raise_kept g port .shareWaitLong (terminalsAndLane (laneOf a)) (s.shareTimerExpired a)
  have loaded : ((s.shareTimerExpired a).raise .shareWaitLong (terminalsAndLane (laneOf a))).load? a = some l :=
    (raised (fun t => t.load? a) fun _ _ _ => rfl).trans load
  refine ⟨fun none_ => ?quiet, fun hit0 hit1 halt0 halt1 waiting answers0 answers1 => ?fires⟩
  case quiet =>
    rw [fireEvent_of_none loaded none_, endEvent_of_one (a := a) (raised State.header fun _ _ _ => rfl)
      (fun b _ => raised (fun t => t.arm b) fun _ _ _ => rfl),
      partsChanged_of_arm (raised (fun t => t.arm a) fun _ _ _ => rfl), if_neg (by decide)] at run
    exact ⟨_, run, raise_portsRaised (s.shareTimerExpired a) .shareWaitLong _,
      raise_ports_only (s.shareTimerExpired a) .shareWaitLong _⟩
  case fires =>
    have finds : EventFinds (s.raise .shareWaitLong (terminalsAndLane (laneOf a))) (s.shareTimerExpired a)
        ((s.shareTimerExpired a).raise .shareWaitLong (terminalsAndLane (laneOf a))) a l l .shareWait := by
      have state : ((s.raise .shareWaitLong (terminalsAndLane (laneOf a))).arm a).state = .shareWait := by
        rw [raise_kept (fun t => t.arm a) fun _ _ _ => rfl]
        exact waiting
      refine ⟨load, waiting.trans state.symm, loaded, ?_, .refl l, fun _ => rfl, fun p => ?_, ?_, fun v header _ => ?_⟩
      · rw [raised (fun t => t.arm a) fun _ _ _ => rfl]
        exact waiting
      · rw [raise_port, raise_port]
        rfl
      · rw [raised State.settings fun _ _ _ => rfl, raise_kept State.settings fun _ _ _ => rfl]
        rfl
      · exact endEvent_of_header (header.trans (raised State.header fun _ _ _ => rfl))
    have notHeld : ((s.raise .shareWaitLong (terminalsAndLane (laneOf a))).arm a).state ≠ .held := by
      rw [raise_kept (fun t => t.arm a) fun _ _ _ => rfl]
      rw [waiting]
      decide
    obtain ⟨k, fired, waitTarget, header, listed⟩ := finds.fires answers0 answers1
      (fun _ => .inr ⟨by decide, notHeld⟩)
    have frame := endEvent_frame (s.shareTimerExpired a) ((frame_madeOn ((s.shareTimerExpired a).raise .shareWaitLong
      (terminalsAndLane (laneOf a)))).fireEvent (b := a) .shareWaitLong trivial (.refl _))
    have whole := endEvent_frame (s.shareTimerExpired a) ((frame_madeOn (s.shareTimerExpired a)).fireEvent (b := a)
      .shareWaitLong trivial ((State.Frame.refl _).raise .shareWaitLong (terminalsAndLane (laneOf a))))
    obtain ⟨⟨⟨k1, k2, k3, k4, k5, k6, k7, k8, k9, k10, k11⟩, k12, k13, k14⟩, _, _, _, _⟩ := whole
    refine ⟨_, s.raise .shareWaitLong (terminalsAndLane (laneOf a)), k, run, raise_portsRaised s .shareWaitLong _,
      raise_ports_only s .shareWaitLong _, fired, waitTarget, fun q mem => frame.flags q _ ?_, fun off => ?_,
      fun some_ => listed some_ (by decide), ⟨⟨k1, k2, k3, k4, k5, k6, k7, k8, k9, k10, k11⟩, k12, k13, k14⟩⟩
    · exact (raise_portsRaised (s.shareTimerExpired a) .shareWaitLong (terminalsAndLane (laneOf a))).flagged mem
    · rw [header off, raised State.header fun _ _ _ => rfl]
      rfl

end Sys2Proof.Machine
end

section
/-! PROOFS. MARK CHECKPOINT (R151). -/

namespace Sys2Proof.Machine

/-! ## Notices and the other changes of a state -/

/-- Each place of the ports is a port's. -/
theorem portIndex_surjective (j : Fin 6) : ∃ p, portIndex p = j := by
  match j with
  | 0 => exact ⟨.ta, rfl⟩
  | 1 => exact ⟨.tb, rfl⟩
  | 2 => exact ⟨.lp 0, rfl⟩
  | 3 => exact ⟨.lp 1, rfl⟩
  | 4 => exact ⟨.lp 2, rfl⟩
  | 5 => exact ⟨.lp 3, rfl⟩

/-- Two states that agree on each port and on all but the ports are one. -/
theorem eq_of_ports {s t : State} (rest : { s with ports := t.ports } = t) (ports : ∀ p, s.port p = t.port p) : s = t := by
  have same : s.ports = t.ports := by
    refine Vector.ext fun i h => ?_
    obtain ⟨p, at_⟩ := portIndex_surjective ⟨i, h⟩
    have port := ports p
    simp only [State.port, at_] at port
    exact port
  rw [← rest, ← same]

/-- Two changes of ports that commute on a port pass each other. -/
theorem modPort_comm (s : State) (p q : Port) {f g : PortState → PortState} (passes : ∀ x, g (f x) = f (g x)) :
    (s.modPort p f).modPort q g = (s.modPort q g).modPort p f := by
  refine eq_of_ports rfl fun r => ?_
  by_cases first : r = p
  · by_cases second : r = q
    · subst first; subst second
      simp [passes]
    · subst first
      simp [second]
  · by_cases second : r = q
    · subst second
      simp [first]
    · simp [first, second]

/-- A notice raised passes a change of a port that leaves the notices. -/
theorem modPort_raise {p : Port} {f : PortState → PortState} {n : Notice} (passes : ∀ x, (f x).raise n = f (x.raise n)) :
    ∀ (ps : List Port) (s : State), (s.modPort p f).raise n ps = (s.raise n ps).modPort p f
  | [], _ => rfl
  | q :: ps, s => by
    change ((s.modPort p f).modPort q (PortState.raise n)).raise n ps = _
    rw [modPort_comm s p q passes]
    exact modPort_raise passes ps (s.modPort q (PortState.raise n))

/-- A notice raised passes the taking of a request. -/
theorem accept_raise (s : State) (p : Port) (c t : Byte) (n : Notice) (ps : List Port) :
    (s.accept p c t).raise n ps = (s.raise n ps).accept p c t := 
  modPort_raise (f := fun x => { x with receive := .hunting, answer := .busy c t none }) (fun _ => rfl) ps s

/-- A notice raised passes a change of a load. -/
theorem modLoad_raise (s : State) (a : Fin 8) (f : Load → Load) (n : Notice) :
    ∀ ps, (s.raise n ps).modLoad a f = (s.modLoad a f).raise n ps := by
  intro ps
  induction ps generalizing s with
  | nil => rfl
  | cons p ps ih => exact ih (s.modPort p (PortState.raise n))

/-! ## Events that change one load and raise a notice -/

section Noticed

variable {s : State} {a : Fin 8} {l : Load} {f : Load → Load} (load : s.load? a = some l)
  (number : (f l).data.number = l.data.number) (changed : ¬ l.SameParts (f l)) (n : Notice) (ps : List Port)
include load number changed

/-- An event that changes a part of one load and raises a notice. -/
theorem endEvent_modLoad_raise : State.endEvent s ((s.modLoad a f).raise n ps) = (s.modLoad a fun y => (f y).bump).raise n ps := by
  have raised := fun {β : Type} (g : State → β) (port : ∀ s p f, g (s.modPort p f) = g s) =>
    raise_kept g port n ps (s.modLoad a f)
  rw [endEvent_of_one (s0 := s) (a := a) (raised State.header fun _ _ _ => rfl) fun b ne =>
      (raised (fun t => t.arm b) fun _ _ _ => rfl).trans (State.modArm_arm_ne _ _ _ _ ne),
    partsChanged_congr (raised (fun t => t.arm a) fun _ _ _ => rfl), if_pos ((partsChanged_modLoad load number).mpr changed),
    modLoad_raise, modLoad_modLoad]

/-- Such an event of a request that answers with the hold. -/
theorem answerHeld_modLoad_raise : State.answerHeld s ((s.modLoad a f).raise n ps) a =
      ((s.modLoad a fun y => (f y).bump).raise n ps,
        some (okay (.held l.data.number (s.arm a).state (f l).data.causes))) := by
  have ended := endEvent_modLoad_raise load number changed n ps
  have arm : ((s.modLoad a fun y => (f y).bump).raise n ps).arm a = (s.modLoad a fun y => (f y).bump).arm a :=
    raise_kept (fun t => t.arm a) (fun _ _ _ => rfl) n ps _
  rw [answerHeld_eq (m := (f l).bump) (by rw [ended, State.load?, arm]; exact load?_modLoad _ load), ended, arm,
    State.modLoad_arm_state]
  change (_, some (okay (.held (f l).data.number _ _))) = _
  rw [number]
  rfl

end Noticed

/-! ## MARK CHECKPOINT -/

/-- The load with a checkpoint's flag set. -/
def Load.flagSet (c : Fin 2) (y : Load) : Load := { y with data := y.data.setFlag c true }

/-- The two flags once one is set. -/
theorem setFlag_true_eq (d : LoadData) (c : Fin 2) :
    d.setFlag c true = { d with flag0 := decide (c = 0) || d.flag0, flag1 := decide (c = 1) || d.flag1 } := by
  match c with
  | 0 => rfl
  | 1 => rfl

/-- A flag leaves the load's number and its causes. -/
theorem flagSet_number (c : Fin 2) (y : Load) : (y.flagSet c).data.number = y.data.number := by
  rw [Load.flagSet, setFlag_true_eq]

theorem flagSet_causes (c : Fin 2) (y : Load) : (y.flagSet c).data.causes = y.data.causes := by
  rw [Load.flagSet, setFlag_true_eq]

/-- The load with a checkpoint marked in mode HALT while it is held. -/
def Load.haltMarked (c : Fin 2) (y : Load) : Load :=
  { y with data := { y.data.setFlag c true with causes := y.data.causes.put true (checkpointCause c) } }

/-- A change that leaves the load as it is changes nothing. -/
theorem modLoad_eq_self {s : State} {a : Fin 8} {l : Load} {f : Load → Load} (load : s.load? a = some l) (same : f l = l) :
    s.modLoad a f = s := by
  have held : s.arms[a.val].load = some l := load
  have whole : { s.arms[a.val] with load := s.arms[a.val].load.map f } = s.arms[a.val] := by
    rw [held, Option.map_some, same, ← held]
  rw [State.modLoad, State.modArm, whole, Vector.set_getElem_self]

/-- What MARK CHECKPOINT does for the load that the port names. -/
theorem checkpointMarked_of_names {s : State} {p : Port} {a : Fin 8} {n : Word24} {l : Load} (named : s.names p a n l)
    (opened : (s.arm a).state ≠ .closing) (c : Fin 2) :
    State.checkpointMarked p (armByte a) n (BitVec.ofNat 8 c.val) 0#8 s = State.answerHeld s (s.markFlag a l c) a ∧
      State.checkpointMarked p (armByte a) n (BitVec.ofNat 8 c.val) 1#8 s =
        State.answerHeld s ((s.markFlag a l c).addCauses a (.only (checkpointCause c))) a := by
  simp only [State.checkpointMarked, addressOpenLoad_of_names named opened]
  match c with
  | 0 => exact ⟨rfl, rfl⟩
  | 1 => exact ⟨rfl, rfl⟩

/-- A flag that is clear is set and CHECKPOINT is raised. -/
theorem markFlag_of_clear {s : State} {a : Fin 8} {l : Load} {c : Fin 2} (clear : l.data.flag c = false) :
    s.markFlag a l c = (s.modLoad a (Load.flagSet c)).raise .checkpoint (lanePorts (laneOf a)) :=
  if_neg (by simp [clear])

/-- A flag that is set stays. -/
theorem markFlag_of_set {s : State} {a : Fin 8} {l : Load} {c : Fin 2} (set : l.data.flag c = true) :
    s.markFlag a l c = s := if_pos set

/-- A clear flag that is set has changed. -/
theorem flagSet_changed {l m : Load} {c : Fin 2} (clear : l.data.flag c = false) (set : m.data.flag c = true) :
    ¬ l.SameParts m := by
  intro same
  have stays : m.data.flag c = l.data.flag c := by rw [LoadData.flag, LoadData.flag, same.flag0, same.flag1]
  rw [stays, clear] at set
  exact absurd set (by decide)

/-- The flag that has been set. -/
theorem flag_setFlag (d : LoadData) (c : Fin 2) : (d.setFlag c true).flag c = true := by
  match c with
  | 0 => rfl
  | 1 => rfl

/-- A flag that is set again. -/
theorem setFlag_of_set {d : LoadData} {c : Fin 2} (set : d.flag c = true) : d.setFlag c true = d := by
  match c, set with
  | 0, (set : d.flag0 = true) => exact congrArg (fun b => { d with flag0 := b }) set.symm
  | 1, (set : d.flag1 = true) => exact congrArg (fun b => { d with flag1 := b }) set.symm

/-- A set with a cause is as it was once the cause has joined. -/
theorem put_true_of_has {h : HoldCauses} {c : HoldCause} (has : h.has c = true) : h.put true c = h := by
  cases c <;> cases h <;> simp_all [HoldCauses.has, HoldCauses.put]

/-- The arm whose load has a checkpoint's flag set. -/
theorem markFlag_arm {s : State} {a : Fin 8} {l : Load} {c : Fin 2} (load : s.load? a = some l) :
    (s.markFlag a l c).arm a = { s.arm a with load := some (l.flagSet c) } := by
  have held : (s.arm a).load = some l := load
  cases flag : l.data.flag c with
  | true => rw [markFlag_of_set flag, Load.flagSet, setFlag_of_set flag, ← held]
  | false =>
    rw [markFlag_of_clear flag, raise_kept (fun t => t.arm a) (fun _ _ _ => rfl), State.modLoad, State.modArm_arm_self, held]
    rfl

section Mark

variable {p : Port} {tag : Byte} {a : Fin 8} {n : Word24} {l : Load} {c : Fin 2} {s : State}
  (free : s.free p = true) (terminal : p.isTerminal = true) (named : s.names p a n l) (opened : (s.arm a).state ≠ .closing)
include free terminal named opened

/-- MARK CHECKPOINT in mode NOTE (R151). -/
theorem mark_note :
    ∃ u, exec (.markCheckpoint p tag (armByte a) n (BitVec.ofNat 8 c.val) 0#8) s =
        .next (u.answered p .markCheckpoint tag (okay (.held l.data.number (s.arm a).state l.data.causes))) ∧
      { u with ports := s.ports } =
        (if l.data.flag c = true then s else s.modLoad a fun y => (y.flagSet c).bump) ∧
      s.portsRaised u .checkpoint (if l.data.flag c = true then [] else lanePorts (laneOf a)) := by
  have load : s.load? a = some l := named.2.1
  have does := (checkpointMarked_of_names (s := s.accept p ReqCode.markCheckpoint.toByte tag) named opened c).1
  have may := mayIssue_of_terminal terminal (rc := .markCheckpoint) (by decide)
  cases flag : l.data.flag c with
  | true =>
    refine ⟨s, next_unchanged free may rfl (does.trans ?_), rfl, fun p mem => absurd mem (by simp), fun _ _ => rfl⟩
    rw [markFlag_of_set flag, answerHeld_eq (m := l) (by rw [endEvent_self]; exact load), endEvent_self]
    rfl
  | false =>
    refine ⟨(s.modLoad a fun y => (y.flagSet c).bump).raise .checkpoint (lanePorts (laneOf a)),
      next_answered free may rfl (does.trans ?_), raise_ports_only (s.modLoad a fun y => (y.flagSet c).bump) _ _,
      raise_portsRaised (s.modLoad a fun y => (y.flagSet c).bump) _ _⟩
    rw [markFlag_of_clear flag, answerHeld_modLoad_raise (s := s.accept p ReqCode.markCheckpoint.toByte tag)
      (f := Load.flagSet c) load (flagSet_number c l) (flagSet_changed flag (flag_setFlag l.data c)), accept_modLoad, accept_raise, flagSet_causes]
    rfl

omit free terminal opened in
/-- The cause of a checkpoint marked while the load is held joins its set. -/
theorem markFlag_addCauses_of_held (held : (s.arm a).state = .held) :
    (s.markFlag a l c).addCauses a (.only (checkpointCause c)) =
      (s.modLoad a (Load.haltMarked c)).raise .checkpoint (if l.data.flag c = true then [] else lanePorts (laneOf a)) := by
  have load : s.load? a = some l := named.2.1
  cases flag : l.data.flag c with
  | true =>
    rw [markFlag_of_set flag, addCauses_of_held (only_isEmpty _) held]
    refine modLoad_congr load ?_
    rw [union_only, Load.haltMarked, setFlag_of_set flag]
  | false =>
    have marked : (((s.modLoad a (Load.flagSet c)).raise .checkpoint (lanePorts (laneOf a))).arm a).state = .held := by
      rw [raise_kept (fun t => t.arm a) fun _ _ _ => rfl, State.modLoad_arm_state]
      exact held
    rw [markFlag_of_clear flag, addCauses_of_held (only_isEmpty _) marked, modLoad_raise, modLoad_modLoad]
    refine congrArg (fun t : State => t.raise .checkpoint (lanePorts (laneOf a))) (modLoad_congr load ?_)
    rw [union_only, Load.haltMarked, Load.flagSet, setFlag_true_eq]

/-- MARK CHECKPOINT in mode HALT for a held load (R151). -/
theorem mark_halt_held (held : (s.arm a).state = .held) :
    ∃ u, exec (.markCheckpoint p tag (armByte a) n (BitVec.ofNat 8 c.val) 1#8) s =
        .next (u.answered p .markCheckpoint tag
          (okay (.held l.data.number .held (l.data.causes.put true (checkpointCause c))))) ∧
      { u with ports := s.ports } =
        s.modLoad a (fun y =>
          if l.data.flag c = true ∧ l.data.causes.has (checkpointCause c) = true then y else (y.haltMarked c).bump) ∧
      s.portsRaised u .checkpoint (if l.data.flag c = true then [] else lanePorts (laneOf a)) := by
  have load : s.load? a = some l := named.2.1
  have does := (checkpointMarked_of_names (s := s.accept p ReqCode.markCheckpoint.toByte tag) named opened c).2
  rw [markFlag_addCauses_of_held (s := s.accept p ReqCode.markCheckpoint.toByte tag) named held] at does
  have may := mayIssue_of_terminal terminal (rc := .markCheckpoint) (by decide)
  by_cases stays : l.data.flag c = true ∧ l.data.causes.has (checkpointCause c) = true
  · obtain ⟨set, has⟩ := stays
    have same : Load.haltMarked c l = l := by rw [Load.haltMarked, setFlag_of_set set, put_true_of_has has]
    rw [if_pos set, modLoad_eq_self (s := s.accept p ReqCode.markCheckpoint.toByte tag) load same] at does
    refine ⟨s, next_unchanged free may rfl (does.trans ?_), ?_, ?_⟩
    · change State.answerHeld _ (s.accept p ReqCode.markCheckpoint.toByte tag) a = _
      rw [answerHeld_eq (m := l) (by rw [endEvent_self]; exact load), endEvent_self, put_true_of_has has]
      change (_, some (okay (.held _ (s.arm a).state _))) = _
      rw [held]
      rfl
    · rw [modLoad_eq_self load (by rw [if_pos ⟨set, has⟩])]
    · rw [if_pos set]
      exact ⟨fun p mem => absurd mem (by simp), fun _ _ => rfl⟩
  · have changed : ¬ l.SameParts (l.haltMarked c) := by
      intro same
      refine stays ⟨?_, ?_⟩
      · by_contra clear
        exact flagSet_changed (by simpa using clear) (flag_setFlag l.data c) same
      · rw [← same.causes]
        exact has_put ..
    refine ⟨(s.modLoad a fun y => (y.haltMarked c).bump).raise .checkpoint
      (if l.data.flag c = true then [] else lanePorts (laneOf a)), next_answered free may rfl (does.trans ?_), ?_, ?_⟩
    · rw [answerHeld_modLoad_raise (s := s.accept p ReqCode.markCheckpoint.toByte tag) (f := Load.haltMarked c) load
        (flagSet_number c l) changed, accept_modLoad, accept_raise]
      change (_, some (okay (.held _ (s.arm a).state _))) = _
      rw [held]
      rfl
    · simp only [if_neg stays]
      exact raise_ports_only (s.modLoad a fun y => (y.haltMarked c).bump) _ _
    · exact raise_portsRaised (s.modLoad a fun y => (y.haltMarked c).bump) _ _

/-- MARK CHECKPOINT in mode HALT for a load that a hold reaches (R58, R151). -/
theorem mark_halt_resumes {r : ResumePhase} (resume : (s.arm a).state.toResume = some r) :
    ∃ t m, exec (.markCheckpoint p tag (armByte a) n (BitVec.ofNat 8 c.val) 1#8) s = .next t ∧
      EndsHeld s t a r (l.haltMarked c) m ∧ l.amendmentApplied m ∧
      (l.data.flag c = false → ∀ q ∈ lanePorts (laneOf a), t.flagged q .checkpoint = true) ∧
      t.response? p = some (okay (.held l.data.number .held m.data.causes)) ∧ s.SameOutsideArms t := by
  have load : s.load? a = some l := named.2.1
  have does := (checkpointMarked_of_names (s := s.accept p ReqCode.markCheckpoint.toByte tag) named opened c).2
  have may := mayIssue_of_terminal terminal (rc := .markCheckpoint) (by decide)
  obtain ⟨notHeld, _⟩ := ne_of_toResume resume
  have arm := markFlag_arm (s := s.accept p ReqCode.markCheckpoint.toByte tag) (c := c) load
  have kept := (frame_madeOn (s.accept p ReqCode.markCheckpoint.toByte tag)).markFlag l c (b := a) trivial (.refl _)
  have notice : l.data.flag c = false → ∀ q ∈ lanePorts (laneOf a),
      ((s.accept p ReqCode.markCheckpoint.toByte tag).markFlag a l c).flagged q .checkpoint = true := by
    intro clear q mem
    rw [markFlag_of_clear clear]
    exact (raise_portsRaised _ _ _).flagged mem
  have holdStart : ((s.accept p ReqCode.markCheckpoint.toByte tag).markFlag a l c).holdStart = s.holdStart := by
    rw [State.holdStart, kept.elsewhere.settings]
    rfl
  have frame := endEvent_frame (s.accept p ReqCode.markCheckpoint.toByte tag)
    ((frame_madeOn _).addCauses (b := a) (.only (checkpointCause c)) trivial kept)
  have later := endEvent_frame (s.accept p ReqCode.markCheckpoint.toByte tag)
    ((frame_madeOn ((s.accept p ReqCode.markCheckpoint.toByte tag).markFlag a l c)).addCauses (b := a)
      (.only (checkpointCause c)) trivial (.refl _))
  generalize (s.accept p ReqCode.markCheckpoint.toByte tag).markFlag a l c = w at *
  obtain ⟨m, ends, amended⟩ := endsHeld_of_causes (s0 := s.accept p ReqCode.markCheckpoint.toByte tag) (s := w)
    (c := .only (checkpointCause c)) load (congrArg Arm.load arm) (flagSet_number c l) (only_isEmpty _)
    (by rw [arm]; exact resume) notHeld
  have marked : l.haltMarked c =
      { l.flagSet c with data := { (l.flagSet c).data with causes := (l.flagSet c).data.causes.union (.only (checkpointCause c)) } } := by
    rw [flagSet_causes, union_only]
    rfl
  rw [← marked] at ends
  have number : m.data.number = l.data.number := ends.moved.number.trans (flagSet_number c l)
  obtain ⟨run, response, elsewhere⟩ := next_event free may rfl (does.trans (answerHeld_eq ends.load)) frame
  rw [ends.state, number] at run response elsewhere
  have applied : l.amendmentApplied m := by
    refine amended.of_same rfl ?_ ?_ ?_ ?_ ?_ ?_ <;> rw [Load.flagSet, setFlag_true_eq]
  refine ⟨_, m, run, ⟨?_, ends.moved, ends.resume, ends.waitTarget, ends.shares, ends.listed⟩, applied,
    fun clear q mem => ?_, response, elsewhere⟩
  · exact ends.arm.trans (by rw [arm, holdStart]; rfl)
  · rw [respond_flagged]
    exact later.flags q _ (notice clear q mem)

end Mark

/-- Settles O26: by the mode, and for HALT by whether a hold reaches the load or holds it. -/
theorem markCheckpointSetsFlag : Obligations.MarkCheckpointSetsFlag := by
  unfold Obligations.MarkCheckpointSetsFlag
  intro p tag a n l c flag cause s free terminal named opened flagOf causeOf
  obtain rfl : cause = checkpointCause c := causeOf
  obtain rfl : flag = l.data.flag c := flagOf
  have load : s.load? a = some l := named.2.1
  refine ⟨?note, fun r resume => ?resumes, fun held => ?held⟩
  case note =>
    obtain ⟨u, run, rest, notice⟩ := mark_note (tag := tag) (c := c) free terminal named opened
    refine ⟨u, run, rest.trans ?_, notice⟩
    split
    · rfl
    · exact modLoad_congr load (by rw [Load.flagSet, setFlag_true_eq]; rfl)
  case resumes =>
    obtain ⟨t, m, run, ends, amended, notice, response, elsewhere⟩ :=
      mark_halt_resumes (tag := tag) (c := c) free terminal named opened resume
    have revision : (l.haltMarked c).data.revision = l.data.revision := by rw [Load.haltMarked, setFlag_true_eq]
    refine ⟨t, m, run, ends.load, ends.state, ends.main, ends.ethanol, ends.hold, ends.noFlow, ends.resume, amended,
      ends.shares, ends.moved.causes, ?_, ?_, by rw [ends.moved.revision, revision], notice, response, elsewhere⟩
    · rw [ends.moved.flag0, Load.haltMarked, setFlag_true_eq]
    · rw [ends.moved.flag1, Load.haltMarked, setFlag_true_eq]
  case held =>
    obtain ⟨u, run, rest, notice⟩ := mark_halt_held (tag := tag) (c := c) free terminal named opened held
    refine ⟨u, run, rest.trans (modLoad_congr load ?_), notice⟩
    by_cases stays : l.data.flag c = true ∧ l.data.causes.has (checkpointCause c) = true
    · obtain ⟨set, has⟩ := stays
      have same := setFlag_of_set set
      rw [setFlag_true_eq] at same
      rw [if_pos ⟨set, has⟩, if_pos ⟨set, has⟩, put_true_of_has has]
      exact congrArg (fun d => { l with data := { l.data with flag0 := d.flag0, flag1 := d.flag1 } }) same.symm
    · rw [if_neg stays, if_neg stays, Load.haltMarked, setFlag_true_eq]
      rfl

end Sys2Proof.Machine
end

section
/-! PROOFS. AMEND LOAD (R17, R54 to R57). -/

namespace Sys2Proof.Machine

/-! ## The revision of an amended load (R17) -/

/-- The next revision is another one. -/
theorem nextRevision_ne (r : Nat) : nextRevision r ≠ r := by
  unfold nextRevision
  split <;> omega

/-- An event that changes one load, whose revision then advances by one in any case. -/
theorem bumpIfSame_endEvent {s : State} {a : Fin 8} {l : Load} {f : Load → Load} (load : s.load? a = some l)
    (number : (f l).data.number = l.data.number) (revision : (f l).data.revision = l.data.revision) :
    (State.endEvent s (s.modLoad a f)).bumpIfSame a l.data.revision = s.modLoad a fun y => (f y).bump := by
  by_cases same : l.SameParts (f l)
  · rw [endEvent_modLoad_quiet load number same, State.bumpIfSame, modLoad_modLoad]
    exact modLoad_congr load (if_pos revision)
  · rw [endEvent_modLoad_changed load number same, State.bumpIfSame, modLoad_modLoad]
    refine modLoad_congr load (if_neg ?_)
    change nextRevision (f l).data.revision ≠ _
    rw [revision]
    exact nextRevision_ne _

/-- A revision that has advanced stays. -/
theorem bumpIfSame_of_ne {s : State} {a : Fin 8} {m : Load} {r : Nat} (load : s.load? a = some m)
    (ne : m.data.revision ≠ r) : s.bumpIfSame a r = s := modLoad_eq_self load (if_neg ne)

/-- An amendment that changes one load. -/
theorem amendEffect_of_modLoad {s : State} {a : Fin 8} {l : Load} {f : Load → Load} {v : Nat} (load : s.load? a = some l)
    (amends : s.amendArm a v = s.modLoad a f) (number : (f l).data.number = l.data.number)
    (revision : (f l).data.revision = l.data.revision) :
    s.amendEffect a l v = (s.modLoad a fun y => (f y).bump,
      some (okay (.amended (nextRevision l.data.revision) (s.arm a).state.isBlending))) := by
  rw [State.amendEffect, amends, bumpIfSame_endEvent load number revision, State.revisionOf,
    load?_modLoad (fun y => (f y).bump) load]
  change (_, some (okay (.amended (nextRevision (f l).data.revision) _))) = _
  rw [revision]

/-! ## The checks (R17, R54) -/

/-- The record that an active load's number finds. -/
theorem recordWith_of_armOfLoad {s : State} {a : Fin 8} {l : Load} {n : Nat} (found : s.armOfLoad n = some a)
    (load : s.load? a = some l) : s.recordWith n = some (s.recordOf a l) := by
  simp only [State.recordWith, found, load]

/-- An amendment within its limits is not refused. -/
theorem amendRefusal_eq_none {s : State} {p : Port} {a : Fin 8} {l : Load} {v : Nat} (opened : (s.arm a).state ≠ .closing)
    (low : 100 ≤ v) (high : v ≤ l.data.presetLimit) (above : l.data.product < v) (enough : l.recipe.minimumPreset ≤ v)
    (lowers : p.isTerminal = false → v < l.data.preset ∧ ∀ q, l.data.pending = some q → v < q) :
    s.amendRefusal p a l v = none := by
  have inside : inRange Config.minPreset l.data.presetLimit v = true := by
    simp [inRange, Config.minPreset, low, high]
  have lane : State.laneLowers p l v = true := by
    unfold State.laneLowers
    cases terminal : p.isTerminal with
    | true => rfl
    | false =>
      obtain ⟨below, belowPending⟩ := lowers terminal
      cases pending : l.data.pending with
      | none => simp [below]
      | some q => simp [below, belowPending q pending]
  rw [State.amendRefusal, if_neg opened, if_neg (by simp [inside]), if_neg (by simp [lane]), if_neg (by omega),
    if_neg (by omega)]

/-! ## What an accepted amendment does (R55, R56) -/

/-- In a blending phase the amendment is staged. -/
theorem amendArm_of_blending {s : State} {a : Fin 8} (blending : (s.arm a).state.isBlending = true) (v : Nat) :
    s.amendArm a v = s.modLoad a fun y => { y with data := { y.data with pending := some v } } := by
  unfold State.amendArm
  cases state : (s.arm a).state <;> rw [state] at blending <;> first | rfl | exact absurd blending (by decide)

/-- The load with its preset amended, and flush end `e`. -/
def Load.amendedTo (v : Nat) (e : Option Nat) (y : Load) : Load := { y.amend v with flushEnd := e }

/-- An amended load that flushes has its flush end adjusted. -/
theorem adjustFlushEnd_amend {l : Load} {v e0 : Nat} {e : Option Nat} (flushEnd : l.flushEnd = some e0)
    (adjusted : (l.flushKind = some .ordered ∧ e = some v) ∨ (l.flushKind = some .cut ∧ e = some (min e0 v))) :
    (l.amend v).adjustFlushEnd = l.amendedTo v e := by
  rcases adjusted with ⟨kind, rfl⟩ | ⟨kind, rfl⟩
  · simp only [Load.adjustFlushEnd, Load.amend, Load.amendedTo, LoadData.withPreset, flushEnd, kind]
  · simp only [Load.adjustFlushEnd, Load.amend, Load.amendedTo, LoadData.withPreset, flushEnd, kind]

/-- In PRIME, in SHARE_WAIT below the flush point, in HELD and in FLUSH the amendment is applied and the arm stays. -/
theorem amendArm_applies {s : State} {a : Fin 8} {l : Load} {v : Nat} {e : Option Nat} (load : s.load? a = some l)
    (standing : ((s.arm a).state = .prime ∧ e = l.flushEnd) ∨
      ((s.arm a).state = .shareWait ∧ l.data.product < v - l.recipe.flushVolume ∧ e = l.flushEnd) ∨
      ((s.arm a).state = .held ∧ l.resume ≠ some .flush ∧ e = l.flushEnd) ∨
      (((s.arm a).state = .flush ∨ ((s.arm a).state = .held ∧ l.resume = some .flush)) ∧
        ∃ e0, l.flushEnd = some e0 ∧
          ((l.flushKind = some .ordered ∧ e = some v) ∨ (l.flushKind = some .cut ∧ e = some (min e0 v))))) :
    s.amendArm a v = s.modLoad a (Load.amendedTo v e) := by
  unfold State.amendArm
  rcases standing with ⟨state, rfl⟩ | ⟨state, below, rfl⟩ | ⟨state, other, rfl⟩ | ⟨state | ⟨state, flush⟩, e0, flushEnd, adjusted⟩
  · rw [state]
    exact modLoad_congr load rfl
  · simp only [state, load?_modLoad _ load]
    rw [if_neg (show ¬ (l.amend v).data.flushPoint ≤ (l.amend v).data.product from Nat.not_le.mpr below)]
    exact modLoad_congr load rfl
  · rw [state]
    exact modLoad_congr load (if_neg other)
  · rw [state]
    exact modLoad_congr load (adjustFlushEnd_amend flushEnd adjusted)
  · rw [state]
    exact modLoad_congr load ((if_pos flush).trans (adjustFlushEnd_amend flushEnd adjusted))

/-- In SHARE_WAIT past the new flush point the arm flushes. -/
theorem amendArm_flushes {s : State} {a : Fin 8} {l : Load} {v : Nat} (load : s.load? a = some l)
    (waiting : (s.arm a).state = .shareWait) (past : v - l.recipe.flushVolume ≤ l.data.product) :
    s.amendArm a v = (s.modLoad a fun y => y.amend v).enterFlush a .ordered := by
  unfold State.amendArm
  simp only [waiting, load?_modLoad _ load]
  exact if_pos past

section Amend

variable {p : Port} {tag : Byte} {a : Fin 8} {n v : Word24} {l : Load} {s : State}
  (own : p.isTerminal = true ∨ p = .lp l.data.lane) (found : s.armOfLoad n.toNat = some a) (load : s.load? a = some l)
  (linked : (s.port p).link = some (.load n.toNat l.data.revision)) (opened : (s.arm a).state ≠ .closing)
  (low : 100 ≤ v.toNat) (high : v.toNat ≤ l.data.presetLimit) (above : l.data.product < v.toNat)
  (enough : l.recipe.minimumPreset ≤ v.toNat)
  (lowers : p.isTerminal = false → v.toNat < l.data.preset ∧ ∀ q, l.data.pending = some q → v.toNat < q)
include own found load linked opened low high above enough lowers

/-- An amendment that passes every check takes effect. -/
theorem loadAmended_accepted : State.loadAmended p n v s = s.amendEffect a l v.toNat := by
  have record := recordWith_of_armOfLoad found load
  have may : s.mayAmend p n.toNat = true := by
    cases p with
    | ta => rfl
    | tb => rfl
    | lp k =>
      have lane : l.data.lane = k := by
        rcases own with terminal | same
        · exact absurd terminal (by simp [Port.isTerminal])
        · exact (Port.lp.inj same).symm
      simp only [State.mayAmend, record]
      exact decide_eq_true lane
  have link : s.loadLinked p n.toNat = true := by
    simp only [State.loadLinked, record, linked]
    exact decide_eq_true rfl
  simp only [State.loadAmended, may, link, Bool.true_eq_false, if_false, found, load,
    amendRefusal_eq_none opened low high above enough lowers]

/-- An accepted amendment that changes the load alone. -/
theorem exec_amendLoad (free : s.free p = true) {f : Load → Load}
    (amends : ∀ t : State, t.arm a = s.arm a → t.amendArm a v.toNat = t.modLoad a f)
    (number : (f l).data.number = l.data.number) (revision : (f l).data.revision = l.data.revision) :
    exec (.amendLoad p tag n v) s =
      .next (((s.modLoad a fun y => (f y).bump).modPort p fun x => { x with link := none }).answered p .amendLoad tag
        (okay (.amended (nextRevision l.data.revision) (s.arm a).state.isBlending))) := by
  have may : p.mayIssue .amendLoad = true := by cases p <;> rfl
  have linked' : ((s.accept p ReqCode.amendLoad.toByte tag).port p).link = some (.load n.toNat l.data.revision) := by
    rw [accept_link]
    exact linked
  refine next_unlinked free may rfl ((loadAmended_accepted (s := s.accept p ReqCode.amendLoad.toByte tag) own found load
    linked' opened low high above enough lowers).trans ?_)
  exact amendEffect_of_modLoad (s := s.accept p ReqCode.amendLoad.toByte tag) load (amends _ rfl) number revision

end Amend

/-- Settles O22: staged in a blending phase, applied elsewhere, and a flush past the new flush point. -/
theorem amendStagesOrApplies : Obligations.AmendStagesOrApplies := by
  unfold Obligations.AmendStagesOrApplies
  intro p tag a n v l s free own found load number linked low high above enough lowers
  refine ⟨fun blending => ?staged, fun e standing => ?applied, fun waiting past => ?flushes⟩
  case staged =>
    have opened : (s.arm a).state ≠ .closing := fun e => absurd blending (by rw [e]; decide)
    have run := exec_amendLoad (tag := tag) (f := fun y => { y with data := { y.data with pending := some v.toNat } }) own
      found load linked opened low high above enough lowers free
      (fun t arm => amendArm_of_blending (by rw [arm]; exact blending) v.toNat) rfl rfl
    rw [blending] at run
    exact run
  case applied =>
    have still : (s.arm a).state ≠ .closing ∧ (s.arm a).state.isBlending = false := by
      rcases standing with ⟨state, _⟩ | ⟨state, _⟩ | ⟨state, _⟩ | ⟨state | ⟨state, _⟩, _⟩ <;>
        (rw [state]; exact ⟨by decide, rfl⟩)
    have run := exec_amendLoad (tag := tag) (f := Load.amendedTo v.toNat e) own found load linked still.1 low high above
      enough lowers free (fun t arm => amendArm_applies (l := l) ((congrArg Arm.load arm).trans load)
        (by rw [arm]; exact standing)) rfl rfl
    rw [still.2] at run
    exact run
  case flushes =>
    have opened : (s.arm a).state ≠ .closing := by rw [waiting]; decide
    have may : p.mayIssue .amendLoad = true := by cases p <;> rfl
    have linked' : ((s.accept p ReqCode.amendLoad.toByte tag).port p).link = some (.load n.toNat l.data.revision) := by
      rw [accept_link]
      exact linked
    have accepted := loadAmended_accepted (s := s.accept p ReqCode.amendLoad.toByte tag) own found load linked' opened low
      high above enough lowers
    obtain ⟨m, ends⟩ := endsFlush_of_enter (s0 := s.accept p ReqCode.amendLoad.toByte tag)
      (s := (s.accept p ReqCode.amendLoad.toByte tag).modLoad a fun y => y.amend v.toNat) load
      (load?_modLoad (fun y => y.amend v.toNat) load) rfl .ordered above (by
        change (s.arm a).state ≠ .flush
        rw [waiting]
        decide)
    have frame := endEvent_frame (s.accept p ReqCode.amendLoad.toByte tag)
      ((frame_madeOn (s.accept p ReqCode.amendLoad.toByte tag)).amendArm v.toNat (b := a) trivial (.refl _))
    have revision : m.data.revision = nextRevision l.data.revision := ends.moved.revision
    rw [State.amendEffect, amendArm_flushes (s := s.accept p ReqCode.amendLoad.toByte tag) load waiting past,
      bumpIfSame_of_ne ends.load (by rw [revision]; exact nextRevision_ne _), State.revisionOf, ends.load] at accepted
    rw [amendArm_flushes (s := s.accept p ReqCode.amendLoad.toByte tag) load waiting past] at frame
    generalize State.endEvent _ _ = w at ends frame accepted
    have answer : (w.port p).answer.isBusy = true := by
      rw [frame.answer p, accept_port_self]
      rfl
    have run := takeRequest_acts free may accepted
    rw [clearIfConditional_of rfl] at run
    obtain ⟨⟨⟨k1, k2, k3, k4, k5, k6, k7, k8, k9, k10, k11⟩, k12, k13, k14⟩, _, _, _, _⟩ := frame
    refine ⟨_, m, congrArg Host.Outcome.next run, ends.load, ends.state, ends.main, ends.ethanol, ends.noFlow, ends.listed,
      ends.shares, ends.flushEnd, ends.flushKind, ends.waitTarget, ends.moved.endDue, ends.moved.data, ?_, ?_,
      ⟨k1, k2, k3, k4, k5, k6, k7, k8, k9, k10, k11⟩, k12, k13, k14⟩
    · rw [State.respond, State.modPort_port_self, State.modPort_port_self]
    · rw [response?_respond (by rw [State.modPort_port_self]; exact answer)]
      change some (okay (.amended m.data.revision (s.arm a).state.isBlending)) = _
      rw [revision, waiting]
      rfl

end Sys2Proof.Machine
end

section
/-! PROOFS. The losses of the permissives and the assertion of ESD (R66, R111, R112, R114, R132, R153 to R155). -/

namespace Sys2Proof.Machine

/-! ## One arm in a fold over arms -/

/-- What a fold over arms does with one of them: `P` holds until it is reached, `Q` from then on. -/
theorem foldl_at {P Q : State → Prop} {f : State → Fin 8 → State} {a : Fin 8} {xs : List (Fin 8)} (nodup : xs.Nodup)
    (mem : a ∈ xs) (before : ∀ t b, b ≠ a → P t → P (f t b)) (at_ : ∀ t, P t → Q (f t a))
    (after : ∀ t b, b ≠ a → Q t → Q (f t b)) {s : State} (hs : P s) : Q (xs.foldl f s) := by
  have goesOn : ∀ (R : State → Prop), (∀ t b, b ≠ a → R t → R (f t b)) → ∀ (ys : List (Fin 8)), a ∉ ys → ∀ t, R t →
      R (ys.foldl f t) := by
    intro R kept ys
    induction ys with
    | nil => exact fun _ t ht => ht
    | cons y ys ih =>
      intro away t ht
      exact ih (fun m => away (List.mem_cons_of_mem _ m)) _ (kept t y (fun e => away (e ▸ List.mem_cons_self)) ht)
  obtain ⟨front, back, rfl⟩ := List.append_of_mem mem
  rw [List.nodup_append, List.nodup_cons] at nodup
  obtain ⟨_, ⟨notBack, _⟩, apart⟩ := nodup
  rw [List.foldl_append, List.foldl_cons]
  exact goesOn Q after back notBack _ (at_ _ (goesOn P before front (fun m => apart _ m _ List.mem_cons_self rfl) s hs))

/-- An event of the fold over arms, seen at one of them: until it is reached the arm is as it was, and from then on what its own
operation has made of it, to which the others do nothing. -/
structure State.Reached (b : State) (f : State → Fin 8 → State) (a : Fin 8) (u : State) : Prop where
  frame : b.Frame u
  own : ∃ t, b.Frame t ∧ t.arm a = b.arm a ∧ (f t a).Spares a u

/-- A fold over arms whose operations keep the frame and leave the other arms, seen at an arm that its own operation leaves
waiting for no shares. -/
theorem foldl_reached {b : State} {f : State → Fin 8 → State} {a : Fin 8} {xs : List (Fin 8)} (nodup : xs.Nodup)
    (mem : a ∈ xs) (frame : ∀ t x, b.Frame t → b.Frame (f t x)) (left : ∀ t x, x ≠ a → (f t x).arm a = t.arm a)
    (spares : ∀ t u x, x ≠ a → State.Spares a u t → State.Spares a u (f t x))
    (unlisted : ∀ t, t.arm a = b.arm a → (f t a).notListed a) : b.Reached f a (xs.foldl f b) :=
  foldl_at (P := fun t => b.Frame t ∧ t.arm a = b.arm a) nodup mem
    (fun t x ne ⟨k, same⟩ => ⟨frame t x k, (left t x ne).trans same⟩)
    (fun t ⟨k, same⟩ => ⟨frame t a k, t, k, same, rfl, rfl, unlisted t same⟩)
    (fun t x ne ⟨k, u, ku, same, spared⟩ => ⟨frame t x k, u, ku, same, spares t _ x ne spared⟩)
    ⟨.refl b, rfl⟩

/-! ## The loss of a lane permissive (R155) -/

/-- The arms of a lane. -/
theorem mem_armsOf {a : Fin 8} {l : Fin 4} (lane : laneOf a = l) : a ∈ armsOf l := by
  subst lane
  revert a
  decide

/-- The arms of a lane are two. -/
theorem armsOf_nodup : ∀ l : Fin 4, (armsOf l).Nodup := by decide

/-- Settles O48: each load that a hold reaches enters HELD, and the serving at the end spares it. -/
theorem laneLossHoldsLoads : Obligations.LaneLossHoldsLoads := by
  unfold Obligations.LaneLossHoldsLoads
  intro l s present
  have run : exec (.lanePermissiveLoss l) s = .next (State.endEvent s
      ((armsOf l).foldl (fun t a => t.addCauses a (.only .permissive)) (s.setLanePermissive l false))) :=
    congrArg Host.Outcome.next (if_pos present)
  have raised := fun {β : Type} (g : State → β) (port : ∀ s p f, g (s.modPort p f) = g s) => raise_kept g port .trip
    (terminalsAndLane l) { s with trips := { s.trips with lanes := s.trips.lanes.set l.val false } }
  have begun : ({ s with trips := { s.trips with lanes := s.trips.lanes.set l.val false } } : State).Frame
      (s.setLanePermissive l false) := (State.Frame.refl _).raise .trip (terminalsAndLane l)
  have frame := endEvent_frame s (Leaving.foldl (P := State.Frame _) (armsOf l) begun
    fun t a k => (frame_madeOn _).addCauses (b := a) (.only .permissive) trivial k)
  have trip := (trip_madeOn (s.setLanePermissive l false)).endEvent s (fun _ => trivial)
    (Leaving.foldl (P := fun t => ∀ p, t.flagged p .trip = (s.setLanePermissive l false).flagged p .trip) (armsOf l) (fun _ => rfl)
      fun t a k => (trip_madeOn _).addCauses (b := a) (.only .permissive) trivial k)
  have notice := raise_raisedOn s .trip (terminalsAndLane l)
  obtain ⟨⟨⟨k1, k2, k3, k4, k5, k6, k7, k8, k9, k10, k11⟩, k12, k13, k14⟩, trips, _, _, _⟩ := frame
  refine ⟨_, run, trips, ⟨fun p mem => ?_, fun p away => ?_⟩, ⟨⟨k1, k2, k3, k4, k5, k6, k7, k8, k9, k10, k11⟩, k12, k13, k14⟩,
    fun a y r lane load resume => ?_⟩
  · rw [trip p]
    exact (raise_portsRaised _ _ _).flagged mem
  · rw [trip p]
    exact raise_flagged _ _ _ _ _ |>.trans (by simp [show p ∉ terminalsAndLane l from away]; rfl)
  · obtain ⟨notHeld, _⟩ := ne_of_toResume resume
    have arm0 : (s.setLanePermissive l false).arm a = s.arm a := raised (fun t => t.arm a) fun _ _ _ => rfl
    have resumes : ∀ t : State, t.arm a = (s.setLanePermissive l false).arm a → (t.arm a).state.toResume = some r := by
      intro t same
      rw [same, arm0]
      exact resume
    have reached : (s.setLanePermissive l false).Reached (fun t b => t.addCauses b (.only .permissive)) a _ :=
      foldl_reached (armsOf_nodup l) (mem_armsOf lane)
        (fun t b k => (frame_madeOn _).addCauses (b := b) (.only .permissive) trivial k)
        (fun t b ne => ((untouched_actsOn a t).addCauses (b := b) (.only .permissive) ne ⟨rfl, rfl⟩).1)
        (fun t u b ne k => (spares_madeOn a u).addCauses (b := b) (.only .permissive) ne k)
        (fun t same => by rw [addCauses_of_toResume (only_isEmpty _) (resumes t same)]; exact (enterHeld_spares _ a r).listed)
    obtain ⟨_, t, _, same, spared⟩ := reached
    have loaded : t.load? a = some y := by rw [State.load?, same, arm0]; exact load
    rw [addCauses_of_toResume (only_isEmpty _) (resumes t same)] at spared
    obtain ⟨m, ends⟩ := endsHeld_of_spared (s0 := s) load (load?_modLoad _ loaded) rfl r notHeld (spared.served s)
    exact ⟨ends.state, ends.main, ends.ethanol, ends.shares, m, ends.load, (congrArg HoldCauses.permissive ends.moved.causes).trans
        (congrArg HoldCauses.permissive (union_only y.data.causes .permissive)), ends.resume,
      ends.moved.amended.of_same rfl rfl rfl rfl rfl rfl rfl, ends.moved.revision⟩

/-! ## The loss of the header permissive (R111, R112) -/

/-- Every port is in the list of all. -/
theorem mem_allPorts (p : Port) : p ∈ allPorts := by
  cases p with
  | ta => decide
  | tb => decide
  | lp l => revert l; decide

/-- The header permissive is lost, and TRIP is raised. -/
def State.supplyCut (s : State) : State :=
  ({ s with trips := { s.trips with header := false } } : State).raise .trip allPorts

/-- Each arm has been told of the loss, in ascending number. -/
def State.supplyTaken (s : State) : State := allArms.foldl State.supplyLostArm s.supplyCut

/-- The load whose supply is at fault. -/
def Load.supplyFaulted (l : Load) : Load :=
  { l with
    data := { l.data with faults := { l.data.faults with ethanolSupply := true } }
    endDue := some (l.endDue.getD .ethanolSupply) }

/-- The fault of the supply at an arm. -/
theorem supplyFault_eq {t : State} {a : Fin 8} {l : Load} (load : t.load? a = some l) :
    t.supplyFault a = t.modLoad a Load.supplyFaulted := by
  rw [State.supplyFault, State.setDue, State.addFault, modLoad_modLoad]
  exact modLoad_congr load (setDue_eq _ _)

section SupplyLost

variable {t : State} {a : Fin 8} {l : Load} (load : t.load? a = some l)
include load

/-- A load without a share count is not acted on. -/
theorem supplyLostArm_of_zero (none_ : l.recipe.shareCount = 0) : t.supplyLostArm a = t := by
  simp only [State.supplyLostArm, load, none_, if_true]

variable (some_ : l.recipe.shareCount ≠ 0)
include some_

/-- A load in a blending phase goes to a cut flush. -/
theorem supplyLostArm_of_blending (blending : (t.arm a).state.isBlending = true) :
    t.supplyLostArm a = (t.modLoad a Load.supplyFaulted).enterFlush a .cut := by
  rw [← supplyFault_eq load]
  simp only [State.supplyLostArm, load, some_, if_false]
  cases state : (t.arm a).state <;> rw [state] at blending <;> first | rfl | exact absurd blending (by decide)

/-- A load in SHARE_WAIT goes to CLOSING. -/
theorem supplyLostArm_of_waiting (waiting : (t.arm a).state = .shareWait) :
    t.supplyLostArm a = (t.modLoad a Load.supplyFaulted).enterClosing a := by
  rw [← supplyFault_eq load]
  simp only [State.supplyLostArm, load, some_, if_false, waiting]

/-- A load held from a phase with shares, or from the wait for them, is marked. -/
theorem supplyLostArm_of_held (held : (t.arm a).state = .held)
    (resume : l.resume = some .ramp ∨ l.resume = some .full ∨ l.resume = some .taper ∨ l.resume = some .shareWait) :
    t.supplyLostArm a = t.modLoad a fun y => { y.supplyFaulted with supplyLost := true } := by
  have marked : t.markSupplyLost a = t.modLoad a fun y => { y.supplyFaulted with supplyLost := true } := by
    rw [State.markSupplyLost, supplyFault_eq load, modLoad_modLoad]
  rw [← marked]
  simp only [State.supplyLostArm, load, some_, if_false, held]
  rcases resume with resume | resume | resume | resume <;> rw [resume]

omit some_ in
/-- A load in PRIME, FLUSH or CLOSING keeps all but, after a race with a ratio fault, its fault set. -/
theorem supplyLostArm_of_kept (kept : (t.arm a).state = .prime ∨ (t.arm a).state = .flush ∨ (t.arm a).state = .closing) :
    t.supplyLostArm a = t.modLoad a fun y =>
      { y with
        data :=
          { y.data with
            faults :=
              (if (t.arm a).state = .flush ∧ l.data.faults.ratioFault = true ∧
                  l.nextTrim = some (l.data.product + l.recipe.trimVolume) ∧ l.recipe.shareCount ≠ 0 then
                { y.data.faults with ethanolSupply := true }
               else y.data.faults) } } := by
  by_cases zero : l.recipe.shareCount = 0
  · rw [supplyLostArm_of_zero load zero]
    exact (modLoad_eq_self load (by simp [zero])).symm
  · simp only [State.supplyLostArm, load, zero, if_false]
    rcases kept with state | state | state
    · rw [state]
      exact (modLoad_eq_self load (by simp)).symm
    · rw [state]
      by_cases races : l.data.faults.ratioFault = true ∧ l.nextTrim = some (l.data.product + l.recipe.trimVolume)
      · simp [State.addFault, Load.atLastTrim, races, zero]
      · have quiet : ¬ (l.data.faults.ratioFault && l.atLastTrim) = true := by
          simpa [Load.atLastTrim] using races
        exact (if_neg quiet).trans (modLoad_eq_self load (by rw [if_neg fun h => races ⟨h.2.1, h.2.2.1⟩])).symm
    · rw [state]
      exact (modLoad_eq_self load (by simp)).symm

end SupplyLost

section HeaderLoss

variable {s : State}

/-- What the loss leaves of the states between. -/
theorem supplyCut_kept {β : Type} (g : State → β) (port : ∀ s p f, g (s.modPort p f) = g s) :
    g s.supplyCut = g { s with trips := { s.trips with header := false } } := raise_kept g port .trip allPorts _

/-- The frame of the loss. -/
theorem supplyTaken_frame (s : State) : s.supplyCut.Frame s.supplyTaken :=
  Leaving.foldl (P := State.Frame _) allArms (.refl _) fun _ a k => (frame_madeOn _).supplyLostArm (b := a) trivial k

/-- With the permissive lost nobody is served. -/
theorem endEvent_supplyTaken (s : State) : State.endEvent s s.supplyTaken = State.bumpRevisions s s.supplyTaken := by
  refine endEvent_of_blocked fun w rest _ present => absurd present ?_
  rw [(supplyTaken_frame s).trips, supplyCut_kept State.trips fun _ _ _ => rfl]
  simp

/-- An arm after the loss: what its own operation has made of it. -/
theorem supplyTaken_arm (s : State) (a : Fin 8) :
    ∃ t : State, t.arm a = s.arm a ∧ s.supplyTaken.arm a = (t.supplyLostArm a).arm a :=
  foldl_at (P := fun t => t.arm a = s.arm a) (Q := fun u => ∃ t : State, t.arm a = s.arm a ∧ u.arm a = (t.supplyLostArm a).arm a)
    (by decide) (mem_allArms a)
    (fun t x ne same => (((untouched_actsOn a t).supplyLostArm (b := x) ne ⟨rfl, rfl⟩).1).trans same)
    (fun t same => ⟨t, same, rfl⟩)
    (fun t x ne ⟨u, same, own⟩ => ⟨u, same, (((untouched_actsOn a t).supplyLostArm (b := x) ne ⟨rfl, rfl⟩).1).trans own⟩)
    (supplyCut_kept (fun t => t.arm a) fun _ _ _ => rfl)

/-- An arm that its own operation leaves waiting for no shares. -/
theorem supplyTaken_reached {a : Fin 8} (unlisted : ∀ t : State, t.arm a = s.arm a → (t.supplyLostArm a).notListed a) :
    ∃ t : State, s.supplyCut.Frame t ∧ t.arm a = s.arm a ∧ (t.supplyLostArm a).Spares a s.supplyTaken := by
  have arm0 : s.supplyCut.arm a = s.arm a := supplyCut_kept (fun t => t.arm a) fun _ _ _ => rfl
  obtain ⟨_, t, frame, same, spared⟩ : s.supplyCut.Reached State.supplyLostArm a s.supplyTaken :=
    foldl_reached (by decide) (mem_allArms a) (fun t b k => (frame_madeOn _).supplyLostArm (b := b) trivial k)
      (fun t b ne => ((untouched_actsOn a t).supplyLostArm (b := b) ne ⟨rfl, rfl⟩).1)
      (fun t u b ne k => (spares_madeOn a u).supplyLostArm (b := b) ne k)
      (fun t same => unlisted t (same.trans arm0))
  exact ⟨t, frame, same.trans arm0, spared⟩

variable {a : Fin 8} {l : Load} (load : s.load? a = some l)
include load

/-- A loss that changes none of the parts of a load at its arm. -/
theorem supplyLost_quiet {f : Load → Load} (own : ∀ t : State, t.arm a = s.arm a → t.supplyLostArm a = t.modLoad a f)
    (number : (f l).data.number = l.data.number) (same : l.SameParts (f l)) :
    (State.endEvent s s.supplyTaken).arm a = { s.arm a with load := some (f l) } := by
  obtain ⟨t, same0, taken⟩ := supplyTaken_arm s a
  have loaded : (t.arm a).load = some l := by rw [same0]; exact load
  have arm : s.supplyTaken.arm a = (s.modLoad a f).arm a := by
    rw [taken, own t same0, State.modLoad, State.modLoad, State.modArm_arm_self, State.modArm_arm_self, same0]
  have quiet : State.partsChanged s s.supplyTaken a = false := by
    rw [partsChanged_congr arm]
    by_contra changed
    exact (partsChanged_modLoad load number).mp (by simpa using changed) same
  rw [endEvent_supplyTaken, bumpRevisions_arm, quiet, if_neg (by decide), arm, State.modLoad, State.modArm_arm_self,
    show (s.arm a).load = some l from load]
  rfl

end HeaderLoss

/-- Settles O47: by the arm's state and the load's share count. -/
theorem headerLossTakesSupply : Obligations.HeaderLossTakesSupply := by
  unfold Obligations.HeaderLossTakesSupply
  intro s present
  have run : exec .headerPermissiveLoss s = .next (State.endEvent s s.supplyTaken) := congrArg Host.Outcome.next (if_pos present)
  have frame := endEvent_frame s (supplyTaken_frame s)
  have settings : ∀ t : State, s.supplyCut.Frame t → t.settings = s.settings := fun t k =>
    k.elsewhere.settings.trans (supplyCut_kept State.settings fun _ _ _ => rfl)
  have whole : ({ s with trips := { s.trips with header := false } } : State).Frame (State.endEvent s s.supplyTaken) :=
    endEvent_frame s (Leaving.foldl (P := State.Frame _) allArms ((State.Frame.refl _).raise .trip allPorts)
      fun _ a k => (frame_madeOn _).supplyLostArm (b := a) trivial k)
  have loaded : ∀ {a : Fin 8} {l : Load}, s.load? a = some l → ∀ t : State, t.arm a = s.arm a → t.load? a = some l :=
    fun load t same => (congrArg Arm.load same).trans load
  obtain ⟨⟨⟨k1, k2, k3, k4, k5, k6, k7, k8, k9, k10, k11⟩, k12, k13, k14⟩, trips, capacity, _, _⟩ := whole
  refine ⟨_, run, trips, capacity, fun p => frame.flags p _ ?_,
    ⟨⟨k1, k2, k3, k4, k5, k6, k7, k8, k9, k10, k11⟩, k12, k13, k14⟩, fun a l load => ⟨fun zero => ?zero,
      fun some_ blending => ?blending, fun some_ waiting => ?waiting, fun some_ held resume => ?held, fun kept => ?kept⟩⟩
  · exact (raise_portsRaised _ _ _).flagged (mem_allPorts p)
  case zero =>
    have quiet := supplyLost_quiet (f := id) load (fun t same => (supplyLostArm_of_zero (loaded load t same) zero).trans
      (modLoad_eq_self (loaded load t same) rfl).symm) rfl ⟨rfl, rfl, rfl, rfl, rfl, rfl⟩
    rw [quiet, id, ← show (s.arm a).load = some l from load]
  case blending =>
    have own : ∀ t : State, t.arm a = s.arm a → t.supplyLostArm a = (t.modLoad a Load.supplyFaulted).enterFlush a .cut :=
      fun t same => supplyLostArm_of_blending (loaded load t same) some_ (by rw [same]; exact blending)
    obtain ⟨t, kt, same, spared⟩ := supplyTaken_reached (s := s) (a := a) fun t same => by
      rw [own t same]
      exact (enterFlush_spares .cut (load?_modLoad _ (loaded load t same))).listed
    rw [own t same] at spared
    obtain ⟨m, c, after, moved, cut, _⟩ := cutFlush_ends_of_spared load (load?_modLoad _ (loaded load t same)) rfl
      (fun e => absurd blending (by rw [e]; decide)) (fun e => absurd blending (by rw [e]; decide)) (spared.served s)
      (frame.elsewhere.settings.trans ((settings _ (.refl _)).trans (settings t kt).symm))
    exact ⟨m, after, ⟨cut.flush, cut.closing, cut.ethanol, cut.shares⟩, moved.amended.of_same rfl rfl rfl rfl rfl rfl rfl,
      moved.faults, moved.endDue, moved.revision⟩
  case waiting =>
    have own : ∀ t : State, t.arm a = s.arm a → t.supplyLostArm a = (t.modLoad a Load.supplyFaulted).enterClosing a :=
      fun t same => supplyLostArm_of_waiting (loaded load t same) some_ (by rw [same]; exact waiting)
    obtain ⟨t, _, same, spared⟩ := supplyTaken_reached (s := s) (a := a) fun t same => by
      rw [own t same]
      exact (enterClosing_spares _ a).listed
    rw [own t same] at spared
    obtain ⟨m, ends⟩ := endsClosing_of_spared load (load?_modLoad _ (loaded load t same)) rfl (by rw [waiting]; decide) (spared.served s)
    exact ⟨ends.state, m, ends.load, by rw [ends.moved.faults]; rfl, ends.moved.endDue⟩
  case held =>
    have quiet := supplyLost_quiet (f := fun y => { y.supplyFaulted with supplyLost := true }) load
      (fun t same => supplyLostArm_of_held (loaded load t same) some_ (by rw [same]; exact held) resume) rfl
      ⟨rfl, rfl, rfl, rfl, rfl, rfl⟩
    exact ⟨by rw [quiet]; exact held, _, congrArg Arm.load quiet, rfl, rfl, rfl, rfl⟩
  case kept =>
    have quiet := supplyLost_quiet load (fun t same => by
      have takes := supplyLostArm_of_kept (loaded load t same) (by rw [same]; exact kept)
      rw [same] at takes
      exact takes) rfl ⟨rfl, rfl, rfl, rfl, rfl, rfl⟩
    exact ⟨by rw [quiet], by rw [quiet], _, congrArg Arm.load quiet, rfl, rfl, rfl⟩

end Sys2Proof.Machine
end

section
/-! PROOFS. The assertion of ESD (R66, R114, R132, R154). -/

namespace Sys2Proof.Machine

/-! ## The settling of the loads (R132) -/

namespace AnyActsOn

variable {A : Fin 8 → Prop} {P : State → Prop} (h : AnyActsOn A P) {s : State}
include h

theorem modShot (st : Fin 4) (f : Shot → Shot) (hs : P s) : P (s.modShot st f) := h.bus _ (h.station _ _ hs)

theorem settleForEsd {a : Fin 8} (ha : A a) (hs : P s) : P (s.settleForEsd a) := by
  unfold State.settleForEsd
  split
  · exact hs
  · exact Leaving.foldl _ (h.modLoad ha hs) fun _ st ht => h.modShot st _ ht

theorem emptyQueue (st : Fin 4) (hs : P s) : P (s.emptyQueue st) := h.station _ _ hs

end AnyActsOn

/-- The state in which ESD stands, TRIP is raised and the allocator is empty. -/
def State.esdBegun (s : State) : State :=
  (({ s with trips := { s.trips with esd := true } } : State).raise .trip allPorts).headerEmptied

/-- The state in which moreover every load is settled and every shot queue empty. -/
def State.esdSettled (s : State) : State := allStations.foldl State.emptyQueue (allArms.foldl State.settleForEsd s.esdBegun)

/-- ESD ends the loads in ascending arm number. -/
theorem esdAsserted_eq {s : State} (clear : s.trips.esd = false) :
    s.esdAsserted = allArms.foldl (fun v a => v.completeLoad a .esd) s.esdSettled :=
  if_neg (by simp [clear])

/-- What the settling leaves. -/
theorem esdSettled_kept {s : State} {P : State → Prop} (h : AnyActsOn (fun _ => True) P) (begun : P s.esdBegun) :
    P s.esdSettled :=
  Leaving.foldl _ (Leaving.foldl _ begun fun _ _ ht => h.settleForEsd trivial ht) fun _ st ht => h.emptyQueue st ht

/-- The frame of the settling. -/
theorem esdSettled_frame (s : State) : ({ s with trips := { s.trips with esd := true } } : State).Frame s.esdSettled := by
  refine esdSettled_kept (frame_anyMadeOn _).toAnyActsOn ?_
  obtain ⟨⟨⟨k1, k2, k3, k4, k5, k6, k7, k8, k9, k10, k11⟩, k12, k13, k14⟩, trips, capacity, answer, flags⟩ :=
    (State.Frame.refl { s with trips := { s.trips with esd := true } }).raise .trip allPorts
  exact ⟨⟨⟨k1, k2, k3, k4, k5, k6, k7, k8, k9, k10, k11⟩, k12, k13, k14⟩, trips, capacity, answer, flags⟩

/-- What the beginning leaves. -/
theorem esdBegun_kept {β : Type} (g : State → β) (port : ∀ s p f, g (s.modPort p f) = g s)
    (header : ∀ (s : State) f, g (s.modHeader f) = g s) (s : State) :
    g s.esdBegun = g { s with trips := { s.trips with esd := true } } := by
  rw [State.esdBegun, State.headerEmptied, header, raise_kept g port]

/-- What the settling leaves. -/
theorem esdSettled_of {β : Type} (g : State → β) (settle : ∀ t a, g (State.settleForEsd t a) = g t)
    (queue : ∀ t st, g (State.emptyQueue t st) = g t) (s : State) : g s.esdSettled = g s.esdBegun := by
  have settled : g (allArms.foldl State.settleForEsd s.esdBegun) = g s.esdBegun :=
    Leaving.foldl (P := fun t => g t = g s.esdBegun) allArms rfl fun t a ht => (settle t a).trans ht
  rw [State.esdSettled, ← settled]
  exact Leaving.foldl (P := fun t => g t = g (allArms.foldl State.settleForEsd s.esdBegun)) allStations rfl
    fun t st ht => (queue t st).trans ht

/-- The settling leaves the allocator empty. -/
theorem esdSettled_header (s : State) :
    s.esdSettled.header = { capacity := s.header.capacity, inUse := 0, grants := [], wait := [] } := by
  have begun : s.esdBegun.header = { capacity := s.header.capacity, inUse := 0, grants := [], wait := [] } := by
    rw [State.esdBegun, State.headerEmptied, State.modHeader]
    dsimp only
    rw [raise_kept State.header fun _ _ _ => rfl]
  exact (esdSettled_of State.header State.settleForEsd_header (fun _ _ => rfl) s).trans begun

/-- The settling of a load leaves the data of every load. -/
theorem settleForEsd_data (s : State) (a b : Fin 8) :
    ((s.settleForEsd a).load? b).map Load.data = (s.load? b).map Load.data := by
  cases load : s.load? a with
  | none => simp only [State.settleForEsd, load]
  | some l =>
    simp only [State.settleForEsd, load, State.detachShots]
    refine Leaving.foldl (P := fun t => (t.load? b).map Load.data = (s.load? b).map Load.data) allStations ?_ fun _ _ ht => ht
    by_cases same : b = a
    · subst same
      rw [State.settleLines, load?_modLoad _ load, load]
      rfl
    · rw [State.load?, State.settleLines, State.modLoad, State.modArm_arm_ne _ _ _ _ same]
      rfl

/-- The data of the loads once all are settled. -/
theorem esdSettled_data (s : State) (a : Fin 8) : (s.esdSettled.load? a).map Load.data = (s.load? a).map Load.data := by
  have begun : (s.esdBegun.load? a).map Load.data = (s.load? a).map Load.data :=
    esdBegun_kept (fun t => (t.load? a).map Load.data) (fun _ _ _ => rfl) (fun _ _ => rfl) s
  exact (esdSettled_of (fun t => (t.load? a).map Load.data) (fun t b => settleForEsd_data t b a) (fun _ _ => rfl) s).trans
    begun

/-- What the settling of a load leaves of a station. -/
theorem settleForEsd_station {β : Type} (g : Station → β) (shot : ∀ x y, g { x with shot := y } = g x) (s : State) (a : Fin 8)
    (st : Fin 4) : g ((s.settleForEsd a).station st) = g (s.station st) := by
  cases load : s.load? a with
  | none => simp only [State.settleForEsd, load]
  | some l =>
    simp only [State.settleForEsd, load, State.detachShots]
    refine Leaving.foldl (P := fun t => g (t.station st) = g (s.station st)) allStations rfl fun t k ht => ?_
    by_cases same : st = k
    · subst same
      rw [State.modShot, State.modTxn_stationAt, State.modStation_station_self, shot, ht]
    · rw [State.modShot, State.modTxn_stationAt, State.modStation_station_ne _ _ _ _ same, ht]

/-- A station once its queue is empty. -/
def Station.emptied (x : Station) : Station :=
  { x with queue := [], request := x.request && !(decide (x.state = .idle)) }

/-- The stations once all queues are empty. -/
theorem emptyQueue_station (s : State) (st : Fin 4) :
    (allStations.foldl State.emptyQueue s).station st = (s.station st).emptied := by
  match st with
  | 0 => simp [allStations, State.emptyQueue, Station.emptied]
  | 1 => simp [allStations, State.emptyQueue, Station.emptied]
  | 2 => simp [allStations, State.emptyQueue, Station.emptied]
  | 3 => simp [allStations, State.emptyQueue, Station.emptied]

/-- What the settling leaves of a station. -/
theorem esdSettled_station {β : Type} (g : Station → β) (shot : ∀ x y, g { x with shot := y } = g x)
    (emptied : ∀ x, g (Station.emptied x) = g x) (s : State) (st : Fin 4) : g (s.esdSettled.station st) = g (s.station st) := by
  rw [State.esdSettled, emptyQueue_station, emptied]
  have begun : g (s.esdBegun.station st) = g (s.station st) :=
    esdBegun_kept (fun t => g (t.station st)) (fun _ _ _ => rfl) (fun _ _ => rfl) s
  exact Leaving.foldl (P := fun t => g (t.station st) = g (s.station st)) allArms begun
    fun t a ht => (settleForEsd_station g shot t a st).trans ht

/-- A notice that is set stays set. -/
theorem State.flagged_anyActsOn (p : Port) (n : Notice) : AnyActsOn (fun _ => True) fun t => t.flagged p n = true where
  arm _ _ k := k
  drop _ k := k
  grant _ _ k := k
  queue _ _ _ k := k
  station _ _ k := k
  bus _ k := k
  page _ _ k := k
  raise m ps _ k := by rw [raise_flagged, k, Bool.true_or]

/-! ## The completions (R65, R154) -/

/-- What a completion leaves. -/
theorem completeLoad_kept {β : Type} (g : State → β) (port : ∀ s p f, g (s.modPort p f) = g s)
    (handed : ∀ s a l e t, g (State.handedOver s a l e t) = g s) (s : State) (a : Fin 8) (e : EndStatus) :
    g (s.completeLoad a e) = g s := by
  cases load : s.load? a with
  | none => rw [State.completeLoad_of_none load]
  | some l =>
    obtain ⟨t, complete⟩ := State.completeLoad_eq load e
    rw [complete, ended_kept g port, handed]

/-- A completion sets notices and clears none. -/
theorem completeLoad_flags {s : State} {a : Fin 8} {e : EndStatus} {p : Port} {n : Notice} (set : s.flagged p n = true) :
    (s.completeLoad a e).flagged p n = true := by
  cases load : s.load? a with
  | none => rw [State.completeLoad_of_none load]; exact set
  | some l =>
    obtain ⟨t, complete⟩ := State.completeLoad_eq load e
    have handed : (s.handedOver a l e t).flagged p n = true := set
    rw [complete]
    simp only [State.ended]
    split
    · rw [raise_flagged, raise_flagged, handed, Bool.true_or, Bool.true_or]
    · rw [raise_flagged, handed, Bool.true_or]

/-- The records of the loads completed join the delivered list in the order of their arms. -/
theorem completions_delivered (e : EndStatus) : ∀ (xs : List (Fin 8)) (s : State), xs.Nodup →
    (xs.foldl (fun v a => v.completeLoad a e) s).delivered =
        s.delivered ++ (xs.filterMap s.load?).map (·.finished e s.seconds) ∧
      (xs.foldl (fun v a => v.completeLoad a e) s).reservations = s.reservations - (xs.filterMap s.load?).length
  | [], s, _ => by simp
  | a :: rest, s, nodup => by
    obtain ⟨fresh, nodup⟩ := List.nodup_cons.mp nodup
    obtain ⟨delivered, reservations⟩ := completions_delivered e rest (s.completeLoad a e) nodup
    have others : rest.filterMap (s.completeLoad a e).load? = rest.filterMap s.load? := by
      refine List.filterMap_congr fun b mem => ?_
      rw [State.completeLoad_load?, if_neg (fun same : b = a => fresh (same ▸ mem))]
    have seconds : (s.completeLoad a e).seconds = s.seconds :=
      completeLoad_kept State.seconds (fun _ _ _ => rfl) (fun _ _ _ _ _ => rfl) s a e
    rw [List.foldl_cons, delivered, reservations, others, seconds]
    cases load : s.load? a with
    | none => simp [State.completeLoad_of_none load, load]
    | some l =>
      obtain ⟨joins, consumes⟩ := completeLoad_delivered load e
      rw [joins, consumes, List.filterMap_cons, load]
      simp only [List.map_cons, List.length_cons, List.append_assoc, List.singleton_append, true_and]
      omega

/-- An arm with a load is IDLE once it is completed. -/
theorem completions_arm (e : EndStatus) {a : Fin 8} {s : State} (present : s.load? a ≠ none) {xs : List (Fin 8)}
    (nodup : xs.Nodup) (mem : a ∈ xs) : (xs.foldl (fun v b => v.completeLoad b e) s).arm a = (s.arm a).vacated := by
  obtain ⟨l, load⟩ := Option.ne_none_iff_exists'.mp present
  refine foldl_at (P := fun t => t.arm a = s.arm a) (Q := fun t => t.arm a = (s.arm a).vacated) nodup mem
    (fun t b ne same => (completeLoad_arm_ne ne.symm e).trans same) (fun t same => ?_)
    (fun t b ne same => (completeLoad_arm_ne ne.symm e).trans same) rfl
  rw [completeLoad_arm_self (l := l) (by rw [State.load?, same]; exact load), same]

/-- Settles O45: the loads are settled, the stations' queues and the allocator emptied, and the loads completed. -/
theorem esdEndsEveryLoad : Obligations.EsdEndsEveryLoad := by
  unfold Obligations.EsdEndsEveryLoad
  intro s clear
  have frame := esdSettled_frame s
  have ended := esdAsserted_eq clear
  have data := esdSettled_data s
  have kept := fun {β : Type} (g : State → β) (port : ∀ s p f, g (s.modPort p f) = g s)
      (handed : ∀ s a l e t, g (State.handedOver s a l e t) = g s) =>
    Leaving.foldl (P := fun t => g t = g s.esdSettled) (f := fun v a => v.completeLoad a .esd) allArms rfl fun t a ht =>
      (completeLoad_kept g port handed t a .esd).trans ht
  obtain ⟨delivered, reservations⟩ := completions_delivered .esd allArms s.esdSettled (by decide)
  rw [← ended] at delivered reservations
  have elsewhere : s.SameOutsideLoads s.esdAsserted := (closed_sameOutsideLoads s).esdAsserted
    ⟨rfl, rfl, rfl, rfl, rfl, rfl, rfl, rfl, rfl, rfl, rfl⟩ ⟨rfl, rfl, rfl, rfl, rfl, rfl, rfl, rfl, rfl, rfl, rfl⟩
  refine ⟨s.esdAsserted, (allArms.filterMap s.esdSettled.load?).map (·.finished .esd s.esdSettled.seconds), rfl, ?_,
    fun a => ⟨?_, fun present => ?_⟩, ?_, ?_, fun r mem => ?_, ?_, ?_, fun st => ?_, fun p => ?_, elsewhere, ?_⟩
  · rw [ended, kept State.trips (fun _ _ _ => rfl) fun _ _ _ _ _ => rfl, frame.trips]
  · rw [ended]
    exact load?_completed .esd allArms (fun b away => absurd (mem_allArms b) away) a
  · have settled : s.esdSettled.load? a ≠ none := fun none_ => present (by simpa [none_] using (data a).symm)
    rw [ended, completions_arm .esd settled (by decide) (mem_allArms a)]
    exact ⟨rfl, rfl, rfl, rfl, rfl, rfl⟩
  · rw [delivered, frame.elsewhere.delivered]
  · have same : (allArms.filterMap s.esdSettled.load?).map Load.data = (allArms.filterMap s.load?).map Load.data := by
      rw [List.map_filterMap, List.map_filterMap]
      exact List.filterMap_congr fun a _ => data a
    have numbers := congrArg (List.map fun d : LoadData => (d.number, d.preset)) same
    rw [List.map_map, List.map_map] at numbers
    rw [List.map_map]
    exact numbers
  · obtain ⟨l, _, rfl⟩ := List.mem_map.mp mem
    exact ⟨rfl, congrArg some frame.elsewhere.seconds, rfl, rfl, rfl⟩
  · rw [reservations, frame.elsewhere.reservations, List.length_map]
  · rw [ended, kept State.header (fun _ _ _ => rfl) fun _ _ _ _ _ => rfl, esdSettled_header]
  · have station : s.esdAsserted.station st = s.esdSettled.station st := by
      rw [ended]
      exact kept (fun t => t.station st) (fun _ _ _ => rfl) fun _ _ _ _ _ => rfl
    rw [station]
    refine ⟨?_, esdSettled_station Station.state (fun _ _ => rfl) (fun _ => rfl) s st,
      esdSettled_station Station.manifold (fun _ _ => rfl) (fun _ => rfl) s st,
      esdSettled_station Station.failures (fun _ _ => rfl) (fun _ => rfl) s st⟩
    rw [State.esdSettled, emptyQueue_station]
    rfl
  · have raised : s.esdBegun.flagged p .trip = true :=
      (raise_portsRaised { s with trips := { s.trips with esd := true } } .trip allPorts).flagged (mem_allPorts p)
    rw [ended]
    exact Leaving.foldl (P := fun t => t.flagged p .trip = true) allArms
      (esdSettled_kept (P := fun t => t.flagged p .trip = true) (State.flagged_anyActsOn p .trip) raised)
      fun _ _ set => completeLoad_flags set
  · rw [ended, kept State.meters (fun _ _ _ => rfl) fun _ _ _ _ _ => rfl, frame.elsewhere.meters]

end Sys2Proof.Machine
end

section
/-! PROOFS. START LOAD (R27 to R33, R163). -/

namespace Sys2Proof.Machine

/-! ## The load number (R163) -/

namespace State

/-- A number is held exactly where an active load or a delivered record carries it. -/
theorem numberHeld_eq_true_iff {s : State} {n : Nat} : s.numberHeld n = true ↔
    (∃ b y, s.load? b = some y ∧ y.data.number = n) ∨ ∃ y ∈ s.delivered, y.data.number = n := by
  constructor
  · intro held
    by_contra unheld
    rw [not_or] at unheld
    obtain ⟨noLoad, noRecord⟩ := unheld
    have noArm : s.armOfLoad n = none := armOfLoad_eq_none fun a l load same => noLoad ⟨a, l, load, same⟩
    have none_ : s.deliveredWith n = none := by
      refine List.find?_eq_none.mpr fun y mem => ?_
      simpa using fun same => noRecord ⟨y, mem, same⟩
    rw [numberHeld, recordWith, noArm] at held
    simp only [none_] at held
    exact absurd held (by decide)
  · rintro (⟨b, y, load, same⟩ | ⟨y, mem, same⟩)
    · have found : (s.armOfLoad n).isSome = true :=
        List.find?_isSome.mpr ⟨b, mem_allArms b, by simp [load, same]⟩
      obtain ⟨a, arm⟩ := Option.isSome_iff_exists.mp found
      have carries := List.find?_some arm
      cases at_ : s.load? a with
      | none => simp [at_] at carries
      | some l => rw [numberHeld, recordWith_of_armOfLoad arm at_]; rfl
    · have found : (s.deliveredWith n).isSome = true := List.find?_isSome.mpr ⟨y, mem, by simp [same]⟩
      rw [numberHeld, recordWith]
      cases arm : s.armOfLoad n with
      | none => exact found
      | some a =>
        have carries := List.find?_some arm
        cases at_ : s.load? a with
        | none => simp [at_] at carries
        | some l => simp [at_]

/-- The numbers of all loads and delivered records. -/
def heldNumbers (s : State) : List Nat :=
  (allArms.filterMap s.load?).map (·.data.number) ++ s.delivered.map (·.data.number)

/-- Every number that is held is one of them. -/
theorem mem_heldNumbers {s : State} {n : Nat} (held : s.numberHeld n = true) : n ∈ s.heldNumbers := by
  rcases numberHeld_eq_true_iff.mp held with ⟨b, y, load, rfl⟩ | ⟨y, mem, rfl⟩
  · exact List.mem_append_left _ (List.mem_map.mpr ⟨y, List.mem_filterMap.mpr ⟨b, mem_allArms b, load⟩, rfl⟩)
  · exact List.mem_append_right _ (List.mem_map.mpr ⟨y, mem, rfl⟩)

/-- The number drawn is the counter's where nothing carries that. -/
theorem drawLoadNumber_of_unheld {s : State} (noLoad : ∀ b y, s.load? b = some y → y.data.number ≠ s.loadCounter)
    (noRecord : ∀ y ∈ s.delivered, y.data.number ≠ s.loadCounter) : s.drawLoadNumber = s.loadCounter := by
  refine firstFree_of_free ?_ 32
  by_contra held
  rcases numberHeld_eq_true_iff.mp (by simpa using held) with ⟨b, y, load, same⟩ | ⟨y, mem, same⟩
  · exact noLoad b y load same
  · exact noRecord y mem same

/-- The number drawn is one that nothing carries. -/
theorem drawLoadNumber_fresh {s : State} (low : 1 ≤ s.loadCounter) (high : s.loadCounter ≤ 16777214)
    (few : (allArms.filterMap s.load?).length + s.delivered.length ≤ 32) :
    1 ≤ s.drawLoadNumber ∧ s.drawLoadNumber ≤ 16777214 ∧
      (∀ b y, s.load? b = some y → y.data.number ≠ s.drawLoadNumber) ∧
      ∀ y ∈ s.delivered, y.data.number ≠ s.drawLoadNumber := by
  have size : s.heldNumbers.length ≤ 32 := by simpa [heldNumbers] using few
  have free : s.numberHeld s.drawLoadNumber = false :=
    firstFree_free (top := 16777214) s.heldNumbers (fun _ => mem_heldNumbers) size (by omega) low high
  obtain ⟨lowest, highest⟩ := firstFree_mem_range (taken := s.numberHeld) (top := 16777214) 32 s.loadCounter low high
  refine ⟨lowest, highest, fun b y load same => ?_, fun y mem same => ?_⟩
  · exact absurd ((numberHeld_eq_true_iff.mpr (.inl ⟨b, y, load, same⟩)).symm.trans free) (by decide)
  · exact absurd ((numberHeld_eq_true_iff.mpr (.inr ⟨y, mem, same⟩)).symm.trans free) (by decide)

end State

/-! ## The checks (R27 to R30) -/

/-- A START that meets every condition passes the checks. -/
theorem startChecks_pass {s : State} {a : Fin 8} {choice : Word16} {preset : Nat} {x : Authorization} {r : Recipe} {k : Fin 32}
    (mode : s.mode = .operate) (enabled : (s.arm a).enable = true) (idle : (s.arm a).state = .idle)
    (clear : s.trips.esd = false) (lane : s.trips.lanes[(laneOf a).val] = true) (supply : 0 < r.ratio → s.trips.header = true)
    (found : s.selectAuthorization a choice = some x) (slot : x.slot = k.val) (ready : (s.slot k).content = some r)
    (revision : x.requiredRevision = 0 ∨ x.requiredRevision = (s.slot k).revision) (low : 100 ≤ preset)
    (high : preset ≤ x.presetLimit) (enough : r.minimumPreset ≤ preset)
    (stations : ∀ y ∈ r.lines, y.required = true → s.lineAvailable a y = true)
    (room : s.reservations + s.delivered.length < 32) : s.startChecks a choice preset = .ok (x, (s.slot k).revision, r) := by
  have named : s.slotNamed x.slot = s.slot k := by
    rw [State.slotNamed, slot]
    exact congrArg s.slot (Fin.ext (Nat.mod_eq_of_lt k.isLt))
  have snapshot : s.snapshot x = some ((s.slot k).revision, r) := by
    simp only [State.snapshot, named, ready, if_pos revision]
  have inside : inRange Config.minPreset x.presetLimit preset = true := inRange_eq_true_iff.mpr ⟨low, high⟩
  have available : s.stationsAvailable a r = true := by
    refine List.all_eq_true.mpr fun y mem => ?_
    cases required : y.required with
    | false => rfl
    | true => exact stations y mem required
  have place : ¬ Config.deliveredLimit ≤ s.reservations + s.delivered.length := Nat.not_le.mpr room
  have supplied : ¬ (0 < r.ratio ∧ s.trips.header = false) := fun ⟨some_, lost⟩ =>
    absurd ((supply some_).symm.trans lost) (by decide)
  rw [State.startChecks, if_neg (by simp [mode]), if_neg (by simp [enabled, idle]), if_neg (by simp [clear, lane])]
  simp only [found, snapshot]
  rw [if_neg supplied, if_neg (by simp [inside]), if_neg (by omega), if_neg (by simp [available]), if_neg place]

/-- Settles O20: every check passes, and the effect is the statement's. -/
theorem startCreatesLoad : Obligations.StartCreatesLoad := by
  unfold Obligations.StartCreatesLoad
  intro tag a choice preset x r k s free mode enabled idle clear lane supply found slot ready revision low high enough stations
    room
  refine ⟨State.drawLoadNumber_of_unheld, State.drawLoadNumber_fresh,
    s.newLoad s.drawLoadNumber a x (s.slot k).revision r preset.toNat, ?_, rfl, rfl, rfl, rfl, rfl, rfl, rfl, rfl, rfl, rfl,
    rfl, rfl, rfl, rfl, rfl, rfl, rfl, rfl, rfl, rfl, rfl, rfl, ?_, ?_⟩
  · have checks := startChecks_pass (s := s.accept (.lp (laneOf a)) ReqCode.startLoad.toByte tag) (preset := preset.toNat) mode
      enabled idle clear lane supply found slot ready revision low high enough stations room
    refine next_answered free rfl rfl ?_
    simp only [State.loadStarted, addressArm_own (.inr rfl), checks]
    rfl
  · rw [State.newLoad, List.map_map]
    rfl
  · intro y mem
    obtain ⟨line, _, rfl⟩ := List.mem_map.mp mem
    exact ⟨rfl, rfl, rfl⟩

end Sys2Proof.Machine
end

section
/-! PROOFS. Entries to RAMP and TAPER from outside (R46 to R48, R71, R74, R120), and SET HEADER CAPACITY (R106, R110). -/

namespace Sys2Proof.Machine

/-! ## The lines of a load that blends again (R120) -/

/-- Changes of stations and bus leave an arm and the header. -/
theorem aside_onStations (a : Fin 8) (s : State) : OnStations fun t => t.arm a = s.arm a ∧ t.header = s.header :=
  ⟨fun _ _ k => k, fun _ k => k⟩

/-- The line with its next boundary above V and no kept shots. -/
def Load.requeuedLine (l : Load) (k : RecipeLine) (x : Line) : Line :=
  { x with nextBoundary := some (firstAbove l.recipe.primeVolume k.spacing l.data.product), kept := 0 }

/-- The load whose line `i` is set for the blending to come. -/
def Load.requeueAt (i : Nat) (l : Load) : Load :=
  match l.lines[i]?, l.recipe.lines[i]? with
  | some x, some k => if x.counts.skipped then l else { l with lines := l.lines.modify i (l.requeuedLine k) }
  | some _, none => l
  | none, _ => l

/-- The load whose lines are all set. -/
def Load.requeued (l : Load) : Load := ((l.requeueAt 0).requeueAt 1).requeueAt 2

/-- Only the lines change. -/
theorem requeueAt_eq (i : Nat) (l : Load) : l.requeueAt i = { l with lines := (l.requeueAt i).lines } := by
  unfold Load.requeueAt
  split
  · split <;> rfl
  · rfl
  · rfl

/-- Only the lines change. -/
theorem requeued_eq (l : Load) : l.requeued = { l with lines := l.requeued.lines } := by
  rw [Load.requeued, requeueAt_eq 2, requeueAt_eq 1, requeueAt_eq 0]

/-- The arm after one of its lines is set. -/
theorem requeueLine_arm {s : State} {a : Fin 8} {l : Load} (i : Nat) (load : s.load? a = some l) :
    (s.requeueLine a i).arm a = { s.arm a with load := some (l.requeueAt i) } ∧ (s.requeueLine a i).header = s.header := by
  have present : (s.arm a).load = some l := load
  have stays : s.arm a = { s.arm a with load := some l } := by rw [← present]
  unfold State.requeueLine Load.requeueAt
  simp only [load]
  cases line : l.lines[i]? with
  | none => exact ⟨stays, rfl⟩
  | some x =>
    cases ordered : l.recipe.lines[i]? with
    | none => exact ⟨stays, rfl⟩
    | some k =>
      dsimp only
      by_cases skipped : x.counts.skipped = true
      · rw [if_pos skipped, if_pos skipped]
        exact ⟨stays, rfl⟩
      · rw [if_neg skipped, if_neg skipped]
        have set : (s.modLine a i (l.requeuedLine k)).arm a =
            { s.arm a with load := some { l with lines := l.lines.modify i (l.requeuedLine k) } } := by
          rw [State.modLine, State.modLoad, State.modArm_arm_self, present]
          rfl
        split
        · exact ⟨set, rfl⟩
        · have appended := (aside_onStations a (s.modLine a i (l.requeuedLine k))).appendEntry x.counts.station
            { arm := a, load := l.data.number, line := i, owed := x.kept } ⟨rfl, rfl⟩
          exact ⟨appended.1.trans set, appended.2⟩

/-- The arm after all its lines are set. -/
theorem requeueLines_arm {s : State} {a : Fin 8} {l : Load} (load : s.load? a = some l) :
    (s.requeueLines a).arm a = { s.arm a with load := some l.requeued } ∧ (s.requeueLines a).header = s.header := by
  obtain ⟨arm0, header0⟩ := requeueLine_arm 0 load
  obtain ⟨arm1, header1⟩ := requeueLine_arm (a := a) (l := l.requeueAt 0) 1 (congrArg Arm.load arm0)
  obtain ⟨arm2, header2⟩ := requeueLine_arm (a := a) (l := (l.requeueAt 0).requeueAt 1) 2 (congrArg Arm.load arm1)
  refine ⟨?_, header2.trans (header1.trans header0)⟩
  rw [arm1, arm0] at arm2
  exact arm2

/-! ## Entries to RAMP and TAPER (R46 to R48) -/

/-- A load in RAMP from its beginning. -/
def Load.inRamp (l : Load) : Load := ({ l.blended with rampBase := some l.data.product } : Load).requeued

/-- A load in TAPER at the step that matches V. -/
def Load.inTaper (l : Load) : Load :=
  ({ l.blended with taperCeiling := some (l.ceilingOr l.recipe.fullOpening) } : Load).requeued

section Enter

variable {s : State} {a : Fin 8} {l : Load} (load : s.load? a = some l)
include load

/-- An arm that enters a state with its load changed and the load's lines set. -/
theorem blend_arm (f : Arm → Arm) (g : Load → Load) (same : (f (s.arm a)).load = (s.arm a).load) :
    ((((s.modArm a f).modLoad a g).requeueLines a).appendTrace a .phase).arm a =
        { f (s.arm a) with load := some (g l).requeued } ∧
      ((((s.modArm a f).modLoad a g).requeueLines a).appendTrace a .phase).header = s.header := by
  have moved : ((s.modArm a f).modLoad a g).load? a = some (g l) := by
    rw [State.modLoad_load_self, State.load?_modArm_self, same, show (s.arm a).load = some l from load, Option.map_some]
  obtain ⟨arm, header⟩ := requeueLines_arm moved
  rw [State.appendTrace_arm, appendTrace_header, arm, header]
  refine ⟨?_, rfl⟩
  rw [State.modArm_modLoad, State.modArm_arm_self]

/-- The arm in RAMP. -/
theorem enterRamp_arm : (s.enterRamp a).arm a =
      { s.arm a with
        state := .ramp, mainOpening := l.recipe.primeOpening, ethanolOpening := l.entryEthanol, noFlow := s.noFlowStart
        load := some l.inRamp } ∧ (s.enterRamp a).header = s.header := by
  unfold State.enterRamp
  simp only [load]
  exact blend_arm load
    (fun x =>
      { x with
        state := .ramp, mainOpening := l.recipe.primeOpening, ethanolOpening := l.entryEthanol, noFlow := s.noFlowStart })
    (fun l => { l.blended with rampBase := some l.data.product }) rfl

/-- The arm in TAPER, where no checkpoint fires. -/
theorem enterTaperAtStep_arm (silent : l.taperCeiling = none → ∀ e ∈ l.recipe.checkpoints, e.event ≠ .taperBegin) :
    (s.enterTaperAtStep a).arm a =
      { s.arm a with
        state := .taper, mainOpening := l.taperEntryOpening (l.ceilingOr l.recipe.fullOpening)
        ethanolOpening := l.entryEthanol, noFlow := s.noFlowStart, load := some l.inTaper } ∧
      (s.enterTaperAtStep a).header = s.header := by
  unfold State.enterTaperAtStep
  simp only [load]
  obtain ⟨arm, header⟩ := blend_arm load
    (fun x =>
      { x with
        state := .taper, mainOpening := l.taperEntryOpening (l.ceilingOr l.recipe.fullOpening)
        ethanolOpening := l.entryEthanol, noFlow := s.noFlowStart })
    (fun l => { l.blended with taperCeiling := some (l.ceilingOr l.recipe.fullOpening) }) rfl
  have quiet : ∀ t : State, t.load? a = some l.inTaper → t.fireIfFirst a l.taperCeiling.isNone = t := by
    intro t there
    rw [State.fireIfFirst]
    cases ceiling : l.taperCeiling with
    | some c => rfl
    | none => exact fireEvent_of_none there (by rw [Load.inTaper, requeued_eq]; exact silent ceiling)
  rw [quiet _ (congrArg Arm.load arm)]
  exact ⟨arm, header⟩

end Enter

/-! ## The serving of the head (R106) -/

/-- The state in which the head of the wait list has its shares. -/
def State.headGranted (s : State) (w : Waiter) (rest : List Waiter) : State :=
  s.modHeader fun h => ({ h with wait := rest } : Header).grant w.arm w.shares

/-- A head that fits is granted its shares, its arm acts, and the serving goes on. -/
theorem serve_of_fits {s : State} {w : Waiter} {rest : List Waiter} (waits : s.header.wait = w :: rest)
    (present : s.trips.header = true) (fits : w.shares ≤ s.header.free) :
    s.serve = State.serveUpTo rest.length ((s.headGranted w rest).receiveGrant w.arm) := by
  rw [State.serve, waits, List.length_cons, State.serveUpTo]
  simp only [waits]
  rw [if_pos ⟨present, fits⟩]
  rfl

/-- Shares granted to an arm that had none. -/
theorem sharesOf_grant_self {h : Header} {a : Fin 8} (n : Nat) (none_ : ∀ g ∈ h.grants, g.arm ≠ a) :
    (h.grant a n).sharesOf a = n := by
  have fresh : h.grants.find? (fun g => g.arm == a) = none :=
    List.find?_eq_none.mpr fun g mem => by simpa using none_ g mem
  simp [Header.sharesOf, Header.grant, fresh]

/-- The taper ceiling of a first entry, or the one that stands. -/
theorem ceilingOr_eq (l : Load) (o : Nat) : l.ceilingOr o = l.taperCeiling.getD o := by
  unfold Load.ceilingOr
  cases l.taperCeiling <;> rfl

/-- What the statement says of the head that is served, its load `l` having waited at V. -/
structure State.HeadServed (t : State) (a : Fin 8) (shares : Nat) (l m : Load) : Prop where
  load : t.load? a = some m
  listed : t.notListed a
  revision : m.data.revision = if 65535 ≤ l.data.revision then 1 else l.data.revision + 1
  closes : l.data.preset ≤ l.data.product → (t.arm a).state = .closing ∧ t.header.sharesOf a = 0
  flushes : l.data.product < l.data.preset → l.data.flushPoint ≤ l.data.product →
    (t.arm a).state = .flush ∧ m.flushEnd = some l.data.preset ∧ m.flushKind = some .ordered ∧ t.header.sharesOf a = 0
  tapers : l.data.product < l.data.preset → l.data.product < l.data.flushPoint →
    (l.data.taperPoint ≤ l.data.product ∨ l.waitTarget = some .taper) →
    (t.arm a).state = .taper ∧ m.taperCeiling = some (l.taperCeiling.getD l.recipe.fullOpening) ∧
      t.header.sharesOf a = shares
  ramps : l.data.product < l.data.preset → l.data.product < l.data.flushPoint → l.data.product < l.data.taperPoint →
    l.waitTarget ≠ some .taper →
    (t.arm a).state = .ramp ∧ (t.arm a).mainOpening = l.recipe.primeOpening ∧ m.rampBase = some l.data.product ∧
      t.header.sharesOf a = shares

section Head

variable {s0 g : State} {a : Fin 8} {l : Load} {shares : Nat} (before : s0.load? a = some l)
  (waiting : (s0.arm a).state = .shareWait) (same : g.arm a = s0.arm a) (unlisted : g.notListed a)
  (granted : g.header.sharesOf a = shares)
include before waiting same unlisted granted

omit same unlisted in
/-- An arm that has entered a blending phase on its grant, whatever has become of others since. -/
theorem served_blending {r u : State} {m : Load} (after : r.load? a = some m) (header : r.header = g.header)
    (number : m.data.number = l.data.number) (moved : (r.arm a).state ≠ .shareWait) (spared : r.Spares a u) :
    (State.bumpRevisions s0 u).arm a = { r.arm a with load := some m.bump } ∧
      (State.bumpRevisions s0 u).notListed a ∧ (State.bumpRevisions s0 u).header.sharesOf a = shares := by
  refine ⟨?_, bumpRevisions_notListed spared.listed, ?_⟩
  · rw [bumpRevisions_arm_moved before ((congrArg Arm.load spared.arm).trans after) number
      (by rw [spared.arm, waiting]; exact moved), spared.arm]
  · rw [State.bumpRevisions_header, spared.shares, header, granted]

/-- The head acts on its grant by where V lies. -/
theorem headServed (n : Nat) (pending : l.data.pending = none) (silent : ∀ c ∈ l.recipe.checkpoints, c.event ≠ .taperBegin) :
    ∃ m, (State.bumpRevisions s0 (State.serveUpTo n (g.receiveGrant a))).HeadServed a shares l m := by
  have load : g.load? a = some l := (congrArg Arm.load same).trans before
  have receives : g.receiveGrant a =
      if l.data.preset ≤ l.data.product then g.enterClosing a
      else if l.data.flushPoint ≤ l.data.product then g.enterFlush a .ordered
      else if l.data.taperPoint ≤ l.data.product ∨ l.waitTarget = some .taper then g.enterTaperAtStep a
      else g.enterRamp a := by simp only [State.receiveGrant, load]
  rw [receives]
  by_cases atPreset : l.data.preset ≤ l.data.product
  · rw [if_pos atPreset]
    obtain ⟨m, ends⟩ := endsClosing_of_spared before load rfl (by rw [waiting]; decide)
      ((spares_madeOn a _).serveUpTo n (enterClosing_spares g a))
    exact ⟨m, ends.load, ends.listed, ends.moved.revision, fun _ => ⟨ends.state, ends.shares⟩,
      fun below => absurd atPreset (by omega), fun below => absurd atPreset (by omega),
      fun below => absurd atPreset (by omega)⟩
  · rw [if_neg atPreset]
    by_cases atFlush : l.data.flushPoint ≤ l.data.product
    · rw [if_pos atFlush]
      have reaches : l.entryEnd .ordered = l.data.preset := by rw [Load.entryEnd, pending, Option.getD_none]
      obtain ⟨m, ends⟩ := endsFlush_of_spared before load rfl .ordered (by omega) (by rw [waiting]; decide)
        ((spares_madeOn a _).serveUpTo n (enterFlush_spares .ordered load))
      exact ⟨m, ends.load, ends.listed, ends.moved.revision, fun above => absurd above atPreset,
        fun _ _ => ⟨ends.state, by rw [ends.flushEnd, reaches], ends.flushKind, ends.shares⟩,
        fun _ below => absurd atFlush (by omega), fun _ below => absurd atFlush (by omega)⟩
    · rw [if_neg atFlush]
      by_cases toTaper : l.data.taperPoint ≤ l.data.product ∨ l.waitTarget = some .taper
      · rw [if_pos toTaper]
        obtain ⟨arm, header⟩ := enterTaperAtStep_arm load fun _ => silent
        have number : l.inTaper.data.number = l.data.number := by rw [Load.inTaper, requeued_eq]; rfl
        obtain ⟨ended, listed, shares_⟩ := served_blending before waiting granted (congrArg Arm.load arm) header number
          (by rw [arm]; simp) ((spares_madeOn a _).serveUpTo n ⟨rfl, rfl, by rw [State.notListed, header]; exact unlisted⟩)
        refine ⟨l.inTaper.bump, congrArg Arm.load ended, listed, ?_, fun above => absurd above atPreset,
          fun _ above => absurd above atFlush, fun _ _ _ => ⟨by rw [ended, arm], ?_, shares_⟩,
          fun _ _ below other => absurd toTaper (by rintro (above | target) <;> [omega; exact other target])⟩
        · rw [Load.inTaper, requeued_eq]; rfl
        · rw [Load.inTaper, requeued_eq, ← ceilingOr_eq]; rfl
      · rw [if_neg toTaper]
        obtain ⟨arm, header⟩ := enterRamp_arm load
        have number : l.inRamp.data.number = l.data.number := by rw [Load.inRamp, requeued_eq]; rfl
        obtain ⟨ended, listed, shares_⟩ := served_blending before waiting granted (congrArg Arm.load arm) header number
          (by rw [arm]; simp) ((spares_madeOn a _).serveUpTo n ⟨rfl, rfl, by rw [State.notListed, header]; exact unlisted⟩)
        refine ⟨l.inRamp.bump, congrArg Arm.load ended, listed, ?_, fun above => absurd above atPreset,
          fun _ above => absurd above atFlush, fun _ _ target => absurd target toTaper,
          fun _ _ _ _ => ⟨by rw [ended, arm], by rw [ended, arm], ?_, shares_⟩⟩
        · rw [Load.inRamp, requeued_eq]; rfl
        · rw [Load.inRamp, requeued_eq]; rfl

end Head

/-! ## SET HEADER CAPACITY (R110) -/

/-- The state with a new capacity. -/
def State.withCapacity (s : State) (n : Nat) : State := s.modHeader fun h => { h with capacity := n }

/-- A capacity within its range and not below the shares in use. -/
theorem capacitySet_of_fits {capacity : Byte} {s : State} (inside : capacity.toNat ≤ 16) (covers : s.header.inUse ≤ capacity.toNat) :
    State.capacitySet capacity s =
      let u := if s.header.capacity < capacity.toNat then State.endEvent s (s.withCapacity capacity.toNat)
        else s.withCapacity capacity.toNat
      (u, some (okay (.capacity u.header.capacity u.header.inUse u.header.wait.length))) := by
  rw [State.capacitySet, if_neg (by omega), if_neg (by omega)]
  rfl

/-- A raise that leaves a head that does not fit serves nobody. -/
theorem endEvent_withCapacity_of_blocked {s : State} {n : Nat} (covers : s.header.inUse ≤ n)
    (blocked : s.trips.header = false ∨ ∀ w rest, s.header.wait = w :: rest → n < s.header.inUse + w.shares) :
    State.endEvent s (s.withCapacity n) = s.withCapacity n := by
  have still : ∀ a, State.partsChanged s (s.withCapacity n) a = false := fun a => partsChanged_of_arm rfl
  rw [endEvent_of_blocked, bumpRevisions_of_others (a := 0) fun b _ => still b, still 0, if_neg (by decide)]
  intro w rest waits present fits
  have free : w.shares ≤ n - s.header.inUse := fits
  rcases blocked with lost | blocked
  · exact absurd (lost.symm.trans present) (by decide)
  · have short := blocked w rest waits
    omega

/-- The frame of a raise. -/
theorem withCapacity_frame (s0 s : State) (n : Nat) : (s.withCapacity n).Frame (State.endEvent s0 (s.withCapacity n)) :=
  endEvent_frame s0 (.refl _)

/-- A raise serves from the head until it does not fit. -/
theorem raise_blocked {s : State} {n : Nat} (raised : s.header.capacity < n) (present : s.trips.header = true) (w : Waiter)
    (rest : List Waiter) (waits : (State.endEvent s (s.withCapacity n)).header.wait = w :: rest) :
    n < (State.endEvent s (s.withCapacity n)).header.inUse + w.shares := by
  have frame := withCapacity_frame s s n
  have changed : (s.withCapacity n).header ≠ s.header := fun same => absurd (congrArg Header.capacity same) (by
    change ¬ n = s.header.capacity
    omega)
  have header : (State.endEvent s (s.withCapacity n)).header = (s.withCapacity n).serve.header := by
    rw [State.endEvent, State.bumpRevisions_header, State.serveAfter, if_neg changed]
  have trips : (s.withCapacity n).serve.trips.header = true := by
    have kept := (frame_madeOn (s.withCapacity n)).serveUpTo (s.withCapacity n).header.wait.length (.refl _)
    rw [State.serve, kept.trips]
    exact present
  have capacity : (State.endEvent s (s.withCapacity n)).header.capacity = n := frame.capacity
  rw [header] at waits capacity ⊢
  by_contra fits
  refine serveUpTo_head _ le_rfl w rest waits ⟨trips, ?_⟩
  change w.shares ≤ (s.withCapacity n).serve.header.capacity - (s.withCapacity n).serve.header.inUse
  omega

/-- The head that a raise lets fit is served. -/
theorem raise_headServed {s : State} {n : Nat} {w : Waiter} {rest : List Waiter} {l : Load} (raised : s.header.capacity < n)
    (covers : s.header.inUse ≤ n) (present : s.trips.header = true) (waits : s.header.wait = w :: rest)
    (fits : s.header.inUse + w.shares ≤ n) (once : ∀ x ∈ rest, x.arm ≠ w.arm) (fresh : ∀ g ∈ s.header.grants, g.arm ≠ w.arm)
    (load : s.load? w.arm = some l) (waiting : (s.arm w.arm).state = .shareWait) (pending : l.data.pending = none)
    (silent : ∀ c ∈ l.recipe.checkpoints, c.event ≠ .taperBegin) :
    ∃ m, (State.endEvent s (s.withCapacity n)).HeadServed w.arm w.shares l m := by
  have changed : (s.withCapacity n).header ≠ s.header := fun same => absurd (congrArg Header.capacity same) (by
    change ¬ n = s.header.capacity
    omega)
  have free : w.shares ≤ (s.withCapacity n).header.free := by
    change w.shares ≤ n - s.header.inUse
    omega
  rw [State.endEvent, State.serveAfter, if_neg changed, serve_of_fits (s := s.withCapacity n) waits present free]
  exact headServed (g := (s.withCapacity n).headGranted w rest) load waiting rfl once (sharesOf_grant_self (h := { (s.withCapacity n).header with wait := rest }) w.shares fresh)
    rest.length pending silent

/-- Settles O33: refused, taken with nothing to serve, or served from the head. -/
theorem setHeaderCapacityServes : Obligations.SetHeaderCapacityServes := by
  unfold Obligations.SetHeaderCapacityServes
  intro p tag capacity s free terminal
  have may := mayIssue_of_terminal terminal (rc := .setHeaderCapacity) (by decide)
  refine ⟨fun high => ?high, fun inside short => ?short, fun inside covers still => ?still,
    fun inside covers raised present => ?raised⟩
  case high =>
    exact next_unchanged free may rfl (if_pos high)
  case short =>
    refine next_unchanged free may rfl ?_
    rw [State.capacitySet, if_neg (by omega)]
    exact if_pos short
  case still =>
    refine next_answered free may rfl ((capacitySet_of_fits (s := s.accept p ReqCode.setHeaderCapacity.toByte tag) inside
      covers).trans ?_)
    dsimp only
    split
    · rename_i raised
      rw [endEvent_withCapacity_of_blocked (s := s.accept p ReqCode.setHeaderCapacity.toByte tag) covers
        (still.resolve_left (Nat.not_le.mpr raised))]
      rfl
    · rfl
  case raised =>
    have effect := capacitySet_of_fits (s := s.accept p ReqCode.setHeaderCapacity.toByte tag) inside covers
    dsimp only at effect
    rw [if_pos (show (s.accept p ReqCode.setHeaderCapacity.toByte tag).header.capacity < _ from raised)] at effect
    have frame := withCapacity_frame (s.accept p ReqCode.setHeaderCapacity.toByte tag)
      (s.accept p ReqCode.setHeaderCapacity.toByte tag) capacity.toNat
    have blocked := raise_blocked (s := s.accept p ReqCode.setHeaderCapacity.toByte tag) raised present
    have answer : ((State.endEvent (s.accept p ReqCode.setHeaderCapacity.toByte tag)
        ((s.accept p ReqCode.setHeaderCapacity.toByte tag).withCapacity capacity.toNat)).port p).answer.isBusy = true := by
      rw [frame.answer p]
      change ((s.accept p ReqCode.setHeaderCapacity.toByte tag).port p).answer.isBusy = true
      rw [accept_port_self]
      rfl
    have run := takeRequest_acts free may effect
    rw [clearIfConditional_of_not rfl] at run
    have capacityTaken : (State.endEvent (s.accept p ReqCode.setHeaderCapacity.toByte tag)
        ((s.accept p ReqCode.setHeaderCapacity.toByte tag).withCapacity capacity.toNat)).header.capacity = capacity.toNat :=
      frame.capacity
    rw [capacityTaken] at run
    obtain ⟨⟨⟨k1, k2, k3, k4, k5, k6, k7, k8, k9, k10, k11⟩, k12, k13, k14⟩, _, _, _, _⟩ := frame
    refine ⟨_, congrArg Host.Outcome.next run, capacityTaken, blocked, response?_respond answer _,
      ⟨⟨k1, k2, k3, k4, k5, k6, k7, k8, k9, k10, k11⟩, k12, k13, k14⟩,
      fun w rest l waits fits once fresh load waiting pending silent => ?_⟩
    obtain ⟨m, served⟩ := raise_headServed (s := s.accept p ReqCode.setHeaderCapacity.toByte tag) raised covers present waits
      fits once fresh load waiting pending silent
    exact ⟨m, served.load, served.listed, served.revision, served.closes, served.flushes, served.tapers, served.ramps⟩

end Sys2Proof.Machine
end

section
/-! PROOFS. A tick counted to a load (R39, R41, R89, R92, R98 to R100). -/

namespace Sys2Proof.Machine

/-! ## The counting -/

/-- The meter's remainder with the tick's factor added. -/
def State.netSum (s : State) (m : Fin 16) : Nat := (s.meter m).remainder + factorFor s m

/-- The state in which the meter has taken the tick. -/
def State.metered (s : State) (m : Fin 16) : State :=
  s.modMeter m fun x => { x with divider := x.kFactor, remainder := s.netSum m % 10000 }

/-- The data with the tick's net volume. -/
def LoadData.netted (d : LoadData) (s : State) (m : Fin 16) : LoadData :=
  d.countNet (isGasoline m) (s.netSum m / 10000) (substituted s m)

/-- The load with the tick counted to it, outside CLOSING. -/
def Load.ticked (l : Load) (s : State) (m : Fin 16) : Load := { l with data := (l.data.netted s m).countGross (isGasoline m) }

/-- The load with the tick counted to it in CLOSING. -/
def Load.overran (l : Load) (s : State) (m : Fin 16) : Load :=
  { l with data := (l.data.netted s m).countOverrun.countGross (isGasoline m) }

/-- The state in which the tick is counted. -/
def State.ticked (s : State) (m : Fin 16) : State := (s.metered m).modLoad (armOfMeter m) fun l => l.ticked s m

/-- The state in which a gasoline tick has moreover restarted the no-flow timer. -/
def State.flowTicked (s : State) (m : Fin 16) : State :=
  if isGasoline m then (s.ticked m).modArm (armOfMeter m) fun x => { x with noFlow := s.noFlowStart } else s.ticked m

/-- The state in which the tick is counted in CLOSING. -/
def State.closingTicked (s : State) (m : Fin 16) : State :=
  ((s.metered m).modLoad (armOfMeter m) fun l => l.overran s m).modArm (armOfMeter m) fun x =>
    { x with settle := s.settleStart }

/-- What a tick does to the data of a load. -/
theorem ticked_data (l : Load) (s : State) (m : Fin 16) :
    (l.ticked s m).data =
      { l.data with
        product := if Config.maxVolume ≤ l.data.product then l.data.product else l.data.product + 1
        gasoline := if l.data.product < Config.maxVolume ∧ isGasoline m = true then l.data.gasoline + 1 else l.data.gasoline
        ethanol := if l.data.product < Config.maxVolume ∧ isGasoline m = false then l.data.ethanol + 1 else l.data.ethanol
        gasolineNet := if isGasoline m = true then advanceNet l.data.gasolineNet (s.netSum m / 10000) else l.data.gasolineNet
        ethanolNet := if isGasoline m = true then l.data.ethanolNet else advanceNet l.data.ethanolNet (s.netSum m / 10000)
        tempSubstituted := l.data.tempSubstituted || substituted s m } := by
  unfold Load.ticked LoadData.netted LoadData.countNet LoadData.countGross
  cases gas : isGasoline m
  all_goals
    by_cases full : Config.maxVolume ≤ l.data.product
    · simp [full, Nat.not_lt.mpr full]
    · simp [full, Nat.lt_of_not_le full]

/-- In CLOSING the overrun advances too. -/
theorem overran_data (l : Load) (s : State) (m : Fin 16) :
    (l.overran s m).data =
      { (l.ticked s m).data with
        overrun := if Config.maxVolume ≤ l.data.product then l.data.overrun else l.data.overrun + 1 } := by
  rw [ticked_data]
  unfold Load.overran LoadData.netted LoadData.countNet LoadData.countGross LoadData.countOverrun
  cases gas : isGasoline m
  all_goals
    by_cases full : Config.maxVolume ≤ l.data.product
    · simp [full, Nat.not_lt.mpr full]
    · simp [full, Nat.lt_of_not_le full]

/-- The Metering Unit's part of the tick. -/
theorem countNetVolume_eq (s : State) (m : Fin 16) :
    (s.modMeter m fun x => { x with divider := x.kFactor }).countNetVolume (armOfMeter m) m =
      (s.metered m).modLoad (armOfMeter m) fun l => { l with data := l.data.netted s m } := by
  have sum : ((s.modMeter m fun x => { x with divider := x.kFactor }).meter m).remainder +
      factorFor (s.modMeter m fun x => { x with divider := x.kFactor }) m = s.netSum m := by
    rw [State.modMeter_meter_self]
    rfl
  unfold State.countNetVolume
  rw [sum]
  dsimp only
  rw [modMeter_modMeter]
  rfl

/-- Both parts of the tick. -/
theorem countVolumes_eq (s : State) (m : Fin 16) :
    ((s.modMeter m fun x => { x with divider := x.kFactor }).countNetVolume (armOfMeter m) m).countGrossVolume (armOfMeter m) m =
      s.ticked m := by
  rw [countNetVolume_eq, State.countGrossVolume, modLoad_modLoad]
  rfl

section Pulse

variable {m : Fin 16} {l : Load} {s : State} (enabled : (s.meter m).enable = true) (last : (s.meter m).divider ≤ 1)
  (load : s.load? (armOfMeter m) = some l)
include enabled last load

/-- A pulse that completes a tick on an arm with a load. -/
theorem pulse_load : s.pulse m = State.endEvent s ((s.modMeter m fun x => { x with divider := x.kFactor }).loadTick
    (armOfMeter m) m) := by
  have loaded : (s.modMeter m fun x => { x with divider := x.kFactor }).load? (armOfMeter m) = some l := load
  rw [State.pulse, if_neg (by simp [enabled]), if_neg (by omega), State.tick, loaded]
  rfl

/-- A tick in HELD or SHARE_WAIT (R41). -/
theorem pulse_still (state : (s.arm (armOfMeter m)).state = .held ∨ (s.arm (armOfMeter m)).state = .shareWait) :
    s.pulse m = State.endEvent s ((s.ticked m).judgeVolume (armOfMeter m)) := by
  rw [pulse_load enabled last load, State.loadTick]
  rcases state with state | state
  all_goals
    rw [show ((s.modMeter m fun x => { x with divider := x.kFactor }).arm (armOfMeter m)).state = _ from state]
    dsimp only
    rw [countVolumes_eq]

/-- A tick in a flowing state (R41). -/
theorem pulse_flow (flowing : (s.arm (armOfMeter m)).state.isFlowing = true) :
    s.pulse m = State.endEvent s ((((s.flowTicked m).flowSteps (armOfMeter m)).judgeShots (armOfMeter m)).judgeVolume
      (armOfMeter m)) := by
  have steps : ((s.modMeter m fun x => { x with divider := x.kFactor }).countNetVolume (armOfMeter m) m).flowTick
      (armOfMeter m) m = (s.flowTicked m).flowSteps (armOfMeter m) := by
    unfold State.flowTick
    rw [countVolumes_eq]
    rfl
  rw [pulse_load enabled last load, State.loadTick]
  cases state : (s.arm (armOfMeter m)).state
  all_goals rw [state] at flowing
  case idle => exact absurd flowing (by decide)
  case shareWait => exact absurd flowing (by decide)
  case held => exact absurd flowing (by decide)
  case closing => exact absurd flowing (by decide)
  all_goals
    rw [show ((s.modMeter m fun x => { x with divider := x.kFactor }).arm (armOfMeter m)).state = _ from state]
    dsimp only
    rw [steps]

omit enabled last in
/-- The overrun of a tick in CLOSING, whose meter has counted it. -/
theorem closingTick_eq : ((s.metered m).modLoad (armOfMeter m) fun l => { l with data := l.data.netted s m }).closingTick
    (armOfMeter m) m =
      if l.data.product < Config.maxVolume ∧ s.settings.overrunLimit < l.data.overrun + 1 ∧ l.data.faults.overrun = false then
        ((s.closingTicked m).addFault (armOfMeter m) fun f => { f with overrun := true }).raise .overrun terminalPorts
      else s.closingTicked m := by
  have netted : ((s.metered m).modLoad (armOfMeter m) fun l => { l with data := l.data.netted s m }).load? (armOfMeter m) =
      some { l with data := l.data.netted s m } := load?_modLoad _ load
  have counted : (s.closingTicked m).load? (armOfMeter m) = some (l.overran s m) := by
    rw [State.closingTicked, State.load?_modArm_self]
    exact load?_modLoad _ load
  have ticked : ((((s.metered m).modLoad (armOfMeter m) fun l => { l with data := l.data.netted s m }).modLoad (armOfMeter m)
      fun l => { l with data := l.data.countOverrun }).countGrossVolume (armOfMeter m) m).modArm (armOfMeter m)
      (fun x => { x with settle := s.settleStart }) = s.closingTicked m := by
    rw [State.countGrossVolume, modLoad_modLoad, modLoad_modLoad]
    rfl
  have overrun : (l.data.netted s m).overrun = l.data.overrun := by
    rw [LoadData.netted, LoadData.countNet]; split <;> rfl
  have after : (l.overran s m).data.overrun = if Config.maxVolume ≤ l.data.product then l.data.overrun else l.data.overrun + 1 := by
    rw [overran_data]
  have still : (l.overran s m).data.faults = l.data.faults := by rw [overran_data, ticked_data]
  have same : ((s.metered m).modLoad (armOfMeter m) fun l => { l with data := l.data.netted s m }).settleStart =
      s.settleStart := rfl
  have limit : ((s.metered m).modLoad (armOfMeter m) fun l => { l with data := l.data.netted s m }).settings = s.settings := rfl
  unfold State.closingTick
  rw [netted]
  dsimp only
  rw [same, ticked, counted, limit]
  dsimp only
  rw [after, still, overrun]
  by_cases full : Config.maxVolume ≤ l.data.product
  · rw [if_pos full, if_neg (fun c => absurd c.1 (Nat.lt_irrefl _)), if_neg (fun c => absurd full (Nat.not_le.mpr c.1))]
  · have room := Nat.lt_of_not_le full
    rw [if_neg full]
    simp only [Nat.lt_succ_self, room, true_and]

/-- A tick in CLOSING (R41, R92). -/
theorem pulse_closing (state : (s.arm (armOfMeter m)).state = .closing) :
    s.pulse m = State.endEvent s
      (if l.data.product < Config.maxVolume ∧ s.settings.overrunLimit < l.data.overrun + 1 ∧ l.data.faults.overrun = false then
        ((s.closingTicked m).addFault (armOfMeter m) fun f => { f with overrun := true }).raise .overrun terminalPorts
      else s.closingTicked m) := by
  rw [pulse_load enabled last load, State.loadTick]
  rw [show ((s.modMeter m fun x => { x with divider := x.kFactor }).arm (armOfMeter m)).state = .closing from state]
  dsimp only
  rw [countNetVolume_eq, closingTick_eq load]

end Pulse

/-! ## The volumes that stand after the tick (R39, R100) -/

/-- The load is on the arm, with this recipe and these volumes. -/
def State.Measures (a : Fin 8) (r : Recipe) (v : Nat × Nat × Nat × Nat × Nat × Nat × Bool × Nat) (t : State) : Prop :=
  ∃ k, t.load? a = some k ∧ k.recipe = r ∧ k.data.volumes = v

section Measures

variable {a : Fin 8} {r : Recipe} {v : Nat × Nat × Nat × Nat × Nat × Nat × Bool × Nat}

/-- Only a change of the arm's load reaches it. -/
theorem State.Measures.of_load {s t : State} (h : s.Measures a r v) (same : t.load? a = s.load? a) : t.Measures a r v := by
  obtain ⟨k, load, recipe, volumes⟩ := h
  exact ⟨k, same.trans load, recipe, volumes⟩

/-- A change of loads that leaves recipe and volumes. -/
theorem State.Measures.modArm {b : Fin 8} {s : State} (h : s.Measures a r v) {f : Arm → Arm} {g : Load → Load}
    (load : (f (s.arm b)).load = (s.arm b).load.map g)
    (same : ∀ l : Load, (g l).recipe = l.recipe ∧ (g l).data.volumes = l.data.volumes) : (s.modArm b f).Measures a r v := by
  by_cases own : a = b
  · subst own
    obtain ⟨k, held, recipe, volumes⟩ := h
    obtain ⟨sameRecipe, sameVolumes⟩ := same k
    exact ⟨g k, by rw [State.load?_modArm_self, load, show (s.arm a).load = some k from held, Option.map_some],
      sameRecipe.trans recipe, sameVolumes.trans volumes⟩
  · exact h.of_load (congrArg Arm.load (State.modArm_arm_ne _ _ _ _ own))

variable (a r v)

/-- What an event makes after the tick is counted leaves recipe and volumes. -/
theorem measures_madeOn : MadeOn (fun _ => True) (State.Measures a r v) :=
  { LinesActOn.actsOn (A := fun _ => True) (P := State.Measures a r v)
      { move := fun _ _ _ h load kept => h.modArm load fun l => ⟨(kept l).recipe, (kept l).volumes⟩
        modLine := fun _ _ _ h => h.modArm rfl fun _ => ⟨rfl, rfl⟩
        drop := fun _ h => h
        grant := fun _ _ h => h
        queue := fun _ _ _ h => h
        station := fun _ _ h => h
        bus := fun _ h => h
        page := fun _ _ h => h
        raise := fun n ps _ h => h.of_load (raise_kept (fun t => t.load? a) (fun _ _ _ => rfl) n ps _) } with
    head := fun h _ => ⟨trivial, h⟩ }

end Measures

end Sys2Proof.Machine
end

section
/-! PROOFS. The volumes of a tick counted to a load (R39, R41, R64, R89, R92, R98 to R100). -/

namespace Sys2Proof.Machine

/-- The band of a reading, as its bounds give it (R98). -/
theorem bandOf_eq (reading : Int) : bandOf reading = (max 0 (min 16 ((reading + 300) / 50))).toNat := by
  unfold bandOf
  simp only
  split
  · omega
  · split <;> omega

/-- The factor of a tick (R99). -/
theorem factorFor_eq (s : State) (m : Fin 16) : factorFor s m =
    if (s.probe m).condition = .valid then
      (if m.val % 2 = 0 then s.settings.gasolineTable else s.settings.ethanolTable).toList.getD
        (max 0 (min 16 (((s.probe m).reading + 300) / 50))).toNat 0
    else 10000 := by
  have low := bandOf_lt (s.probe m).reading
  unfold factorFor
  cases (s.probe m).condition with
  | off => rfl
  | fault => rfl
  | valid =>
    rw [if_pos rfl, ← bandOf_eq]
    by_cases gas : m.val % 2 = 0
    · simp [isGasoline, gas, low]
    · simp [isGasoline, gas, low]

section Tick

variable {m : Fin 16} {l : Load} {s : State} (enabled : (s.meter m).enable = true) (last : (s.meter m).divider ≤ 1)
  (load : s.load? (armOfMeter m) = some l)
include enabled last load

/-- Outside CLOSING the tick leaves the load with its volumes. -/
theorem pulse_measures (opened : (s.arm (armOfMeter m)).state ≠ .closing) (busy : (s.arm (armOfMeter m)).state ≠ .idle) :
    (s.metered m).Frame (s.pulse m) ∧ (s.pulse m).Measures (armOfMeter m) l.recipe (l.ticked s m).data.volumes := by
  have frame := frame_madeOn (s.metered m)
  have volumes := measures_madeOn (armOfMeter m) l.recipe (l.ticked s m).data.volumes
  have counted : (s.metered m).Frame (s.ticked m) ∧ (s.ticked m).Measures (armOfMeter m) l.recipe (l.ticked s m).data.volumes :=
    ⟨(frame_anyMadeOn (s.metered m)).modLoad trivial (.refl _), _, load?_modLoad _ load, rfl, rfl⟩
  have flowed : (s.metered m).Frame (s.flowTicked m) ∧
      (s.flowTicked m).Measures (armOfMeter m) l.recipe (l.ticked s m).data.volumes := by
    unfold State.flowTicked
    split
    · exact ⟨frame.arm _ trivial counted.1, volumes.arm _ trivial counted.2⟩
    · exact counted
  by_cases flowing : (s.arm (armOfMeter m)).state.isFlowing = true
  · rw [pulse_flow enabled last load flowing]
    exact ⟨frame.endEvent s (fun _ => trivial)
        (frame.judgeVolume trivial (frame.judgeShots trivial (frame.flowSteps trivial flowed.1))),
      volumes.endEvent s (fun _ => trivial)
        (volumes.judgeVolume trivial (volumes.judgeShots trivial (volumes.flowSteps trivial flowed.2)))⟩
  · have still : (s.arm (armOfMeter m)).state = .held ∨ (s.arm (armOfMeter m)).state = .shareWait := by
      cases state : (s.arm (armOfMeter m)).state <;> simp_all [ArmState.isFlowing]
    rw [pulse_still enabled last load still]
    exact ⟨frame.endEvent s (fun _ => trivial) (frame.judgeVolume trivial counted.1),
      volumes.endEvent s (fun _ => trivial) (volumes.judgeVolume trivial counted.2)⟩

omit enabled last in
/-- The arm with the tick counted in CLOSING. -/
theorem closingTicked_arm : (s.closingTicked m).arm (armOfMeter m) =
    { s.arm (armOfMeter m) with settle := s.settleStart, load := some (l.overran s m) } := by
  have held : ((s.metered m).arm (armOfMeter m)).load = some l := load
  rw [State.closingTicked, State.modArm_arm_self, State.modLoad, State.modArm_arm_self, held]
  rfl

/-- The overrun notice of a tick in CLOSING is due (R92). -/
def Load.overruns (l : Load) (s : State) : Prop := s.settings.overrunLimit < l.data.overrun + 1 ∧ l.data.faults.overrun = false

/-- The load after a tick in CLOSING whose notice is due. -/
def Load.overranFault (l : Load) (s : State) (m : Fin 16) : Load :=
  { l.overran s m with data := { (l.overran s m).data with faults := { (l.overran s m).data.faults with overrun := true } } }

omit enabled last in
/-- The arm moreover with OVERRUN in its load's fault set. -/
theorem closingFault_arm : (((s.closingTicked m).addFault (armOfMeter m) fun f => { f with overrun := true }).raise .overrun
    terminalPorts).arm (armOfMeter m) =
      { s.arm (armOfMeter m) with settle := s.settleStart, load := some (l.overranFault s m) } := by
  rw [raise_kept (fun t => t.arm (armOfMeter m)) fun _ _ _ => rfl, State.addFault, State.modLoad, State.modArm_arm_self,
    closingTicked_arm load]
  rfl

omit enabled last in
/-- An event in CLOSING that leaves the parts of R15. -/
theorem endEvent_of_closing {u : State} {k : Load} (header : u.header = s.header)
    (others : ∀ b, b ≠ armOfMeter m → u.arm b = s.arm b)
    (arm : u.arm (armOfMeter m) = { s.arm (armOfMeter m) with settle := s.settleStart, load := some k })
    (data : k.data.number = l.data.number ∧ l.SameParts k) : State.endEvent s u = u := by
  obtain ⟨number, same⟩ := data
  have kept : State.partsChanged s u (armOfMeter m) = false := by
    rw [partsChanged_of_loads load (congrArg Arm.load arm) number, same.preset, same.pending, same.causes, same.flag0,
      same.flag1, same.resume, arm]
    simp
  rw [endEvent_of_one header others, kept]
  rfl

/-- What a tick in CLOSING leaves behind. -/
theorem pulse_closed (state : (s.arm (armOfMeter m)).state = .closing) :
    (s.metered m).Frame (s.pulse m) ∧ ∃ k, (s.pulse m).arm (armOfMeter m) =
      { s.arm (armOfMeter m) with settle := s.settleStart, load := some k } ∧
      (l.data.product < Config.maxVolume ∧ l.overruns s → k = l.overranFault s m ∧ s.portsRaised (s.pulse m) .overrun [.ta, .tb]) ∧
      (¬ (l.data.product < Config.maxVolume ∧ l.overruns s) → k = l.overran s m ∧ s.portsRaised (s.pulse m) .overrun []) := by
  have frame := frame_madeOn (s.metered m)
  have ticked : (s.metered m).Frame (s.closingTicked m) :=
    frame.arm _ trivial ((frame_anyMadeOn (s.metered m)).modLoad trivial (.refl _))
  have others : ∀ b, b ≠ armOfMeter m → (s.closingTicked m).arm b = s.arm b := fun b ne => by
    rw [State.closingTicked, State.modArm_arm_ne _ _ _ _ ne, State.modLoad, State.modArm_arm_ne _ _ _ _ ne]
    rfl
  have parts : (l.overran s m).data.number = l.data.number ∧ l.SameParts (l.overran s m) := by
    constructor
    · rw [overran_data, ticked_data]
    · refine ⟨?_, ?_, ?_, ?_, ?_, rfl⟩ <;> rw [overran_data, ticked_data]
  rw [pulse_closing enabled last load state]
  by_cases due : l.data.product < Config.maxVolume ∧ s.settings.overrunLimit < l.data.overrun + 1 ∧ l.data.faults.overrun = false
  · have raised := fun {β : Type} (g : State → β) (port : ∀ s p f, g (s.modPort p f) = g s) =>
      raise_kept g port .overrun terminalPorts ((s.closingTicked m).addFault (armOfMeter m) fun f => { f with overrun := true })
    have arm := closingFault_arm load
    rw [if_pos due, endEvent_of_closing load (raised State.header fun _ _ _ => rfl)
      (fun b ne => (raised (fun t => t.arm b) fun _ _ _ => rfl).trans
        ((State.modArm_arm_ne _ _ _ _ ne).trans (others b ne))) arm
      ⟨parts.1, parts.2.1, parts.2.2, parts.2.3, parts.2.4, parts.2.5, parts.2.6⟩]
    exact ⟨(frame.addFault _ trivial ticked).raise .overrun _, _, arm,
      fun _ => ⟨rfl, raise_portsRaised ((s.closingTicked m).addFault (armOfMeter m) fun f => { f with overrun := true })
        .overrun terminalPorts⟩, fun off => absurd due off⟩
  · have arm := closingTicked_arm load
    rw [if_neg due, endEvent_of_closing (u := s.closingTicked m) load rfl others arm parts]
    exact ⟨ticked, _, arm, fun on => absurd on due, fun _ => ⟨rfl, fun p mem => absurd mem (by simp), fun p _ => rfl⟩⟩

end Tick

/-- The tick has been counted to the load, but for its overrun. -/
def Load.Counted (l : Load) (s : State) (m : Fin 16) (k : Load) : Prop :=
  k.data.volumes = ({ (l.ticked s m).data with overrun := k.data.overrun } : LoadData).volumes

/-- The volumes of a load with the tick counted to it. -/
theorem Load.Counted.values {l k : Load} {s : State} {m : Fin 16} (h : l.Counted s m k) :
    k.data.number = l.data.number ∧
      (l.data.product < 16777215 → k.data.product = l.data.product + 1 ∧
        k.data.gasoline = l.data.gasoline + (if m.val % 2 = 0 then 1 else 0) ∧
        k.data.ethanol = l.data.ethanol + (if m.val % 2 = 0 then 0 else 1)) ∧
      (16777215 ≤ l.data.product → k.data.product = l.data.product ∧ k.data.gasoline = l.data.gasoline ∧
        k.data.ethanol = l.data.ethanol) ∧
      k.data.gasolineNet =
        (if m.val % 2 = 0 then min (l.data.gasolineNet + s.netSum m / 10000) 16777215 else l.data.gasolineNet) ∧
      k.data.ethanolNet =
        (if m.val % 2 = 0 then l.data.ethanolNet else min (l.data.ethanolNet + s.netSum m / 10000) 16777215) ∧
      k.data.tempSubstituted = (l.data.tempSubstituted || decide ((s.probe m).condition ≠ .valid)) := by
  have gas : isGasoline m = decide (m.val % 2 = 0) := rfl
  have subst_ : substituted s m = decide ((s.probe m).condition ≠ .valid) := by
    unfold substituted
    cases (s.probe m).condition <;> rfl
  rw [Load.Counted, ticked_data, gas, subst_] at h
  simp only [LoadData.volumes, Prod.mk.injEq, decide_eq_true_eq, decide_eq_false_iff_not, and_true] at h
  obtain ⟨number, product, gasoline, ethanol, gasolineNet, ethanolNet, temp⟩ := h
  refine ⟨number, fun room => ?_, fun full => ?_, gasolineNet, ethanolNet, temp⟩
  · rw [product, gasoline, ethanol]
    by_cases even : m.val % 2 = 0 <;> simp [Config.maxVolume, room, even, Nat.not_le.mpr room]
  · rw [product, gasoline, ethanol]
    simp [Config.maxVolume, full, Nat.not_lt.mpr full]

/-- The meters after a tick. -/
theorem metered_meter (s : State) (m : Fin 16) :
    (s.metered m).meter m =
        { s.meter m with divider := (s.meter m).kFactor, remainder := s.netSum m % 10000 } ∧
      ∀ j, j ≠ m → (s.metered m).meter j = s.meter j :=
  ⟨State.modMeter_meter_self .., fun _ ne => State.modMeter_meter_ne _ _ _ _ ne⟩

/-- Settles O40: outside CLOSING by the volumes that every operation leaves, in CLOSING by the tick itself. -/
theorem loadTickAdvancesVolumes : Obligations.LoadTickAdvancesVolumes := by
  unfold Obligations.LoadTickAdvancesVolumes
  intro m l factor n s enabled last load busy factor_ net
  have sum : s.netSum m = (s.meter m).remainder + factor := by rw [State.netSum, factorFor_eq, ← factor_]
  obtain ⟨own, others⟩ := metered_meter s m
  rw [sum] at own
  subst net
  have meters : (s.metered m).Frame (s.pulse m) →
      (s.pulse m).meter m =
          { s.meter m with divider := (s.meter m).kFactor, remainder := ((s.meter m).remainder + factor) % 10000 } ∧
        (∀ j, j ≠ m → (s.pulse m).meter j = s.meter j) ∧ s.SameOutsideLoads (s.pulse m) := by
    rintro ⟨⟨⟨k1, k2, k3, k4, k5, k6, k7, k8, k9, k10, k11⟩, k12, k13, k14⟩, _, _, _, _⟩
    refine ⟨?_, fun j ne => ?_, ⟨k1, k2, k3, k4, k5, k6, k7, k8, k9, k10, k11⟩⟩
    · rw [State.meter, k12]
      exact own
    · rw [State.meter, k12]
      exact others j ne
  by_cases closing : (s.arm (armOfMeter m)).state = .closing
  · obtain ⟨frame, k, arm, due, undue⟩ := pulse_closed enabled last load closing
    have data : k.data = { (l.overran s m).data with faults := k.data.faults } := by
      by_cases notice : l.data.product < Config.maxVolume ∧ l.overruns s
      · rw [(due notice).1, Load.overranFault]
      · rw [(undue notice).1]
    have counted : l.Counted s m k := by
      rw [Load.Counted, data, overran_data]
      rfl
    have overrun : k.data.overrun = if 16777215 ≤ l.data.product then l.data.overrun else l.data.overrun + 1 := by
      rw [data, overran_data]
      rfl
    have revision : k.data.revision = l.data.revision := by rw [data, overran_data, ticked_data]
    have still : (l.overran s m).data.faults = l.data.faults := by rw [overran_data, ticked_data]
    obtain ⟨number, below, above, gasolineNet, ethanolNet, temp⟩ := counted.values
    rw [sum] at gasolineNet ethanolNet
    obtain ⟨meter, otherMeters, elsewhere⟩ := meters frame
    refine ⟨_, k, rfl, congrArg Arm.load arm, number, below, fun full => ?_, gasolineNet, ethanolNet, temp, meter, otherMeters,
      elsewhere, fun c => absurd closing c, fun _ room => ⟨?_, ?_, ?_, ?_, revision, ?_⟩⟩
    · obtain ⟨product, gasoline, ethanol⟩ := above full
      exact ⟨product, gasoline, ethanol, by rw [overrun, if_pos full]⟩
    · rw [overrun, if_neg (by omega)]
    · rw [arm]
      exact closing
    · rw [arm]
      rfl
    · by_cases notice : l.data.product < Config.maxVolume ∧ l.overruns s
      · rw [(due notice).1, if_pos notice.2.1, Load.overranFault, still]
      · rw [(undue notice).1, still]
        split
        · rename_i exceeds
          have set : l.data.faults.overrun = true := by
            cases flag : l.data.faults.overrun with
            | true => rfl
            | false => exact absurd ⟨room, exceeds, flag⟩ notice
          rw [← set]
        · rfl
    · by_cases notice : l.overruns s
      · rw [if_pos (by exact notice)]
        exact (due ⟨room, notice⟩).2
      · rw [if_neg (by exact notice)]
        exact (undue fun on => notice on.2).2
  · obtain ⟨frame, k, held, _, volumes⟩ := pulse_measures enabled last load closing busy
    have overrun : k.data.overrun = l.data.overrun := by
      rw [ticked_data] at volumes
      simp only [LoadData.volumes, Prod.mk.injEq] at volumes
      obtain ⟨-, -, -, -, -, -, -, overrun⟩ := volumes
      exact overrun
    have counted : l.Counted s m k := by
      rw [Load.Counted, volumes, overrun, ticked_data]
    obtain ⟨number, below, above, gasolineNet, ethanolNet, temp⟩ := counted.values
    rw [sum] at gasolineNet ethanolNet
    obtain ⟨meter, otherMeters, elsewhere⟩ := meters frame
    refine ⟨_, k, rfl, held, number, below, fun full => ?_, gasolineNet, ethanolNet, temp, meter, otherMeters, elsewhere,
      fun _ => overrun, fun c => absurd c closing⟩
    obtain ⟨product, gasoline, ethanol⟩ := above full
    exact ⟨product, gasoline, ethanol, overrun⟩

end Sys2Proof.Machine
end

section
/-! PROOFS. The steps of a tick in a flowing state (R42): what they find, and the ends of blending. -/

namespace Sys2Proof.Machine

/-! ## What the steps of a tick find -/

/-- The data `d`, with one decilitre of meter `m` counted to the volumes of `l`, and the net volumes of `L`. -/
def Load.gainedData (l L : Load) (m : Fin 16) (d : LoadData) : LoadData :=
  { d with
    product := l.data.product + 1, gasoline := l.data.gasoline + (1 - m.val % 2), ethanol := l.data.ethanol + m.val % 2
    gasolineNet := L.data.gasolineNet, ethanolNet := L.data.ethanolNet, tempSubstituted := L.data.tempSubstituted }

/-- At `w` the tick of meter `m` has been counted to the load of its arm, whose data but for the volumes are `d`, and nothing
else is other than at `s` but the meter, the no-flow timer and the next trim point. -/
structure State.Counts (s w : State) (m : Fin 16) (l L : Load) (d : LoadData) : Prop where
  arm : ∃ n, w.arm (armOfMeter m) = { s.arm (armOfMeter m) with noFlow := n, load := some L }
  others : ∀ b, b ≠ armOfMeter m → w.arm b = s.arm b
  header : w.header = s.header
  settings : w.settings = s.settings
  trips : w.trips = s.trips
  ports : w.ports = s.ports
  pages : w.pages = s.pages
  stations : w.stations = s.stations
  bus : w.bus = s.bus
  data : L.data = l.gainedData L m d
  rest : L = { l with data := L.data, nextTrim := L.nextTrim }

namespace State.Counts

variable {s w : State} {m : Fin 16} {l L : Load} {d : LoadData} (h : s.Counts w m l L d)
include h

theorem load : w.load? (armOfMeter m) = some L := by
  obtain ⟨n, arm⟩ := h.arm
  exact congrArg Arm.load arm

theorem state : (w.arm (armOfMeter m)).state = (s.arm (armOfMeter m)).state := by
  obtain ⟨n, arm⟩ := h.arm
  rw [arm]

theorem main : (w.arm (armOfMeter m)).mainOpening = (s.arm (armOfMeter m)).mainOpening := by
  obtain ⟨n, arm⟩ := h.arm
  rw [arm]

theorem ethanolOpening : (w.arm (armOfMeter m)).ethanolOpening = (s.arm (armOfMeter m)).ethanolOpening := by
  obtain ⟨n, arm⟩ := h.arm
  rw [arm]

theorem product : L.data.product = l.data.product + 1 := by rw [h.data]; rfl
theorem preset : L.data.preset = d.preset := by rw [h.data]; rfl
theorem pending : L.data.pending = d.pending := by rw [h.data]; rfl
theorem flushPoint : L.data.flushPoint = d.flushPoint := by rw [h.data]; rfl
theorem taperPoint : L.data.taperPoint = d.taperPoint := by rw [h.data]; rfl
theorem number : L.data.number = d.number := by rw [h.data]; rfl
theorem recipe : L.recipe = l.recipe := by rw [h.rest]
theorem lines : L.lines = l.lines := by rw [h.rest]
theorem endDue : L.endDue = l.endDue := by rw [h.rest]
theorem flushEnd : L.flushEnd = l.flushEnd := by rw [h.rest]
theorem resume : L.resume = l.resume := by rw [h.rest]
theorem rampBase : L.rampBase = l.rampBase := by rw [h.rest]
theorem taperCeiling : L.taperCeiling = l.taperCeiling := by rw [h.rest]

/-- The load stands as one whose data are `d`. -/
theorem standing : ({ l with data := d } : Load).SameStanding L := by
  refine ⟨?_, ?_, ?_, ?_, ?_, ?_, ?_, ?_, ?_, ?_, ?_, h.recipe⟩ <;> (rw [h.data]; rfl)

/-- The state in which the next trim point is set as well. -/
theorem trimPoint (t : Option Nat) :
    s.Counts (w.modLoad (armOfMeter m) fun x => { x with nextTrim := t }) m l { L with nextTrim := t } d := by
  obtain ⟨n, arm⟩ := h.arm
  refine ⟨⟨n, ?_⟩, fun b ne => ?_, h.header, h.settings, h.trips, h.ports, h.pages, h.stations, h.bus, ?_, ?_⟩
  · rw [State.modLoad, State.modArm_arm_self, arm]
    rfl
  · rw [State.modLoad, State.modArm_arm_ne _ _ _ _ ne]
    exact h.others b ne
  · exact h.data
  · rw [h.rest]

end State.Counts

/-- The state in which a tick is counted. -/
theorem ticked_counts {s : State} {m : Fin 16} {l : Load} (load : s.load? (armOfMeter m) = some l)
    (room : l.data.product < Config.maxVolume) : s.Counts (s.ticked m) m l (l.ticked s m) l.data := by
  have held : (s.arm (armOfMeter m)).load = some l := load
  refine ⟨⟨(s.arm (armOfMeter m)).noFlow, ?_⟩, fun b ne => ?_, rfl, rfl, rfl, rfl, rfl, rfl, rfl, ?_, rfl⟩
  · rw [State.ticked, State.modLoad, State.modArm_arm_self]
    have kept : (s.metered m).arm (armOfMeter m) = s.arm (armOfMeter m) := rfl
    rw [kept, held]
    rfl
  · rw [State.ticked, State.modLoad, State.modArm_arm_ne _ _ _ _ ne]
    rfl
  · rw [Load.gainedData, ticked_data]
    rcases Nat.mod_two_eq_zero_or_one m.val with even | odd
    · simp [isGasoline, even, room, Nat.not_le.mpr room]
    · simp [isGasoline, odd, room, Nat.not_le.mpr room]

/-- So it is where a gasoline tick has restarted the no-flow timer. -/
theorem flowTicked_counts {s : State} {m : Fin 16} {l : Load} (load : s.load? (armOfMeter m) = some l)
    (room : l.data.product < Config.maxVolume) : s.Counts (s.flowTicked m) m l (l.ticked s m) l.data := by
  have counts := ticked_counts load room
  unfold State.flowTicked
  split
  · obtain ⟨n, arm⟩ := counts.arm
    refine ⟨⟨s.noFlowStart, ?_⟩, fun b ne => ?_, counts.header, counts.settings, counts.trips, counts.ports, counts.pages,
      counts.stations, counts.bus, counts.data, counts.rest⟩
    · rw [State.modArm_arm_self, arm]
    · rw [State.modArm_arm_ne _ _ _ _ ne]
      exact counts.others b ne
  · exact counts

/-! ## The trim point of a tick (R42, R70) -/

/-- Whether the tick makes a trim point. -/
def State.makesTrim (s : State) (m : Fin 16) (l : Load) : Prop :=
  (s.arm (armOfMeter m)).state.isBlending = true ∧ l.nextTrim = some (l.data.product + 1)

/-- The model's own test finds it. -/
theorem atTrim_iff {s w : State} {m : Fin 16} {l L : Load} {d : LoadData} (h : s.Counts w m l L d)
    (same : L.nextTrim = l.nextTrim) : w.atTrim (armOfMeter m) = true ↔ s.makesTrim m l := by
  simp only [State.atTrim, h.load, h.state, h.product, same, Bool.and_eq_true, decide_eq_true_eq, State.makesTrim]

section Steps

variable {s : State} {m : Fin 16} {l : Load} (load : s.load? (armOfMeter m) = some l)
  (room : l.data.product < Config.maxVolume)
include load room

/-- Away from a trim point the points are evaluated at once. -/
theorem flowSteps_of_no_trim (away : ¬ s.makesTrim m l) :
    (s.flowTicked m).flowSteps (armOfMeter m) = (s.flowTicked m).evaluatePoints (armOfMeter m) :=
  if_neg fun at_ => away ((atTrim_iff (flowTicked_counts load room) rfl).mp at_)

/-- At a trim point a pending amendment is applied first and the next trim point set. -/
theorem trimStarted_counts : ∃ L, s.Counts ((s.flowTicked m).modLoad (armOfMeter m) Load.atTrimPoint) m l L l.amendedData ∧
    L.nextTrim = some (l.data.product + 1 + l.recipe.trimVolume) := by
  have counts := flowTicked_counts load room
  have applied : (l.ticked s m).applyPending.data = l.gainedData (l.ticked s m) m l.amendedData := by
    have data := counts.data
    unfold Load.applyPending
    rw [counts.pending]
    unfold Load.amendedData
    cases l.data.pending with
    | none => exact data
    | some q =>
      change { (l.ticked s m).data.withPreset l.recipe q with pending := none } = _
      rw [data]
      rfl
  have rest : (l.ticked s m).applyPending = { l with data := (l.ticked s m).applyPending.data } := by
    unfold Load.applyPending
    split <;> rfl
  have nets : (l.ticked s m).applyPending.data = l.gainedData (l.ticked s m).applyPending m l.amendedData := by
    rw [applied, Load.gainedData, Load.gainedData, applied]
    rfl
  obtain ⟨n, arm⟩ := counts.arm
  refine ⟨(l.ticked s m).atTrimPoint, ⟨⟨n, ?_⟩, fun b ne => ?_, counts.header, counts.settings, counts.trips, counts.ports,
    counts.pages, counts.stations, counts.bus, nets, ?_⟩, ?_⟩
  · rw [State.modLoad, State.modArm_arm_self, arm]
    rfl
  · rw [State.modLoad, State.modArm_arm_ne _ _ _ _ ne]
    exact counts.others b ne
  · rw [Load.atTrimPoint, rest]
  · rw [Load.atTrimPoint, rest]
    change some ((l.ticked s m).data.product + _) = _
    rw [counts.product]
    rfl

/-- At a trim point the trim work follows where the arm still blends. -/
theorem flowSteps_of_trim (at_ : s.makesTrim m l) :
    (s.flowTicked m).flowSteps (armOfMeter m) =
      if ((((s.flowTicked m).modLoad (armOfMeter m) Load.atTrimPoint).evaluatePoints (armOfMeter m)).arm
          (armOfMeter m)).state.isBlending = true then
        (((s.flowTicked m).modLoad (armOfMeter m) Load.atTrimPoint).evaluatePoints (armOfMeter m)).trimWork (armOfMeter m)
      else ((s.flowTicked m).modLoad (armOfMeter m) Load.atTrimPoint).evaluatePoints (armOfMeter m) :=
  if_pos ((atTrim_iff (flowTicked_counts load room) rfl).mpr at_)

/-- Where nothing pends at a trim point, the steps of a tick that ends the blending are the evaluation of the points. -/
theorem flowSteps_ends (unpended : s.makesTrim m l → l.data.pending = none) :
    ∃ v L, s.Counts v m l L l.data ∧ (((v.evaluatePoints (armOfMeter m)).arm (armOfMeter m)).state.isBlending = false →
      (s.flowTicked m).flowSteps (armOfMeter m) = v.evaluatePoints (armOfMeter m)) := by
  by_cases at_ : s.makesTrim m l
  · obtain ⟨L, counts, _⟩ := trimStarted_counts load room
    rw [Load.amendedData, unpended at_] at counts
    refine ⟨_, L, counts, fun ended => ?_⟩
    rw [flowSteps_of_trim load room at_, if_neg (by simp [ended])]
  · exact ⟨_, _, flowTicked_counts load room, fun _ => flowSteps_of_no_trim load room at_⟩

end Steps

/-! ## What follows the steps (R121, R123, R150) -/

/-- Outside the blending phases no line is judged. -/
theorem judgeLine_of_not_blending {s : State} {a : Fin 8} (out : (s.arm a).state.isBlending = false) (b : Bool) (i : Nat) :
    State.judgeLine (s, b) a i = (s, b) := by
  unfold State.judgeLine
  split
  · rfl
  · split
    · split
      · rfl
      · rw [if_neg (by simp [out])]
    · rfl
    · rfl

/-- Outside the blending phases no shot falls due. -/
theorem judgeShots_of_not_blending {s : State} {a : Fin 8} (out : (s.arm a).state.isBlending = false) : s.judgeShots a = s := by
  simp [State.judgeShots, judgeLine_of_not_blending out]

/-- In CLOSING no volume fires. -/
theorem judgeVolume_of_closing {s : State} {a : Fin 8} (closing : (s.arm a).state = .closing) : s.judgeVolume a = s := by
  unfold State.judgeVolume
  split
  · rfl
  · exact if_pos (.inl closing)

/-- No volume fires that no entry names. -/
theorem judgeVolume_of_silent {s : State} {a : Fin 8} {l : Load} (load : s.load? a = some l)
    (silent : ∀ c ∈ l.recipe.checkpoints, c.event ≠ .atVolume l.data.product) : s.judgeVolume a = s := by
  simp only [State.judgeVolume, load]
  split
  · rfl
  · exact fireEvent_of_none load silent

end Sys2Proof.Machine
end

section
/-! PROOFS. The ends of blending and flushing at a tick (R42, R49, R51, R63). -/

namespace Sys2Proof.Machine

/-- What neither the volumes nor the points of an amendment have part in. -/
def LoadData.marks (d : LoadData) : Nat × Nat × Bool × Bool × HoldCauses × FaultSet × Nat :=
  (d.number, d.revision, d.flag0, d.flag1, d.causes, d.faults, d.overrun)

/-- The data are those of the load, or those with a pending amendment applied. -/
def Load.Stands (l : Load) (d : LoadData) : Prop := d = l.data ∨ d = l.amendedData

/-- What a tick makes of a phase, V being at no end of it: `primed` says that V has reached the prime volume, `tapers` that it has
reached the taper point. -/
def State.phaseStep (w : State) (a : Fin 8) (x : ArmState) (primed tapers : Bool) : State :=
  match x with
  | .prime => if primed then w.leavePrime a else w
  | .ramp => if tapers then w.enterTaperFromRun a else w.rampStep a
  | .full => if tapers then w.enterTaperFromRun a else w
  | .taper => w.taperStep a
  | .idle => w
  | .flush => w
  | .shareWait => w
  | .held => w
  | .closing => w

namespace State.Counts

variable {s w : State} {m : Fin 16} {l L : Load} {d : LoadData} (h : s.Counts w m l L d)
include h

/-- The marks are those of the load. -/
theorem marks (stands : l.Stands d) : L.data.marks = l.data.marks := by
  have volumes : L.data.marks = d.marks := by rw [h.data]; rfl
  rw [volumes]
  rcases stands with rfl | rfl
  · rfl
  · exact amendedData_kept l LoadData.marks fun _ _ _ _ _ _ _ => rfl

/-- The points after an amendment are those of the load. -/
theorem amended (stands : l.Stands d) {k : Load} (applied : L.amendmentApplied k) : l.amendmentApplied k := by
  rcases stands with rfl | rfl
  · exact applied.of_same h.recipe h.standing.pending h.standing.preset h.standing.blendSpan h.standing.flushPoint
      h.standing.taperPoint h.standing.ethanolTarget
  · have same := applied.of_same (l := { l with data := l.amendedData }) h.recipe h.standing.pending h.standing.preset
      h.standing.blendSpan h.standing.flushPoint h.standing.taperPoint h.standing.ethanolTarget
    have none_ : ({ l with data := l.amendedData } : Load).amendedData = l.amendedData := by
      rw [Load.amendedData, amendedData_pending]
    exact amendmentApplied_of_points same ⟨by rw [none_], by rw [none_], by rw [none_], by rw [none_], by rw [none_]⟩

/-- The load before the event. -/
theorem before (load : s.load? (armOfMeter m) = some l) (stands : l.Stands d) :
    s.load? (armOfMeter m) = some l ∧ L.data.number = l.data.number :=
  ⟨load, congrArg Prod.fst (h.marks stands)⟩

/-! ### The evaluation of the points -/

/-- V is at an end: at the preset, or in FLUSH at the flush end. -/
theorem evaluate_closes (ended : d.preset ≤ l.data.product + 1 ∨
    (s.arm (armOfMeter m)).state = .flush ∧ ∃ e, l.flushEnd = some e ∧ e ≤ l.data.product + 1) :
    w.evaluatePoints (armOfMeter m) = w.enterClosing (armOfMeter m) := by
  have closes : L.data.preset ≤ L.data.product ∨
      ((w.arm (armOfMeter m)).state = .flush ∧ w.flushEnded (armOfMeter m) = true) := by
    rw [h.preset, h.product, h.state]
    refine ended.imp id fun ⟨flush, e, flushEnd, reached⟩ => ⟨flush, ?_⟩
    simp only [State.flushEnded, h.load, h.flushEnd, flushEnd, h.product, reached, decide_true, Bool.or_true]
  simp only [State.evaluatePoints, h.load, if_pos closes]

/-- V is at the flush point of a blending load. -/
theorem evaluate_flushes (below : l.data.product + 1 < d.preset)
    (blending : (s.arm (armOfMeter m)).state.isBlending = true) (reached : d.flushPoint ≤ l.data.product + 1) :
    w.evaluatePoints (armOfMeter m) = w.enterFlush (armOfMeter m) .ordered := by
  have open_ : ¬ (L.data.preset ≤ L.data.product ∨
      ((w.arm (armOfMeter m)).state = .flush ∧ w.flushEnded (armOfMeter m) = true)) := by
    rw [h.preset, h.product, h.state]
    rintro (at_ | ⟨flush, _⟩)
    · omega
    · rw [flush] at blending
      exact absurd blending (by decide)
  have flushes : (w.arm (armOfMeter m)).state.isBlending = true ∧ L.data.flushPoint ≤ L.data.product := by
    rw [h.state, h.flushPoint, h.product]
    exact ⟨blending, reached⟩
  simp only [State.evaluatePoints, h.load, if_neg open_, if_pos flushes]

/-- V is at no end: the phase decides. -/
theorem evaluate_below (below : l.data.product + 1 < d.preset)
    (flushing : (s.arm (armOfMeter m)).state = .flush → ∀ e, l.flushEnd = some e → l.data.product + 1 < e)
    (blending : (s.arm (armOfMeter m)).state.isBlending = true → l.data.product + 1 < d.flushPoint) :
    w.evaluatePoints (armOfMeter m) =
      w.phaseStep (armOfMeter m) (s.arm (armOfMeter m)).state (decide (l.recipe.primeVolume ≤ l.data.product + 1))
        (decide (d.taperPoint ≤ l.data.product + 1)) := by
  have open_ : ¬ (L.data.preset ≤ L.data.product ∨
      ((w.arm (armOfMeter m)).state = .flush ∧ w.flushEnded (armOfMeter m) = true)) := by
    rw [h.preset, h.product, h.state]
    rintro (at_ | ⟨flush, ended⟩)
    · omega
    · simp only [State.flushEnded, h.load, h.flushEnd, h.preset, h.product, Bool.or_eq_true, decide_eq_true_eq] at ended
      cases flushEnd : l.flushEnd with
      | none => simp [flushEnd] at ended; omega
      | some e =>
        have above := flushing flush e flushEnd
        simp [flushEnd] at ended
        omega
  have unflushed : ¬ ((w.arm (armOfMeter m)).state.isBlending = true ∧ L.data.flushPoint ≤ L.data.product) := by
    rw [h.state, h.flushPoint, h.product]
    rintro ⟨blends, reached⟩
    have := blending blends
    omega
  simp only [State.evaluatePoints, h.load]
  rw [if_neg open_, if_neg unflushed, h.state, h.recipe, h.product, h.taperPoint]
  cases (s.arm (armOfMeter m)).state <;> simp only [State.phaseStep, decide_eq_true_eq]

/-! ### Events that end there -/

/-- The event ends with the arm's entry to CLOSING. -/
theorem endsClosing (load : s.load? (armOfMeter m) = some l) (stands : l.Stands d)
    (opened : (s.arm (armOfMeter m)).state ≠ .closing) :
    ∃ k, EndsClosing w (State.endEvent s (w.enterClosing (armOfMeter m))) (armOfMeter m) L k ∧
      (State.endEvent s (w.enterClosing (armOfMeter m))).closingBegun (armOfMeter m) ∧ l.amendmentApplied k := by
  obtain ⟨before, number⟩ := h.before load stands
  obtain ⟨k, ends⟩ := endsClosing_of_enter before h.load number opened
  have frame := endEvent_frame s ((frame_madeOn w).enterClosing trivial (.refl w) (b := armOfMeter m))
  refine ⟨k, ends, ⟨ends.main, ends.ethanol, ?_, ends.shares⟩, h.amended stands ends.moved.amended⟩
  rw [ends.settle, frame.elsewhere.settings]
  rfl

/-- What stands of the marks once the arm has moved. -/
theorem moved_marks (stands : l.Stands d) {k : Load} {c : HoldCauses} (moved : L.Moved k c) :
    k.data.flag0 = l.data.flag0 ∧ k.data.flag1 = l.data.flag1 ∧ k.data.faults = l.data.faults ∧
      k.data.overrun = l.data.overrun ∧ k.endDue = l.endDue ∧
      k.data.revision = (if 65535 ≤ l.data.revision then 1 else l.data.revision + 1) := by
  have marks := h.marks stands
  simp only [LoadData.marks, Prod.mk.injEq] at marks
  obtain ⟨-, revision, flag0, flag1, -, faults, overrun⟩ := marks
  exact ⟨moved.flag0.trans flag0, moved.flag1.trans flag1, moved.faults.trans faults, moved.overrun.trans overrun,
    moved.endDue.trans h.endDue, by rw [moved.revision, revision]⟩

end State.Counts

/-- Once the steps have left the arm in CLOSING the tick's event ends. -/
theorem judged_of_closing {s : State} {a : Fin 8} (closing : (s.arm a).state = .closing) :
    (s.judgeShots a).judgeVolume a = s := by
  rw [judgeShots_of_not_blending (by rw [closing]; rfl), judgeVolume_of_closing closing]

/-- So does it where the arm blends no more and no entry names V. -/
theorem judged_of_silent {s : State} {a : Fin 8} {l : Load} (out : (s.arm a).state.isBlending = false)
    (load : s.load? a = some l) (silent : ∀ c ∈ l.recipe.checkpoints, c.event ≠ .atVolume l.data.product) :
    (s.judgeShots a).judgeVolume a = s := by
  rw [judgeShots_of_not_blending out, judgeVolume_of_silent load silent]

/-- An arm that has entered CLOSING is there. -/
theorem enterClosing_state {s : State} {a : Fin 8} {l : Load} (load : s.load? a = some l) :
    ((s.enterClosing a).arm a).state = .closing := by
  obtain ⟨ls, _, arm⟩ := enterClosing_arm load
  rw [arm]

/-- An arm that has entered FLUSH is there or has gone on to CLOSING, with the load's recipe. -/
theorem enterFlush_state {s : State} {a : Fin 8} {l : Load} (k : FlushKind) (load : s.load? a = some l) :
    (((s.enterFlush a k).arm a).state = .flush ∨ ((s.enterFlush a k).arm a).state = .closing) ∧
      ∃ x, (s.enterFlush a k).load? a = some x ∧ x.recipe = l.recipe := by
  obtain ⟨ls, _, arm⟩ := flushing_arm k load
  have there : (s.flushing a l k).load? a = some { l.flushed k with lines := ls } := by rw [State.load?, arm]
  obtain ⟨recipe, _⟩ := flushed_rest l k
  rw [enterFlush_eq k load]
  split
  · obtain ⟨ks, _, closed⟩ := enterClosing_arm there
    exact ⟨.inr (by rw [closed]), _, congrArg Arm.load closed, (closed_rest _).1.trans recipe⟩
  · exact ⟨.inl (by rw [arm]), _, there, recipe⟩

/-- An entry to FLUSH is followed by nothing where the recipe has no entry. -/
theorem judged_enterFlush {s : State} {a : Fin 8} {l : Load} (k : FlushKind) (load : s.load? a = some l)
    (silent : l.recipe.checkpoints = []) :
    ((s.enterFlush a k).arm a).state.isBlending = false ∧ ((s.enterFlush a k).judgeShots a).judgeVolume a = s.enterFlush a k := by
  obtain ⟨state, x, there, recipe⟩ := enterFlush_state k load
  have out : ((s.enterFlush a k).arm a).state.isBlending = false := by rcases state with state | state <;> rw [state] <;> rfl
  exact ⟨out, judged_of_silent out there (by rw [recipe, silent]; simp)⟩

section Tick

variable {m : Fin 16} {l : Load} {s : State} (enabled : (s.meter m).enable = true) (last : (s.meter m).divider ≤ 1)
  (load : s.load? (armOfMeter m) = some l) (room : l.data.product < Config.maxVolume)
include enabled last load room

/-- A tick that meets the end of the flow (R42, R51). -/
theorem tick_closes (unpended : s.makesTrim m l → l.data.pending = none)
    (flowing : (s.arm (armOfMeter m)).state.isFlowing = true) (ended : l.data.preset ≤ l.data.product + 1 ∨
      (s.arm (armOfMeter m)).state = .flush ∧ ∃ e, l.flushEnd = some e ∧ e ≤ l.data.product + 1) :
    ∃ v L, s.Counts v m l L l.data ∧ s.pulse m = State.endEvent s (v.enterClosing (armOfMeter m)) := by
  obtain ⟨v, L, counts, steps⟩ := flowSteps_ends load room unpended
  have evaluated := counts.evaluate_closes ended
  have closing := enterClosing_state counts.load
  refine ⟨v, L, counts, ?_⟩
  rw [pulse_flow enabled last load flowing, steps (by rw [evaluated, closing]; rfl), evaluated, judged_of_closing closing]

/-- A tick that meets the flush point in blending (R42, R49). -/
theorem tick_flushes (unpended : s.makesTrim m l → l.data.pending = none) (silent : l.recipe.checkpoints = [])
    (below : l.data.product + 1 < l.data.preset) (blending : (s.arm (armOfMeter m)).state.isBlending = true)
    (reached : l.data.flushPoint ≤ l.data.product + 1) :
    ∃ v L, s.Counts v m l L l.data ∧ s.pulse m = State.endEvent s (v.enterFlush (armOfMeter m) .ordered) := by
  obtain ⟨v, L, counts, steps⟩ := flowSteps_ends load room unpended
  have evaluated := counts.evaluate_flushes below blending reached
  obtain ⟨out, judged⟩ := judged_enterFlush .ordered counts.load (by rw [counts.recipe]; exact silent)
  have flowing : (s.arm (armOfMeter m)).state.isFlowing = true := by
    cases state : (s.arm (armOfMeter m)).state <;> simp_all [ArmState.isBlending, ArmState.isFlowing]
  refine ⟨v, L, counts, ?_⟩
  rw [pulse_flow enabled last load flowing, steps (by rw [evaluated]; exact out), evaluated, judged]

end Tick

end Sys2Proof.Machine
end

section
/-! PROOFS. Ticks that meet no shot boundary, and what a checkpoint event leaves of them (R121, R149, R150). -/

namespace Sys2Proof.Machine

/-! ## Lines that no boundary is met on -/

/-- Line `i` of the load has its next boundary above V. -/
def Load.QuietAt (l : Load) (i : Nat) : Prop :=
  ∀ x k, l.lines[i]? = some x → l.recipe.lines[i]? = some k → x.counts.skipped = false →
    ∀ b, x.nextBoundary = some b → l.data.product < b

/-- So does every line. -/
def Load.Quiet (l : Load) : Prop := l.QuietAt 0 ∧ l.QuietAt 1 ∧ l.QuietAt 2

/-- A line below its boundary is left. -/
theorem judgeLine_of_quiet {s : State} {a : Fin 8} {l : Load} {i : Nat} (load : s.load? a = some l) (quiet : l.QuietAt i)
    (b : Bool) : State.judgeLine (s, b) a i = (s, b) := by
  unfold State.judgeLine
  simp only [load]
  split
  · rename_i x k line order
    split
    · rfl
    · rename_i c boundary
      refine if_neg fun ⟨_, skipped, reached⟩ => ?_
      exact absurd reached (Nat.not_le.mpr (quiet x k line order skipped c boundary))
  · rfl
  · rfl

/-- Where no line meets a boundary no shot falls due. -/
theorem judgeShots_of_quiet {s : State} {a : Fin 8} {l : Load} (load : s.load? a = some l) (quiet : l.Quiet) :
    s.judgeShots a = s := by
  obtain ⟨zero, one, two⟩ := quiet
  simp [State.judgeShots, judgeLine_of_quiet load zero, judgeLine_of_quiet load one, judgeLine_of_quiet load two]

/-- The boundaries stand above V where all do that are set. -/
theorem Load.quiet_of_above {l : Load} (above : ∀ x ∈ l.lines, ∀ b, x.nextBoundary = some b → l.data.product < b) :
    l.Quiet := by
  have at_ : ∀ i, l.QuietAt i := fun i x _ line _ _ => above x (List.mem_of_getElem? line)
  exact ⟨at_ 0, at_ 1, at_ 2⟩

/-- The next of some steps above V lies above V. -/
theorem lt_firstAbove {base step : Nat} (v : Nat) (pos : 0 < step) : v < firstAbove base step v := by
  have above := Nat.lt_mul_div_succ (v - base) pos
  rw [Nat.mul_comm] at above
  unfold firstAbove
  omega

/-- A line that is set for the blending to come has its boundary above V. -/
theorem requeueAt_quiet {l : Load} (i : Nat) (spaced : ∀ k ∈ l.recipe.lines, 0 < k.spacing) : (l.requeueAt i).QuietAt i := by
  intro x k line order skipped b boundary
  have recipe : (l.requeueAt i).recipe = l.recipe := by rw [requeueAt_eq]
  have product : (l.requeueAt i).data.product = l.data.product := by rw [requeueAt_eq]
  rw [recipe] at order
  rw [product]
  unfold Load.requeueAt at line
  rw [order] at line
  cases own : l.lines[i]? with
  | none => rw [own] at line; simp [own] at line
  | some y =>
    rw [own] at line
    dsimp only at line
    by_cases skips : y.counts.skipped = true
    · rw [if_pos skips, own] at line
      obtain rfl := Option.some.inj line
      exact absurd skipped (by simp [skips])
    · rw [if_neg skips] at line
      have set : x = l.requeuedLine k y := by
        simpa [own] using line.symm
      rw [set] at boundary
      obtain rfl := Option.some.inj boundary
      exact lt_firstAbove _ (spaced k (List.mem_of_getElem? order))

/-- The setting of another line leaves it so. -/
theorem requeueAt_quiet_ne {l : Load} {i j : Nat} (ne : i ≠ j) (quiet : l.QuietAt j) : (l.requeueAt i).QuietAt j := by
  intro x k line order
  have recipe : (l.requeueAt i).recipe = l.recipe := by rw [requeueAt_eq]
  have product : (l.requeueAt i).data.product = l.data.product := by rw [requeueAt_eq]
  have stays : (l.requeueAt i).lines[j]? = l.lines[j]? := by
    unfold Load.requeueAt
    split
    · split
      · rfl
      · exact List.getElem?_modify_ne _ _ ne
    · rfl
    · rfl
  rw [recipe] at order
  rw [stays] at line
  rw [product]
  exact quiet x k line order

/-- A load whose lines are set for the blending to come meets no boundary at V. -/
theorem requeued_quiet {l : Load} (spaced : ∀ k ∈ l.recipe.lines, 0 < k.spacing) : l.requeued.Quiet := by
  have spaced0 : ∀ k ∈ (l.requeueAt 0).recipe.lines, 0 < k.spacing := by rw [requeueAt_eq]; exact spaced
  have spaced1 : ∀ k ∈ ((l.requeueAt 0).requeueAt 1).recipe.lines, 0 < k.spacing := by rw [requeueAt_eq]; exact spaced0
  exact ⟨requeueAt_quiet_ne (by decide) (requeueAt_quiet_ne (by decide) (requeueAt_quiet 0 spaced)),
    requeueAt_quiet_ne (by decide) (requeueAt_quiet 1 spaced0), requeueAt_quiet 2 spaced1⟩

/-! ## The lines of a held load (R131) -/

/-- What a hold leaves of a line. -/
def Line.mark (x : Line) : Option Nat × LineRecord := (x.nextBoundary, x.counts)

/-- The marks of lines stay where one line's does. -/
theorem map_mark_modify {f : Line → Line} (same : ∀ x, (f x).mark = x.mark) (xs : List Line) (i : Nat) :
    (xs.modify i f).map Line.mark = xs.map Line.mark := by
  apply List.ext_getElem?
  intro j
  simp only [List.getElem?_map, List.getElem?_modify]
  cases xs[j]? with
  | none => rfl
  | some x => by_cases own : i = j <;> simp [own, same]

/-- A hold leaves the marks of the lines. -/
theorem enterHeld_lines {s : State} {a : Fin 8} {l : Load} (r : ResumePhase) (load : s.load? a = some l) :
    ∃ k, (s.enterHeld a r).load? a = some k ∧ k.lines.map Line.mark = l.lines.map Line.mark := by
  have line : ∀ (t : State) (i : Nat), (∃ k, t.load? a = some k ∧ k.lines.map Line.mark = l.lines.map Line.mark) →
      ∃ k, (t.withdrawLine a true i).load? a = some k ∧ k.lines.map Line.mark = l.lines.map Line.mark := by
    rintro t i ⟨k, held, marks⟩
    unfold State.withdrawLine
    split
    · exact ⟨k, held, marks⟩
    · split
      · exact ⟨k, held, marks⟩
      · rename_i x _ _
        refine ⟨_, congrArg Arm.load (modLine_relined (s := t.dropEntry x.counts.station a) i _ held), ?_⟩
        rw [if_pos rfl]
        exact (map_mark_modify (f := State.keepShots _) (fun _ => rfl) k.lines i).trans marks
  have before : ∃ k, ((((s.modArm a fun x =>
      { x with state := .held, mainOpening := 0, ethanolOpening := 0, noFlow := .stopped, hold := s.holdStart }).modLoad a
        fun l => l.heldFrom r).dropShares a).load? a) = some k ∧ k.lines.map Line.mark = l.lines.map Line.mark := by
    refine ⟨l.heldFrom r, ?_, by rw [lines_heldFrom]⟩
    change ((s.modArm a _).modLoad a _).load? a = _
    rw [State.modLoad_load_self, State.load?_modArm_self, show (s.arm a).load = some l from load, Option.map_some]
  have withdrawn := Leaving.foldl (P := fun t => ∃ k, t.load? a = some k ∧ k.lines.map Line.mark = l.lines.map Line.mark)
    [0, 1, 2] before fun t i there => line t i there
  obtain ⟨k, held, marks⟩ := withdrawn
  exact ⟨k, (congrArg Arm.load (State.appendTrace_arm ..)).trans held, marks⟩

/-! ## After a checkpoint event -/

/-- A checkpoint event that finds the arm in one of the states that a hold leaves ends in it with its lines and the header, or in
HELD, waiting for no shares; with the load's recipe and V. -/
theorem fireEvent_leaves {s : State} {a : Fin 8} {l : Load} (ev : EventKind) (load : s.load? a = some l)
    (holds : (s.arm a).state.toResume ≠ none) :
    ∃ k, (s.fireEvent a ev).load? a = some k ∧ k.recipe = l.recipe ∧ k.data.product = l.data.product ∧
      (((s.fireEvent a ev).arm a).state = .held ∧ (s.fireEvent a ev).notListed a ∧
          k.lines.map Line.mark = l.lines.map Line.mark ∨
        ((s.fireEvent a ev).arm a).state = (s.arm a).state ∧ k.lines = l.lines ∧ (s.fireEvent a ev).header = s.header) := by
  obtain ⟨k, held, recipe, volumes⟩ := (measures_madeOn a l.recipe l.data.volumes).fireEvent (b := a) ev trivial
    ⟨l, load, rfl, rfl⟩
  have product : k.data.product = l.data.product := by
    simp only [LoadData.volumes, Prod.mk.injEq] at volumes
    obtain ⟨-, product, -⟩ := volumes
    exact product
  refine ⟨k, held, recipe, product, ?_⟩
  rw [fireEvent_of_hits load ⟨rfl, rfl⟩ ⟨rfl, rfl⟩] at held ⊢
  split at held
  · rename_i hit
    rw [if_pos hit]
    have arm : ((s.modLoad a fun y => y.flagsSet (l.hit ev 0) (l.hit ev 1)).raise .checkpoint
        (terminalsAndLane (laneOf a))).arm a = { s.arm a with load := some (l.flagsSet (l.hit ev 0) (l.hit ev 1)) } := by
      rw [raise_kept (fun t => t.arm a) fun _ _ _ => rfl, State.modLoad, State.modArm_arm_self,
        show (s.arm a).load = some l from load]
      rfl
    have header : ((s.modLoad a fun y => y.flagsSet (l.hit ev 0) (l.hit ev 1)).raise .checkpoint
        (terminalsAndLane (laneOf a))).header = s.header := raise_kept State.header (fun _ _ _ => rfl) ..
    generalize ((s.modLoad a fun y => y.flagsSet (l.hit ev 0) (l.hit ev 1)).raise .checkpoint
      (terminalsAndLane (laneOf a))) = u at held arm header ⊢
    cases none_ : HoldCauses.isEmpty { checkpoint0 := l.hit ev 0 && l.halts 0, checkpoint1 := l.hit ev 1 && l.halts 1 } with
    | true =>
      have unchanged : u.addCauses a { checkpoint0 := l.hit ev 0 && l.halts 0, checkpoint1 := l.hit ev 1 && l.halts 1 } = u :=
        if_pos none_
      rw [unchanged] at held ⊢
      have same : some (l.flagsSet (l.hit ev 0) (l.hit ev 1)) = some k := (congrArg Arm.load arm).symm.trans held
      obtain rfl := Option.some.inj same
      exact .inr ⟨by rw [arm], rfl, header⟩
    | false =>
      obtain ⟨r, resume⟩ := Option.ne_none_iff_exists'.mp holds
      left
      rw [addCauses_of_toResume none_ (by rw [arm]; exact resume)] at held ⊢
      obtain ⟨ls, _, entered⟩ := enterHeld_arm (a := a) r (load?_modLoad (s := u) _ (congrArg Arm.load arm))
      obtain ⟨x, there, marks⟩ := enterHeld_lines (a := a) r (load?_modLoad (s := u) _ (congrArg Arm.load arm))
      obtain rfl := Option.some.inj (there.symm.trans held)
      exact ⟨by rw [entered], (enterHeld_spares _ a r).listed, marks⟩
  · rename_i miss
    rw [if_neg miss]
    obtain rfl := Option.some.inj (load.symm.trans held)
    exact .inr ⟨rfl, rfl, rfl⟩

/-- A checkpoint event followed by nothing: the lines meet no boundary and no entry names V. -/
theorem judged_fireEvent {s : State} {a : Fin 8} {l : Load} (ev : EventKind) (load : s.load? a = some l)
    (holds : (s.arm a).state.toResume ≠ none) (quiet : l.Quiet)
    (silent : ∀ c ∈ l.recipe.checkpoints, c.event ≠ .atVolume l.data.product) :
    ((s.fireEvent a ev).judgeShots a).judgeVolume a = s.fireEvent a ev := by
  obtain ⟨k, held, recipe, product, left_⟩ := fireEvent_leaves ev load holds
  have silent' : ∀ c ∈ k.recipe.checkpoints, c.event ≠ .atVolume k.data.product := by rw [recipe, product]; exact silent
  rcases left_ with ⟨left_, _⟩ | ⟨_, lines, _⟩
  · exact judged_of_silent (by rw [left_]; rfl) held silent'
  · have quiet' : k.Quiet := by
      unfold Load.Quiet Load.QuietAt
      rw [lines, recipe, product]
      exact quiet
    rw [judgeShots_of_quiet held quiet', judgeVolume_of_silent held silent']

/-! ## After a cut flush -/

/-- A cut flush leaves the blending, and V is judged in vain where no entry names it. -/
theorem judged_cutFlush {s : State} {a : Fin 8} {l : Load} (e : EndStatus) (load : s.load? a = some l)
    (silent : ∀ c ∈ l.recipe.checkpoints, c.event ≠ .atVolume l.data.product) :
    ((s.cutFlush a e).arm a).state.isBlending = false ∧ (s.cutFlush a e).judgeVolume a = s.cutFlush a e := by
  obtain ⟨state, _⟩ := enterFlush_state (s := s.setDue a e) .cut (load?_modLoad _ load)
  obtain ⟨x, held, recipe, volumes⟩ := (measures_madeOn a l.recipe l.data.volumes).cutFlush (b := a) e trivial
    ⟨l, load, rfl, rfl⟩
  have product : x.data.product = l.data.product := by
    simp only [LoadData.volumes, Prod.mk.injEq] at volumes
    obtain ⟨-, product, -⟩ := volumes
    exact product
  refine ⟨?_, judgeVolume_of_silent held (by rw [recipe, product]; exact silent)⟩
  rcases state with state | state
  · exact (congrArg ArmState.isBlending state).trans rfl
  · exact (congrArg ArmState.isBlending state).trans rfl

/-! ## What the entries leave aside -/

/-- The setting of lines again leaves what neither arms, stations nor the bus have part in. -/
theorem requeueLines_kept {β : Type} (g : State → β) (arm : ∀ s a f, g (State.modArm s a f) = g s)
    (station : ∀ s st f, g (State.modStation s st f) = g s) (bus : ∀ (s : State) x, g { s with bus := x } = g s) (s : State)
    (a : Fin 8) : g (s.requeueLines a) = g s := by
  refine Leaving.foldl (P := fun t => g t = g s) _ rfl fun t i same => ?_
  have stations : OnStations fun t => g t = g s :=
    ⟨fun st f k => (station _ st f).trans k, fun x k => (bus _ x).trans k⟩
  have set : ∀ f, g (t.modLine a i f) = g s := fun f => by
    rw [State.modLine, State.modLoad, arm]
    exact same
  unfold State.requeueLine
  split
  · exact same
  · split
    · exact Leaving.ite (P := fun t => g t = g s) (fun _ => same) fun _ =>
        Leaving.ite (P := fun t => g t = g s) (fun _ => set _) fun _ => stations.appendEntry _ _ (set _)
    · exact same
    · exact same

/-- A trace record leaves what pages have no part in. -/
theorem appendTrace_kept {β : Type} (g : State → β) (page : ∀ s a f, g (State.modPage s a f) = g s) (s : State) (a : Fin 8)
    (c : TraceCause) : g (s.appendTrace a c) = g s := by
  unfold State.appendTrace
  split
  · rfl
  · exact page _ _ _

/-- So does an entry to RAMP. -/
theorem enterRamp_kept {β : Type} (g : State → β) (arm : ∀ s a f, g (State.modArm s a f) = g s)
    (station : ∀ s st f, g (State.modStation s st f) = g s) (bus : ∀ (s : State) x, g { s with bus := x } = g s)
    (page : ∀ s a f, g (State.modPage s a f) = g s) (s : State) (a : Fin 8) : g (s.enterRamp a) = g s := by
  unfold State.enterRamp
  split
  · rfl
  · rw [appendTrace_kept g page, requeueLines_kept g arm station bus, State.modLoad, arm, arm]

end Sys2Proof.Machine
end

section
/-! PROOFS. A tick in PRIME that meets the prime volume (R44, R45, R105). -/

namespace Sys2Proof.Machine

/-! ## The answers of the allocator -/

/-- The state in which an arm has the shares that it has asked for, none where it needs none. -/
def State.sharesGranted (s : State) (a : Fin 8) (n : Nat) : State :=
  if n = 0 then s else s.modHeader fun h => h.grant a n

/-- The allocator grants at once. -/
def State.grantsNow (s : State) (n : Nat) : Prop :=
  n = 0 ∨ (s.trips.header = true ∧ s.header.wait = [] ∧ s.header.inUse + n ≤ s.header.capacity)

section Shares

variable {s : State} {a : Fin 8} {l : Load} (load : s.load? a = some l) (w : WaitTarget)
include load

/-- A grant at once. -/
theorem requestShares_granted (grants : s.grantsNow l.recipe.shareCount) :
    s.requestShares a w = (s.sharesGranted a l.recipe.shareCount).goToTarget a w := by
  unfold State.requestShares State.sharesGranted
  simp only [load]
  rcases grants with none_ | ⟨present, empty, fits⟩
  · rw [if_pos none_, if_pos none_]
  · by_cases none_ : l.recipe.shareCount = 0
    · rw [if_pos none_, if_pos none_]
    · have free : l.recipe.shareCount ≤ s.header.free := by unfold Header.free; omega
      rw [if_neg none_, if_neg none_, if_neg (by simp [present]), if_pos ⟨empty, free⟩]

/-- A request that is queued. -/
theorem requestShares_queued (some_ : l.recipe.shareCount ≠ 0) (present : s.trips.header = true)
    (full : s.header.wait = [] → s.header.capacity < s.header.inUse + l.recipe.shareCount) :
    s.requestShares a w = s.enterShareWait a w l.recipe.shareCount := by
  unfold State.requestShares
  simp only [load]
  rw [if_neg some_, if_neg (by simp [present]), if_neg]
  rintro ⟨empty, fits⟩
  have := full empty
  unfold Header.free at fits
  omega

/-- A request refused. -/
theorem requestShares_refused (some_ : l.recipe.shareCount ≠ 0) (lost : s.trips.header = false) :
    s.requestShares a w = (s.modLoad a Load.supplyFaulted).enterClosing a := by
  unfold State.requestShares
  simp only [load]
  rw [if_neg some_, if_pos lost, supplyFault_eq load]

/-- The arm in SHARE_WAIT. -/
theorem enterShareWait_arm (n : Nat) : (s.enterShareWait a w n).arm a =
      { s.arm a with
        state := .shareWait, mainOpening := 0, ethanolOpening := 0, noFlow := .stopped
        load := some { l with resume := none, waitTarget := some w } } ∧
    (s.enterShareWait a w n).header =
      { s.header with wait := s.header.wait ++ [{ arm := a, shares := n, timer := s.shareWaitStart }] } := by
  unfold State.enterShareWait
  rw [State.appendTrace_arm, appendTrace_header]
  refine ⟨?_, rfl⟩
  change ((s.modArm a _).modLoad a _).arm a = _
  rw [State.modArm_modLoad, State.modArm_arm_self, show (s.arm a).load = some l from load]
  rfl

end Shares

/-! ## Events in which the arm has moved and nobody is served -/

/-- Such an event advances the revisions. -/
theorem endEvent_moved {s0 u : State} {a : Fin 8} {l k : Load} (before : s0.load? a = some l) (after : u.load? a = some k)
    (number : k.data.number = l.data.number) (moved : (u.arm a).state ≠ (s0.arm a).state)
    (calm : State.endEvent s0 u = State.bumpRevisions s0 u) :
    (State.endEvent s0 u).arm a = { u.arm a with load := some k.bump } ∧ (State.endEvent s0 u).header = u.header := by
  rw [calm]
  exact ⟨bumpRevisions_arm_moved before after number moved, State.bumpRevisions_header ..⟩

/-- Nobody is served after a grant at once. -/
theorem granted_calm {s u : State} {a : Fin 8} {n : Nat} (grants : s.grantsNow n)
    (header : u.header = (s.sharesGranted a n).header) : State.endEvent s u = State.bumpRevisions s u := by
  rcases grants with none_ | ⟨_, empty, _⟩
  · rw [State.sharesGranted, if_pos none_] at header
    exact endEvent_of_header header
  · refine endEvent_of_blocked fun w rest waits _ => ?_
    have wait : u.header.wait = [] := by
      rw [header, State.sharesGranted]
      split <;> exact empty
    rw [wait] at waits
    exact absurd waits (by simp)

/-- Nobody is served after a request that does not fit has joined a list whose head does not fit. -/
theorem queued_calm {s u : State} {x : Waiter} (header : u.header = { s.header with wait := s.header.wait ++ [x] })
    (some_ : 0 < x.shares) (full : s.header.wait = [] → s.header.capacity < s.header.inUse + x.shares)
    (blocked : ∀ w rest, s.header.wait = w :: rest → 0 < w.shares ∧ s.header.capacity < s.header.inUse + w.shares) :
    State.endEvent s u = State.bumpRevisions s u := by
  refine endEvent_of_blocked fun w rest waits _ => ?_
  rw [header] at waits ⊢
  unfold Header.free
  dsimp only at waits ⊢
  cases list : s.header.wait with
  | nil =>
    rw [list] at waits
    obtain ⟨rfl, -⟩ := List.cons.inj waits
    have := full list
    omega
  | cons y ys =>
    rw [list] at waits
    obtain ⟨rfl, -⟩ := List.cons.inj waits
    have := blocked y ys list
    omega

section Prime

variable {m : Fin 16} {l : Load} {s : State} (enabled : (s.meter m).enable = true) (last : (s.meter m).divider ≤ 1)
  (load : s.load? (armOfMeter m) = some l) (room : l.data.product < Config.maxVolume)
  (prime : (s.arm (armOfMeter m)).state = .prime) (primed : l.recipe.primeVolume ≤ l.data.product + 1)
  (below : l.data.product + 1 < l.data.preset) (unflushed : l.data.product + 1 < l.data.flushPoint)
  (untapered : l.data.product + 1 < l.data.taperPoint)
include enabled last load room prime primed below unflushed untapered

/-- The tick asks for the shares, and PRIME_DONE is offered. -/
theorem tick_leavesPrime : s.pulse m = State.endEvent s
    (((((s.flowTicked m).requestShares (armOfMeter m) .ramp).fireEvent (armOfMeter m) .primeDone).judgeShots
      (armOfMeter m)).judgeVolume (armOfMeter m)) := by
  have counts := flowTicked_counts load room
  have away : ¬ s.makesTrim m l := fun ⟨blends, _⟩ => by rw [prime] at blends; exact absurd blends (by decide)
  have leaves : (s.flowTicked m).leavePrime (armOfMeter m) =
      ((s.flowTicked m).requestShares (armOfMeter m) .ramp).fireEvent (armOfMeter m) .primeDone := by
    simp only [State.leavePrime, counts.load]
    rw [if_neg (by rw [counts.preset, counts.product]; omega), if_neg (by rw [counts.flushPoint, counts.product]; omega),
      if_neg (by rw [counts.taperPoint, counts.product]; omega)]
  rw [pulse_flow enabled last load (by rw [prime]; rfl), flowSteps_of_no_trim load room away,
    counts.evaluate_below below (by rw [prime]; exact nofun) (by rw [prime]; exact nofun), prime, State.phaseStep,
    if_pos (decide_eq_true primed), leaves]

end Prime

section Ramp

variable {m : Fin 16} {l L : Load} {s w : State} (counts : s.Counts w m l L l.data)
include counts

/-- The arm in RAMP after the grant. -/
theorem ramped : ((w.sharesGranted (armOfMeter m) l.recipe.shareCount).enterRamp (armOfMeter m)).arm (armOfMeter m) =
      { s.arm (armOfMeter m) with
        state := .ramp, mainOpening := l.recipe.primeOpening
        ethanolOpening := if l.recipe.ratio = 0 then 0 else l.ethanolLastUsed.getD l.recipe.ethanolStartOpening
        noFlow := s.noFlowStart, load := some L.inRamp } ∧
    ((w.sharesGranted (armOfMeter m) l.recipe.shareCount).enterRamp (armOfMeter m)).header =
      (s.sharesGranted (armOfMeter m) l.recipe.shareCount).header := by
  have kept : ∀ n, (w.sharesGranted (armOfMeter m) n).arm (armOfMeter m) = w.arm (armOfMeter m) := fun n => by
    unfold State.sharesGranted; split <;> rfl
  have settings : (w.sharesGranted (armOfMeter m) l.recipe.shareCount).settings = s.settings := by
    rw [← counts.settings]; unfold State.sharesGranted; split <;> rfl
  have header : (w.sharesGranted (armOfMeter m) l.recipe.shareCount).header =
      (s.sharesGranted (armOfMeter m) l.recipe.shareCount).header := by
    unfold State.sharesGranted
    split
    · exact counts.header
    · exact congrArg (fun h : Header => h.grant _ _) counts.header
  obtain ⟨arm, same⟩ := enterRamp_arm (a := armOfMeter m) ((congrArg Arm.load (kept l.recipe.shareCount)).trans counts.load)
  have noFlow : (w.sharesGranted (armOfMeter m) l.recipe.shareCount).noFlowStart = s.noFlowStart := by
    rw [State.noFlowStart, settings]; rfl
  have ethanol : L.entryEthanol =
      if l.recipe.ratio = 0 then 0 else l.ethanolLastUsed.getD l.recipe.ethanolStartOpening := by
    rw [Load.entryEthanol, counts.rest]
    cases l.ethanolLastUsed <;> rfl
  obtain ⟨n, counted⟩ := counts.arm
  refine ⟨?_, same.trans header⟩
  rw [arm, kept, counted, noFlow, ethanol, counts.recipe]

/-- The load in RAMP stands as it stood. -/
theorem inRamp_standing : l.SameStanding L.inRamp ∧ L.inRamp.data = L.data ∧ L.inRamp.rampBase = some (l.data.product + 1) := by
  have data : L.inRamp.data = L.data := by rw [Load.inRamp, requeued_eq]; rfl
  have recipe : L.inRamp.recipe = L.recipe := by rw [Load.inRamp, requeued_eq]; rfl
  have base : L.inRamp.rampBase = some L.data.product := by rw [Load.inRamp, requeued_eq]
  have standing := counts.standing
  refine ⟨⟨?_, ?_, ?_, ?_, ?_, ?_, ?_, ?_, ?_, ?_, ?_, recipe.trans standing.recipe⟩, data, base.trans (by rw [counts.product])⟩
  all_goals rw [data]
  exacts [standing.number, standing.revision, standing.flag0, standing.flag1, standing.causes, standing.pending,
    standing.preset, standing.blendSpan, standing.flushPoint, standing.taperPoint, standing.ethanolTarget]

/-- It meets no boundary at V. -/
theorem inRamp_quiet (spaced : ∀ k ∈ l.recipe.lines, 0 < k.spacing) : L.inRamp.Quiet := by
  rw [Load.inRamp]
  refine requeued_quiet ?_
  change ∀ k ∈ L.recipe.lines, 0 < k.spacing
  rw [counts.recipe]
  exact spaced

end Ramp

end Sys2Proof.Machine
end

section
/-! PROOFS. PRIME left at a tick, and the ticks of a blending phase that meet nothing but its own volumes (R44 to R48, R150). -/

namespace Sys2Proof.Machine

/-- The header and the trips of a counted tick are those before it. -/
theorem State.Counts.grantsNow {s w : State} {m : Fin 16} {l L : Load} {d : LoadData} (h : s.Counts w m l L d) {n : Nat}
    (grants : s.grantsNow n) : w.grantsNow n := by
  rw [State.grantsNow, h.header, h.trips]
  exact grants

section Prime

variable {m : Fin 16} {l : Load} {s : State} (enabled : (s.meter m).enable = true) (last : (s.meter m).divider ≤ 1)
  (load : s.load? (armOfMeter m) = some l) (room : l.data.product < Config.maxVolume)
  (prime : (s.arm (armOfMeter m)).state = .prime) (primed : l.recipe.primeVolume ≤ l.data.product + 1)
  (below : l.data.product + 1 < l.data.preset) (unflushed : l.data.product + 1 < l.data.flushPoint)
  (untapered : l.data.product + 1 < l.data.taperPoint)
include enabled last load room prime primed below unflushed untapered

/-- With the shares granted at once the event is that of the entry to RAMP and of PRIME_DONE. -/
theorem tick_ramps (spaced : ∀ k ∈ l.recipe.lines, 0 < k.spacing) (grants : s.grantsNow l.recipe.shareCount)
    (silent : ∀ c ∈ l.recipe.checkpoints, c.event ≠ .atVolume (l.data.product + 1)) :
    ∃ w L, s.Counts w m l L l.data ∧ s.pulse m = State.endEvent s
      (((w.sharesGranted (armOfMeter m) l.recipe.shareCount).enterRamp (armOfMeter m)).fireEvent (armOfMeter m) .primeDone) := by
  have counts := flowTicked_counts load room
  obtain ⟨arm, _⟩ := ramped counts
  obtain ⟨standing, data, _⟩ := inRamp_standing counts
  refine ⟨_, _, counts, ?_⟩
  rw [tick_leavesPrime enabled last load room prime primed below unflushed untapered,
    requestShares_granted counts.load .ramp (by rw [counts.recipe]; exact counts.grantsNow grants), counts.recipe,
    State.goToTarget, judged_fireEvent .primeDone (congrArg Arm.load arm) (by rw [arm]; exact nofun) (inRamp_quiet counts spaced)
      (by rw [standing.recipe, data, counts.product]; exact silent)]

/-- The arm is in RAMP at the end. -/
theorem tick_ramped (silent : l.recipe.checkpoints = []) (spaced : ∀ k ∈ l.recipe.lines, 0 < k.spacing)
    (grants : s.grantsNow l.recipe.shareCount) :
    ∃ k, (s.pulse m).load? (armOfMeter m) = some k ∧ ((s.pulse m).arm (armOfMeter m)).state = .ramp ∧
      ((s.pulse m).arm (armOfMeter m)).mainOpening = l.recipe.primeOpening ∧
      ((s.pulse m).arm (armOfMeter m)).ethanolOpening =
        (if l.recipe.ratio = 0 then 0 else l.ethanolLastUsed.getD l.recipe.ethanolStartOpening) ∧
      k.rampBase = some (l.data.product + 1) ∧
      (s.pulse m).header = (s.sharesGranted (armOfMeter m) l.recipe.shareCount).header ∧
      k.data.revision = (if 65535 ≤ l.data.revision then 1 else l.data.revision + 1) := by
  obtain ⟨w, L, counts, pulse⟩ := tick_ramps enabled last load room prime primed below unflushed untapered spaced grants
    (by rw [silent]; simp)
  obtain ⟨arm, header⟩ := ramped counts
  obtain ⟨standing, _, base⟩ := inRamp_standing counts
  rw [fireEvent_of_none (congrArg Arm.load arm) (by rw [standing.recipe, silent]; simp)] at pulse
  obtain ⟨ended, same⟩ := endEvent_moved load (congrArg Arm.load arm) standing.number (by rw [arm, prime]; exact nofun)
    (granted_calm grants header)
  rw [← pulse] at ended same
  refine ⟨L.inRamp.bump, congrArg Arm.load ended, by rw [ended, arm], by rw [ended, arm], by rw [ended, arm], base,
    same.trans header, ?_⟩
  change nextRevision L.inRamp.data.revision = _
  rw [standing.revision]
  rfl

/-- PRIME_DONE fires in RAMP. -/
theorem tick_primeDone (spaced : ∀ k ∈ l.recipe.lines, 0 < k.spacing) (grants : s.grantsNow l.recipe.shareCount)
    (silent : ∀ c ∈ l.recipe.checkpoints, c.event ≠ .atVolume (l.data.product + 1)) {hit0 hit1 halt0 halt1 : Bool}
    (answers0 : l.entryAnswers .primeDone 0 l.data.flag0 hit0 halt0)
    (answers1 : l.entryAnswers .primeDone 1 l.data.flag1 hit1 halt1) :
    ∃ k, s.eventFired (s.pulse m) (armOfMeter m) l k .ramp hit0 hit1 halt0 halt1 := by
  obtain ⟨w, L, counts, pulse⟩ := tick_ramps enabled last load room prime primed below unflushed untapered spaced grants silent
  obtain ⟨arm, header⟩ := ramped counts
  obtain ⟨standing, _, _⟩ := inRamp_standing counts
  have kept : ∀ {β : Type} (g : State → β) (_ : ∀ s f, g (State.modHeader s f) = g s)
      (_ : ∀ s a f, g (State.modArm s a f) = g s) (_ : ∀ s st f, g (State.modStation s st f) = g s)
      (_ : ∀ (s : State) x, g { s with bus := x } = g s) (_ : ∀ s a f, g (State.modPage s a f) = g s),
      g ((w.sharesGranted (armOfMeter m) l.recipe.shareCount).enterRamp (armOfMeter m)) = g w := by
    intro β g header arm station bus page
    rw [enterRamp_kept g arm station bus page, State.sharesGranted]
    split
    · rfl
    · exact header _ _
  have finds : EventFinds s s ((w.sharesGranted (armOfMeter m) l.recipe.shareCount).enterRamp (armOfMeter m)) (armOfMeter m) l
      L.inRamp .ramp := by
    refine ⟨load, rfl, congrArg Arm.load arm, by rw [arm], standing, fun same => ?_, fun p => ?_, ?_, fun v same _ => ?_⟩
    · rw [prime] at same
      exact absurd same (by decide)
    · have ports := kept State.ports (fun _ _ => rfl) (fun _ _ _ => rfl) (fun _ _ _ => rfl) (fun _ _ => rfl) fun _ _ _ => rfl
      rw [State.port, ports, counts.ports]
      rfl
    · exact (kept State.settings (fun _ _ => rfl) (fun _ _ _ => rfl) (fun _ _ _ => rfl) (fun _ _ => rfl)
        fun _ _ _ => rfl).trans counts.settings
    · exact granted_calm grants (same.trans header)
  obtain ⟨k, fired, _⟩ := finds.fires answers0 answers1 fun _ => .inr ⟨by decide, by rw [prime]; decide⟩
  rw [pulse]
  exact ⟨k, fired⟩

/-- A request that is queued leaves the arm in SHARE_WAIT. -/
theorem tick_waits (silent : l.recipe.checkpoints = []) (some_ : l.recipe.shareCount ≠ 0) (present : s.trips.header = true)
    (full : s.header.wait = [] → s.header.capacity < s.header.inUse + l.recipe.shareCount)
    (blocked : ∀ w rest, s.header.wait = w :: rest → 0 < w.shares ∧ s.header.capacity < s.header.inUse + w.shares) :
    ∃ k, (s.pulse m).load? (armOfMeter m) = some k ∧ ((s.pulse m).arm (armOfMeter m)).state = .shareWait ∧
      ((s.pulse m).arm (armOfMeter m)).mainOpening = 0 ∧ ((s.pulse m).arm (armOfMeter m)).ethanolOpening = 0 ∧
      ((s.pulse m).arm (armOfMeter m)).noFlow = .stopped ∧ k.waitTarget = some .ramp ∧
      (s.pulse m).header =
        { s.header with
          wait := s.header.wait ++
            [{ arm := armOfMeter m, shares := l.recipe.shareCount
               timer := if s.settings.shareWaitSeconds = 0 then .stopped
                 else .running (s.settings.shareWaitSeconds * 1000) }] } ∧
      k.data.revision = (if 65535 ≤ l.data.revision then 1 else l.data.revision + 1) := by
  have counts := flowTicked_counts load room
  have queued := requestShares_queued counts.load .ramp (by rw [counts.recipe]; exact some_)
    (by rw [counts.trips]; exact present) (by rw [counts.header, counts.recipe]; exact full)
  obtain ⟨arm, header⟩ := enterShareWait_arm counts.load .ramp (l.ticked s m).recipe.shareCount
  have silent' : ∀ (ev : EventKind), ∀ c ∈ (l.ticked s m).recipe.checkpoints, c.event ≠ ev := by
    rw [counts.recipe, silent]; simp
  have pulse := tick_leavesPrime enabled last load room prime primed below unflushed untapered
  rw [queued, fireEvent_of_none (congrArg Arm.load arm) (silent' _),
    judged_of_silent (by rw [arm]; rfl) (congrArg Arm.load arm) (silent' _)] at pulse
  have started : (s.flowTicked m).shareWaitStart =
      if s.settings.shareWaitSeconds = 0 then .stopped else .running (s.settings.shareWaitSeconds * 1000) := by
    rw [State.shareWaitStart, counts.settings]
  have wait : ((s.flowTicked m).enterShareWait (armOfMeter m) .ramp (l.ticked s m).recipe.shareCount).header =
      { s.header with
        wait := s.header.wait ++
          [{ arm := armOfMeter m, shares := l.recipe.shareCount
             timer := if s.settings.shareWaitSeconds = 0 then .stopped
               else .running (s.settings.shareWaitSeconds * 1000) }] } := by
    rw [header, counts.header, counts.recipe, started]
  have calm := queued_calm wait (Nat.pos_of_ne_zero some_) full blocked
  obtain ⟨ended, same⟩ := endEvent_moved load (congrArg Arm.load arm) counts.standing.number (by rw [arm, prime]; exact nofun) calm
  rw [← pulse] at ended same
  refine ⟨_, congrArg Arm.load ended, by rw [ended, arm], by rw [ended, arm], by rw [ended, arm], by rw [ended, arm], rfl,
    same.trans wait, ?_⟩
  change nextRevision (l.ticked s m).data.revision = _
  rw [counts.standing.revision]
  rfl

/-- A request refused leaves the arm in CLOSING. -/
theorem tick_refused (silent : l.recipe.checkpoints = []) (some_ : l.recipe.shareCount ≠ 0) (lost : s.trips.header = false) :
    ∃ k, (s.pulse m).load? (armOfMeter m) = some k ∧ ((s.pulse m).arm (armOfMeter m)).state = .closing ∧
      ((s.pulse m).arm (armOfMeter m)).mainOpening = 0 ∧
      k.data.faults = { l.data.faults with ethanolSupply := true } ∧ k.endDue = some (l.endDue.getD .ethanolSupply) ∧
      k.data.revision = (if 65535 ≤ l.data.revision then 1 else l.data.revision + 1) := by
  have counts := flowTicked_counts load room
  have marks := counts.marks (.inl rfl)
  simp only [LoadData.marks, Prod.mk.injEq] at marks
  obtain ⟨number, revision, -, -, -, faults, -⟩ := marks
  have refused := requestShares_refused counts.load .ramp (by rw [counts.recipe]; exact some_) (by rw [counts.trips]; exact lost)
  have faulted := load?_modLoad Load.supplyFaulted counts.load
  obtain ⟨ls, _, entered⟩ := enterClosing_arm faulted
  have pulse := tick_leavesPrime enabled last load room prime primed below unflushed untapered
  rw [refused, fireEvent_of_none (congrArg Arm.load entered)
    (by rw [show ({ (l.ticked s m).supplyFaulted.closed with lines := ls } : Load).recipe = l.recipe from
      (closed_rest _).1.trans counts.recipe, silent]; simp), judged_of_closing (enterClosing_state faulted)] at pulse
  obtain ⟨k, ends⟩ := endsClosing_of_enter load faulted number (by rw [prime]; exact nofun)
  rw [← pulse] at ends
  refine ⟨k, ends.load, ends.state, ends.main, ?_, ?_, ?_⟩
  · rw [ends.moved.faults, ← faults]
    rfl
  · rw [ends.moved.endDue, ← counts.endDue]
    rfl
  · rw [ends.moved.revision, ← revision]
    rfl

end Prime

end Sys2Proof.Machine
end

section
/-! PROOFS. A tick in a blending phase that meets no trim point and no shot boundary (R46 to R48, R150). -/

namespace Sys2Proof.Machine

/-! ## Trace records (R172) -/

/-- The record that an arm hands over is the last of its page. -/
theorem appendTrace_last {s : State} {a : Fin 8} {l : Load} (load : s.load? a = some l) (c : TraceCause) :
    ((s.appendTrace a c).page a).records.getLast? =
      some
        { load := l.data.number, sequence := (s.page a).nextSequence, cause := c, armState := (s.arm a).state
          product := l.data.product, gasoline := l.data.gasoline, ethanol := l.data.ethanol
          mainOpening := (s.arm a).mainOpening, ethanolOpening := (s.arm a).ethanolOpening
          deviation := l.data.deviation, sharesHeld := s.header.sharesOf a } := by
  simp only [State.appendTrace, load]
  simp [TracePage.append]

/-! ## Main openings -/

/-- The state with a main opening set. -/
def State.opened (s : State) (a : Fin 8) (o : Nat) : State := s.modArm a fun x => { x with mainOpening := o }

/-- Two changes of an arm that agree on it are one. -/
theorem modArm_congr {s : State} {a : Fin 8} {f g : Arm → Arm} (same : f (s.arm a) = g (s.arm a)) :
    s.modArm a f = s.modArm a g := by
  have at_ : f s.arms[a.val] = g s.arms[a.val] := same
  simp only [State.modArm, at_]

/-- An opening set as it is. -/
theorem opened_self (s : State) (a : Fin 8) : s.opened a (s.arm a).mainOpening = s := by
  exact (modArm_congr (g := id) rfl).trans (by simp [State.modArm])

namespace State.Counts

variable {s w : State} {m : Fin 16} {l L : Load} {d : LoadData} (h : s.Counts w m l L d)
include h

/-- The load with an opening set. -/
theorem opened_load (o : Nat) : (w.opened (armOfMeter m) o).load? (armOfMeter m) = some L := by
  rw [State.opened, State.load?_modArm_self]
  exact h.load

/-- The arm with an opening set. -/
theorem opened_arm (o : Nat) : ∃ n, (w.opened (armOfMeter m) o).arm (armOfMeter m) =
    { s.arm (armOfMeter m) with mainOpening := o, noFlow := n, load := some L } := by
  obtain ⟨n, arm⟩ := h.arm
  exact ⟨n, by rw [State.opened, State.modArm_arm_self, arm]⟩

/-! ### The steps of a phase -/

/-- A step of the ramp below its last sets its opening. -/
theorem rampStep_at {b j : Nat} (base : l.rampBase = some b) (pos : 0 < l.recipe.rampStepVolume) (low : 1 ≤ j)
    (high : j < l.recipe.rampSteps) (at_ : l.data.product + 1 = b + j * l.recipe.rampStepVolume) :
    w.rampStep (armOfMeter m) = w.opened (armOfMeter m) (l.recipe.rampOpening j) := by
  have due : L.rampStepDue = some j := by
    simp only [Load.rampStepDue, h.rampBase, base, h.product, h.recipe, at_, Nat.add_sub_cancel_left,
      Nat.mul_div_cancel _ pos]
    rw [if_pos ⟨trivial, low, high.le⟩]
  simp only [State.rampStep, h.load, due, h.recipe]
  rw [if_neg (by omega)]
  rfl

/-- The last step of the ramp enters FULL. -/
theorem rampStep_last {b : Nat} (base : l.rampBase = some b) (pos : 0 < l.recipe.rampStepVolume)
    (some_ : 1 ≤ l.recipe.rampSteps) (at_ : l.data.product + 1 = b + l.recipe.rampSteps * l.recipe.rampStepVolume) :
    w.rampStep (armOfMeter m) =
      (w.modArm (armOfMeter m) fun x =>
        { x with state := .full, mainOpening := l.recipe.fullOpening, noFlow := w.noFlowStart }).appendTrace (armOfMeter m)
          .phase := by
  have due : L.rampStepDue = some l.recipe.rampSteps := by
    simp only [Load.rampStepDue, h.rampBase, base, h.product, h.recipe, at_, Nat.add_sub_cancel_left,
      Nat.mul_div_cancel _ pos]
    rw [if_pos ⟨trivial, some_, le_refl _⟩]
  simp only [State.rampStep, h.load, due, h.recipe, if_true]

/-- A step that is due lies at its volume above the ramp base. -/
theorem rampStepDue_at {k : Nat} (due : L.rampStepDue = some k) :
    ∃ b, l.rampBase = some b ∧ 1 ≤ k ∧ k ≤ l.recipe.rampSteps ∧ l.data.product + 1 = b + k * l.recipe.rampStepVolume := by
  unfold Load.rampStepDue at due
  rw [h.rampBase] at due
  cases base : l.rampBase with
  | none => simp [base] at due
  | some b =>
    simp only [base, h.product, h.recipe] at due
    split at due
    · rename_i step
      obtain ⟨exact_, low, high⟩ := step
      obtain rfl := Option.some.inj due
      refine ⟨b, rfl, low, high, ?_⟩
      have above : 0 < (l.data.product + 1 - b) := by
        by_contra zero
        have none_ : l.data.product + 1 - b = 0 := by omega
        rw [none_, Nat.zero_div] at low
        exact absurd low (by decide)
      omega
    · exact absurd due (by simp)

/-- Any step of the ramp below its last sets an opening. -/
theorem rampStep_opens (early : ∀ b, l.rampBase = some b →
    l.data.product + 1 ≠ b + l.recipe.rampSteps * l.recipe.rampStepVolume) :
    ∃ o, w.rampStep (armOfMeter m) = w.opened (armOfMeter m) o := by
  simp only [State.rampStep, h.load]
  cases due : L.rampStepDue with
  | none => exact ⟨_, (opened_self w (armOfMeter m)).symm⟩
  | some k =>
    obtain ⟨b, base, _, _, at_⟩ := h.rampStepDue_at due
    have last : k ≠ L.recipe.rampSteps := by
      rintro rfl
      rw [h.recipe] at at_
      exact early b base at_
    exact ⟨_, if_neg last⟩

/-- Off every step of the ramp the opening stays. -/
theorem rampStep_off {b : Nat} (base : l.rampBase = some b)
    (off : ∀ j, 1 ≤ j → j ≤ l.recipe.rampSteps → l.data.product + 1 ≠ b + j * l.recipe.rampStepVolume) :
    w.rampStep (armOfMeter m) = w.opened (armOfMeter m) (s.arm (armOfMeter m)).mainOpening := by
  rw [← h.main, opened_self]
  simp only [State.rampStep, h.load]
  cases due : L.rampStepDue with
  | none => rfl
  | some k =>
    obtain ⟨c, base', low, high, at_⟩ := h.rampStepDue_at due
    obtain rfl := Option.some.inj (base.symm.trans base')
    exact absurd at_ (off k low high)

/-- A tick in TAPER sets the stepped opening. -/
theorem taperStep_eq : w.taperStep (armOfMeter m) = w.opened (armOfMeter m) (L.taperStepped (s.arm (armOfMeter m)).mainOpening) := by
  simp only [State.taperStep, h.load]
  refine modArm_congr ?_
  rw [← h.main]

/-- The opening that a tick in TAPER leaves. -/
theorem taperStepTaken (o : Nat) :
    l.recipe.taperStepTaken d.taperPoint (l.data.product + 1) o (L.taperStepped o) := by
  refine ⟨fun j low high at_ first => ?_, fun off => ?_⟩
  · rw [taperStepped_at o low (by rw [h.recipe]; exact high) (by rw [h.recipe, h.product, h.taperPoint]; exact at_)
      (by rw [h.recipe, h.product, h.taperPoint]; exact first), h.recipe]
    rfl
  · exact taperStepped_elsewhere o (by rw [h.recipe, h.product, h.taperPoint]; exact off)

end State.Counts

end Sys2Proof.Machine
end

section
/-! PROOFS. What a tick in a blending phase that meets nothing but its own volumes leaves (R46 to R48, R149, R150). -/

namespace Sys2Proof.Machine

namespace State.Counts

section Taper

variable {s w : State} {m : Fin 16} {l L : Load} {d : LoadData} (h : s.Counts w m l L d)
include h

/-! ## TAPER from RAMP or FULL (R47) -/

/-- The arm's own change. -/
def toTaper (w : State) (L : Load) (x : Arm) : Arm :=
  { x with state := .taper, mainOpening := L.taperStepped x.mainOpening, noFlow := w.noFlowStart }

/-- The entry, but for its checkpoint. -/
def tapered (w : State) (m : Fin 16) (L : Load) : State :=
  ((w.modArm (armOfMeter m) (toTaper w L)).modLoad (armOfMeter m) fun y =>
    { y with taperCeiling := some (y.ceilingOr (w.arm (armOfMeter m)).mainOpening) }).appendTrace (armOfMeter m) .phase

/-- The entry. -/
theorem enterTaperFromRun_eq : w.enterTaperFromRun (armOfMeter m) =
    (tapered w m L).fireIfFirst (armOfMeter m) l.taperCeiling.isNone := by
  simp only [State.enterTaperFromRun, h.load, h.taperCeiling]
  rfl

/-- The arm in TAPER. -/
theorem tapered_arm : (tapered w m L).arm (armOfMeter m) =
    { toTaper w L (w.arm (armOfMeter m)) with
      load := some { L with taperCeiling := some (l.taperCeiling.getD (s.arm (armOfMeter m)).mainOpening) } } := by
  rw [tapered, State.appendTrace_arm, State.modArm_modLoad, State.modArm_arm_self,
    show (toTaper w L (w.arm (armOfMeter m))).load = some L from h.load, Option.map_some, ceilingOr_eq, h.taperCeiling, h.main]

end Taper

end State.Counts

/-! ## Events that leave the arm in its state -/

namespace State.Counts

variable {s w : State} {m : Fin 16} {l L : Load} (h : s.Counts w m l L l.data)
include h

/-- What a checkpoint event finds where the steps have set an opening at most. -/
theorem opened_finds (load : s.load? (armOfMeter m) = some l) (o : Nat) :
    EventFinds s s (w.opened (armOfMeter m) o) (armOfMeter m) l L (s.arm (armOfMeter m)).state := by
  obtain ⟨n, arm⟩ := h.opened_arm o
  refine ⟨load, rfl, h.opened_load o, by rw [arm], h.standing, fun _ => h.resume, fun p => ?_, h.settings,
    fun v same _ => endEvent_of_header (same.trans h.header)⟩
  change (w.ports[portIndex p]) = _
  simp only [h.ports]
  rfl

/-- The event that leaves it so. -/
theorem opened_event (load : s.load? (armOfMeter m) = some l) (o : Nat) :
    State.endEvent s (w.opened (armOfMeter m) o) = w.opened (armOfMeter m) o := by
  obtain ⟨n, arm⟩ := h.opened_arm o
  have others : ∀ b, b ≠ armOfMeter m → (w.opened (armOfMeter m) o).arm b = s.arm b := fun b ne =>
    (State.modArm_arm_ne _ _ _ _ ne).trans (h.others b ne)
  rw [endEvent_of_one (s := w.opened (armOfMeter m) o) h.header others, if_neg]
  rw [partsChanged_of_loads load (h.opened_load o) h.standing.number, arm]
  simp [h.standing.preset, h.standing.pending, h.standing.causes, h.standing.flag0, h.standing.flag1, h.resume]

/-- The event of an arm that has moved with its load's data, recipe and resume phase as they were, and handed a record over. -/
theorem moved_event (load : s.load? (armOfMeter m) = some l) (f : Arm → Arm) (g : Load → Load)
    (own : (f (w.arm (armOfMeter m))).load = (w.arm (armOfMeter m)).load)
    (data : (g L).data = L.data) (moved : (f (w.arm (armOfMeter m))).state ≠ (s.arm (armOfMeter m)).state) :
    ∃ t, State.endEvent s (((w.modArm (armOfMeter m) f).modLoad (armOfMeter m) g).appendTrace (armOfMeter m) .phase) = t ∧
      t.arm (armOfMeter m) = { f (w.arm (armOfMeter m)) with load := some (g L).bump } ∧ t.header = s.header ∧
      (g L).bump.data.revision = (if 65535 ≤ l.data.revision then 1 else l.data.revision + 1) ∧
      ((t.page (armOfMeter m)).records.getLast?.map TraceRecord.cause) = some .phase := by
  have arm : (((w.modArm (armOfMeter m) f).modLoad (armOfMeter m) g).appendTrace (armOfMeter m) .phase).arm (armOfMeter m) =
      { f (w.arm (armOfMeter m)) with load := some (g L) } := by
    rw [State.appendTrace_arm, State.modArm_modLoad, State.modArm_arm_self, own, show (w.arm (armOfMeter m)).load = some L from
      h.load]
    rfl
  have header : (((w.modArm (armOfMeter m) f).modLoad (armOfMeter m) g).appendTrace (armOfMeter m) .phase).header = s.header := by
    rw [appendTrace_header]
    exact h.header
  obtain ⟨ended, same⟩ := endEvent_moved load (congrArg Arm.load arm) (by rw [data]; exact h.standing.number)
    (by rw [arm]; exact moved) (endEvent_of_header header)
  have there : ((w.modArm (armOfMeter m) f).modLoad (armOfMeter m) g).load? (armOfMeter m) = some (g L) := by
    rw [State.load?, ← State.appendTrace_arm _ _ .phase, arm]
  refine ⟨_, rfl, by rw [ended, arm], same.trans header, ?_, ?_⟩
  · change nextRevision (g L).data.revision = _
    rw [data, h.standing.revision]
    rfl
  · rw [endEvent_of_header header, bumpRevisions_kept (fun t => t.page (armOfMeter m)) (fun _ _ _ => rfl),
      appendTrace_last there]
    rfl

/-- What TAPER_BEGIN finds. -/
theorem tapered_finds (load : s.load? (armOfMeter m) = some l) (moved : (s.arm (armOfMeter m)).state ≠ .taper) :
    EventFinds s s (tapered w m L) (armOfMeter m) l
      { L with taperCeiling := some (l.taperCeiling.getD (s.arm (armOfMeter m)).mainOpening) } .taper := by
  have arm := h.tapered_arm
  have standing := h.standing
  have header : (tapered w m L).header = s.header := (appendTrace_header ..).trans h.header
  refine ⟨load, rfl, congrArg Arm.load arm, by rw [arm]; rfl, ⟨standing.number, standing.revision, standing.flag0,
    standing.flag1, standing.causes, standing.pending, standing.preset, standing.blendSpan, standing.flushPoint,
    standing.taperPoint, standing.ethanolTarget, standing.recipe⟩, fun same => absurd same.symm moved, fun p => ?_, ?_,
    fun v same _ => endEvent_of_header (same.trans header)⟩
  · rw [tapered, appendTrace_kept (fun t => t.port p) fun _ _ _ => rfl]
    change (w.ports[portIndex p]) = _
    simp only [h.ports]
    rfl
  · rw [tapered, appendTrace_kept State.settings fun _ _ _ => rfl]
    exact h.settings

end State.Counts

/-! ## The ticks -/

/-- A tick that meets no trim point and no boundary in a blending phase. -/
structure State.BlendsQuietly (s : State) (m : Fin 16) (l : Load) : Prop where
  blends : (s.arm (armOfMeter m)).state.isBlending = true
  below : l.data.product + 1 < l.data.preset
  unflushed : l.data.product + 1 < l.data.flushPoint
  away : l.nextTrim ≠ some (l.data.product + 1)
  above : ∀ x ∈ l.lines, ∀ b, x.nextBoundary = some b → l.data.product + 1 < b

section Tick

variable {m : Fin 16} {l : Load} {s : State} (enabled : (s.meter m).enable = true) (last : (s.meter m).divider ≤ 1)
  (load : s.load? (armOfMeter m) = some l) (room : l.data.product < Config.maxVolume)

/-- A blending phase flows. -/
theorem flowing_of_blending {x : ArmState} (blends : x.isBlending = true) : x.isFlowing = true := by
  revert blends
  cases x <;> decide

include enabled last load room

/-- Such a tick takes the step of its phase. -/
theorem tick_blends (quiet : s.BlendsQuietly m l) : s.pulse m = State.endEvent s
    ((((s.flowTicked m).phaseStep (armOfMeter m) (s.arm (armOfMeter m)).state
      (decide (l.recipe.primeVolume ≤ l.data.product + 1)) (decide (l.data.taperPoint ≤ l.data.product + 1))).judgeShots
        (armOfMeter m)).judgeVolume (armOfMeter m)) := by
  have counts := flowTicked_counts load room
  rw [pulse_flow enabled last load (flowing_of_blending quiet.blends),
    flowSteps_of_no_trim load room fun at_ => quiet.away at_.2,
    counts.evaluate_below quiet.below (fun flush => absurd quiet.blends (by rw [flush]; exact nofun)) fun _ => quiet.unflushed]

end Tick

end Sys2Proof.Machine
end

section
/-! PROOFS. The outcomes of a tick in a blending phase, and of one in a state where V alone counts (R46 to R48, R149, R150). -/

namespace Sys2Proof.Machine

/-- V fires where it lies below the preset and the arm is not in CLOSING. -/
theorem judgeVolume_fires {s : State} {a : Fin 8} {l : Load} (load : s.load? a = some l) (opened : (s.arm a).state ≠ .closing)
    (below : l.data.product < l.data.preset) : s.judgeVolume a = s.fireEvent a (.atVolume l.data.product) := by
  simp only [State.judgeVolume, load]
  exact if_neg (by rintro (closing | above) <;> [exact opened closing; omega])

/-- A state from which a volume that fires may hold the arm. -/
theorem holds_of_opened {x : ArmState} (opened : x ≠ .closing) (busy : x ≠ .idle) :
    x = .held ∨ x.toResume ≠ none ∧ x ≠ .held := by
  revert opened busy
  cases x <;> decide

section Tick

variable {m : Fin 16} {l : Load} {s : State}

/-- A counted load below every boundary meets none. -/
theorem State.Counts.quiet {w : State} {L : Load} {d : LoadData} (counts : s.Counts w m l L d)
    (above : ∀ x ∈ l.lines, ∀ b, x.nextBoundary = some b → l.data.product + 1 < b) : L.Quiet := by
  refine Load.quiet_of_above ?_
  rw [counts.lines, counts.product]
  exact above

/-- V fires in the event of a tick whose steps have set an opening at most. -/
theorem opened_fires {w : State} {L : Load} (counts : s.Counts w m l L l.data) (load : s.load? (armOfMeter m) = some l) (o : Nat)
    (opened : (s.arm (armOfMeter m)).state ≠ .closing) (busy : (s.arm (armOfMeter m)).state ≠ .idle)
    (below : l.data.product + 1 < l.data.preset) {hit0 hit1 halt0 halt1 : Bool}
    (answers0 : l.entryAnswers (.atVolume (l.data.product + 1)) 0 l.data.flag0 hit0 halt0)
    (answers1 : l.entryAnswers (.atVolume (l.data.product + 1)) 1 l.data.flag1 hit1 halt1) :
    ∃ k, s.eventFired (State.endEvent s ((w.opened (armOfMeter m) o).judgeVolume (armOfMeter m))) (armOfMeter m) l k
      (s.arm (armOfMeter m)).state hit0 hit1 halt0 halt1 := by
  obtain ⟨n, arm⟩ := counts.opened_arm o
  have fires := judgeVolume_fires (counts.opened_load o) (by rw [arm]; exact opened)
    (by rw [counts.product, counts.preset]; exact below)
  rw [counts.product] at fires
  obtain ⟨k, fired, _⟩ := (counts.opened_finds load o).fires answers0 answers1 fun _ => holds_of_opened opened busy
  rw [fires]
  exact ⟨k, fired⟩

/-- What a tick leaves that sets an opening at most. -/
structure State.TickOpens (s t : State) (m : Fin 16) (l k : Load) (o : Nat) : Prop where
  load : t.load? (armOfMeter m) = some k
  state : (t.arm (armOfMeter m)).state = (s.arm (armOfMeter m)).state
  main : (t.arm (armOfMeter m)).mainOpening = o
  ethanol : (t.arm (armOfMeter m)).ethanolOpening = (s.arm (armOfMeter m)).ethanolOpening
  header : t.header = s.header
  ceiling : k.taperCeiling = l.taperCeiling
  revision : k.data.revision = l.data.revision
  pages : t.pages = s.pages

/-- What a tick leaves that moves the arm to another blending phase with its shares and its ethanol opening. -/
structure State.TickMoves (s t : State) (m : Fin 16) (l k : Load) (x : ArmState) (o : Nat) (ceiling : Option Nat) : Prop where
  load : t.load? (armOfMeter m) = some k
  state : (t.arm (armOfMeter m)).state = x
  main : (t.arm (armOfMeter m)).mainOpening = o
  ethanol : (t.arm (armOfMeter m)).ethanolOpening = (s.arm (armOfMeter m)).ethanolOpening
  header : t.header = s.header
  noFlow : (t.arm (armOfMeter m)).noFlow = .running (s.settings.noFlowSeconds * 1000)
  ceiling : k.taperCeiling = ceiling
  revision : k.data.revision = (if 65535 ≤ l.data.revision then 1 else l.data.revision + 1)
  record : ((t.page (armOfMeter m)).records.getLast?.map TraceRecord.cause) = some .phase

variable (enabled : (s.meter m).enable = true) (last : (s.meter m).divider ≤ 1)
  (load : s.load? (armOfMeter m) = some l) (room : l.data.product < Config.maxVolume) (quiet : s.BlendsQuietly m l)
include enabled last load room quiet

section Opens

variable {o : Nat}
  (opens : (s.flowTicked m).phaseStep (armOfMeter m) (s.arm (armOfMeter m)).state
    (decide (l.recipe.primeVolume ≤ l.data.product + 1)) (decide (l.data.taperPoint ≤ l.data.product + 1)) =
      (s.flowTicked m).opened (armOfMeter m) o)
include opens

/-- Where the step sets an opening at most V is judged next. -/
theorem tick_opens : s.pulse m = State.endEvent s (((s.flowTicked m).opened (armOfMeter m) o).judgeVolume (armOfMeter m)) := by
  have counts := flowTicked_counts load room
  rw [tick_blends enabled last load room quiet, opens, judgeShots_of_quiet (counts.opened_load o) (counts.quiet quiet.above)]

/-- Where no entry names V that is all. -/
theorem tick_opens_silent (silent : l.recipe.checkpoints = []) : ∃ k, s.TickOpens (s.pulse m) m l k o := by
  have counts := flowTicked_counts load room
  have pulse := tick_opens enabled last load room quiet opens
  rw [judgeVolume_of_silent (counts.opened_load o) (by rw [counts.recipe, silent]; simp), counts.opened_event load o] at pulse
  obtain ⟨n, arm⟩ := counts.opened_arm o
  rw [← pulse] at arm
  refine ⟨_, congrArg Arm.load arm, by rw [arm], by rw [arm], by rw [arm], ?_, counts.taperCeiling, counts.standing.revision, ?_⟩
  · rw [pulse]
    exact counts.header
  · rw [pulse]
    exact counts.pages

end Opens

/-- The last step of the ramp. -/
theorem tick_full {b : Nat} (silent : l.recipe.checkpoints = []) (ramp : (s.arm (armOfMeter m)).state = .ramp)
    (untapered : l.data.product + 1 < l.data.taperPoint) (base : l.rampBase = some b) (pos : 0 < l.recipe.rampStepVolume)
    (some_ : 1 ≤ l.recipe.rampSteps) (at_ : l.data.product + 1 = b + l.recipe.rampSteps * l.recipe.rampStepVolume) :
    ∃ k, s.TickMoves (s.pulse m) m l k .full l.recipe.fullOpening l.taperCeiling := by
  have counts := flowTicked_counts load room
  have pulse := tick_blends enabled last load room quiet
  have entered : ((s.flowTicked m).modArm (armOfMeter m) fun x =>
      { x with state := .full, mainOpening := l.recipe.fullOpening, noFlow := (s.flowTicked m).noFlowStart }).load?
        (armOfMeter m) = some (l.ticked s m) := (State.load?_modArm_self ..).trans counts.load
  have recorded := (congrArg Arm.load (State.appendTrace_arm _ (armOfMeter m) .phase _)).trans entered
  rw [ramp, State.phaseStep, if_neg (by simp only [decide_eq_true_eq]; omega), counts.rampStep_last base pos some_ at_,
    judgeShots_of_quiet recorded (counts.quiet quiet.above),
    judgeVolume_of_silent recorded (by rw [counts.recipe, silent]; simp)] at pulse
  obtain ⟨t, event, arm, header, revision, record⟩ := counts.moved_event load (fun x =>
    { x with state := .full, mainOpening := l.recipe.fullOpening, noFlow := (s.flowTicked m).noFlowStart }) id rfl rfl
    (by rw [ramp]; exact nofun)
  rw [modLoad_eq_self entered rfl, ← pulse] at event
  rw [← event] at arm header record
  refine ⟨_, congrArg Arm.load arm, by rw [arm], by rw [arm], ?_, header, ?_, counts.taperCeiling, revision, record⟩
  · rw [arm]
    exact counts.ethanolOpening
  · rw [arm, State.noFlowStart, counts.settings]

/-- V at the taper point in RAMP or FULL. -/
theorem tick_tapers_eq (untapered : (s.arm (armOfMeter m)).state ≠ .taper) (tapers : l.data.taperPoint ≤ l.data.product + 1) :
    s.pulse m = State.endEvent s
      ((((State.Counts.tapered (s.flowTicked m) m (l.ticked s m)).fireIfFirst (armOfMeter m) l.taperCeiling.isNone).judgeShots
        (armOfMeter m)).judgeVolume (armOfMeter m)) := by
  have counts := flowTicked_counts load room
  have run : (s.flowTicked m).phaseStep (armOfMeter m) (s.arm (armOfMeter m)).state
      (decide (l.recipe.primeVolume ≤ l.data.product + 1)) (decide (l.data.taperPoint ≤ l.data.product + 1)) =
        (s.flowTicked m).enterTaperFromRun (armOfMeter m) := by
    have blends := quiet.blends
    cases state : (s.arm (armOfMeter m)).state
    all_goals rw [state] at blends untapered
    case ramp => exact if_pos (decide_eq_true tapers)
    case full => exact if_pos (decide_eq_true tapers)
    case taper => exact absurd rfl untapered
    all_goals exact absurd blends (by decide)
  rw [tick_blends enabled last load room quiet, run, counts.enterTaperFromRun_eq]

/-- V at the taper point enters TAPER. -/
theorem tick_tapers (silent : l.recipe.checkpoints = []) (untapered : (s.arm (armOfMeter m)).state ≠ .taper)
    (tapers : l.data.taperPoint ≤ l.data.product + 1) :
    ∃ k, s.TickMoves (s.pulse m) m l k .taper ((l.ticked s m).taperStepped (s.arm (armOfMeter m)).mainOpening)
      (some (l.taperCeiling.getD (s.arm (armOfMeter m)).mainOpening)) := by
  have counts := flowTicked_counts load room
  have tapered := counts.tapered_arm
  have there := congrArg Arm.load tapered
  have quiet_ := counts.quiet quiet.above
  have silent_ : ∀ (ev : EventKind), ∀ c ∈ (l.ticked s m).recipe.checkpoints, c.event ≠ ev := by
    rw [counts.recipe, silent]; simp
  have pulse := tick_tapers_eq enabled last load room quiet untapered tapers
  have unfired : (State.Counts.tapered (s.flowTicked m) m (l.ticked s m)).fireIfFirst (armOfMeter m) l.taperCeiling.isNone =
      State.Counts.tapered (s.flowTicked m) m (l.ticked s m) := by
    rw [State.fireIfFirst, fireEvent_of_none there (silent_ _), ite_self]
  rw [unfired, judgeShots_of_quiet there quiet_, judgeVolume_of_silent there (silent_ _)] at pulse
  obtain ⟨t, event, arm, header, revision, record⟩ := counts.moved_event load
    (State.Counts.toTaper (s.flowTicked m) (l.ticked s m)) (fun y =>
      { y with taperCeiling := some (y.ceilingOr ((s.flowTicked m).arm (armOfMeter m)).mainOpening) }) rfl rfl untapered.symm
  have event_ : s.pulse m = t := pulse.trans event
  rw [← event_] at arm header record
  refine ⟨_, congrArg Arm.load arm, by rw [arm]; rfl, ?_, ?_, header, ?_, ?_, revision, record⟩
  · rw [arm, ← counts.main]
    rfl
  · rw [arm]
    exact counts.ethanolOpening
  · rw [arm, State.Counts.toTaper, State.noFlowStart, counts.settings]
  · rw [← counts.main, ← counts.taperCeiling, ← ceilingOr_eq]
    rfl

/-- TAPER_BEGIN fires in TAPER at the first entry. -/
theorem tick_taperBegin (untapered : (s.arm (armOfMeter m)).state ≠ .taper) (tapers : l.data.taperPoint ≤ l.data.product + 1)
    (first : l.taperCeiling = none) (silent : ∀ c ∈ l.recipe.checkpoints, c.event ≠ .atVolume (l.data.product + 1))
    {hit0 hit1 halt0 halt1 : Bool} (answers0 : l.entryAnswers .taperBegin 0 l.data.flag0 hit0 halt0)
    (answers1 : l.entryAnswers .taperBegin 1 l.data.flag1 hit1 halt1) :
    ∃ k, s.eventFired (s.pulse m) (armOfMeter m) l k .taper hit0 hit1 halt0 halt1 := by
  have counts := flowTicked_counts load room
  have tapered := counts.tapered_arm
  have pulse := tick_tapers_eq enabled last load room quiet untapered tapers
  have fires : (State.Counts.tapered (s.flowTicked m) m (l.ticked s m)).fireIfFirst (armOfMeter m) l.taperCeiling.isNone =
      (State.Counts.tapered (s.flowTicked m) m (l.ticked s m)).fireEvent (armOfMeter m) .taperBegin := by
    rw [State.fireIfFirst, first]
    rfl
  have running : (s.arm (armOfMeter m)).state ≠ .held := by
    intro held
    have blends := quiet.blends
    rw [held] at blends
    exact absurd blends (by decide)
  rw [fires, judged_fireEvent .taperBegin (congrArg Arm.load tapered) (by rw [tapered]; exact nofun)
    (counts.quiet quiet.above) (by rw [counts.recipe, counts.product]; exact silent)] at pulse
  obtain ⟨k, fired, _⟩ := (counts.tapered_finds load untapered).fires answers0 answers1 fun _ => .inr ⟨nofun, running⟩
  rw [pulse]
  exact ⟨k, fired⟩

end Tick

end Sys2Proof.Machine
end

section
/-! PROOFS. The volume points of a tick (R42 to R51, R105, R149, R150). -/

namespace Sys2Proof.Machine

section Tick

variable {m : Fin 16} {l : Load} {s : State} (enabled : (s.meter m).enable = true) (last : (s.meter m).divider ≤ 1)
  (load : s.load? (armOfMeter m) = some l) (room : l.data.product < Config.maxVolume)
include enabled last load room

/-! ## Ticks that V alone counts at -/

/-- In HELD and SHARE_WAIT, in PRIME below the prime volume and in FLUSH below its end V alone is judged. -/
theorem tick_stays (below : l.data.product + 1 < l.data.preset)
    (stays : (s.arm (armOfMeter m)).state = .held ∨ (s.arm (armOfMeter m)).state = .shareWait ∨
      ((s.arm (armOfMeter m)).state = .prime ∧ l.data.product + 1 < l.recipe.primeVolume) ∨
        ((s.arm (armOfMeter m)).state = .flush ∧ ∀ e, l.flushEnd = some e → l.data.product + 1 < e)) :
    ∃ w L, s.Counts w m l L l.data ∧ s.pulse m = State.endEvent s (w.judgeVolume (armOfMeter m)) := by
  have flow := flowTicked_counts load room
  have flows : ∀ x : ArmState, x.isBlending = false → x.isFlowing = true → (s.arm (armOfMeter m)).state = x →
      (x = .flush → ∀ e, l.flushEnd = some e → l.data.product + 1 < e) →
      (s.flowTicked m).phaseStep (armOfMeter m) x (decide (l.recipe.primeVolume ≤ l.data.product + 1))
        (decide (l.data.taperPoint ≤ l.data.product + 1)) = s.flowTicked m →
      s.pulse m = State.endEvent s ((s.flowTicked m).judgeVolume (armOfMeter m)) := by
    intro x out flowing state flushing step
    have unblended : (s.arm (armOfMeter m)).state.isBlending = false := by rw [state]; exact out
    rw [pulse_flow enabled last load (by rw [state]; exact flowing),
      flowSteps_of_no_trim load room (fun at_ => absurd at_.1 (by simp [unblended])),
      flow.evaluate_below below (by rw [state]; exact flushing) (fun blends => absurd blends (by simp [unblended])), state, step,
      judgeShots_of_not_blending (by rw [flow.state]; exact unblended)]
  rcases stays with held | waits | ⟨prime, unprimed⟩ | ⟨flush, above⟩
  · exact ⟨_, _, ticked_counts load room, pulse_still enabled last load (.inl held)⟩
  · exact ⟨_, _, ticked_counts load room, pulse_still enabled last load (.inr waits)⟩
  · exact ⟨_, _, flow, flows .prime rfl rfl prime nofun (if_neg (by simp only [decide_eq_true_eq]; omega))⟩
  · exact ⟨_, _, flow, flows .flush rfl rfl flush (fun _ => above) rfl⟩

/-- V fires there. -/
theorem tick_stays_fires (below : l.data.product + 1 < l.data.preset)
    (stays : (s.arm (armOfMeter m)).state = .held ∨ (s.arm (armOfMeter m)).state = .shareWait ∨
      ((s.arm (armOfMeter m)).state = .prime ∧ l.data.product + 1 < l.recipe.primeVolume) ∨
        ((s.arm (armOfMeter m)).state = .flush ∧ ∀ e, l.flushEnd = some e → l.data.product + 1 < e))
    {hit0 hit1 halt0 halt1 : Bool}
    (answers0 : l.entryAnswers (.atVolume (l.data.product + 1)) 0 l.data.flag0 hit0 halt0)
    (answers1 : l.entryAnswers (.atVolume (l.data.product + 1)) 1 l.data.flag1 hit1 halt1) :
    ∃ k, s.eventFired (s.pulse m) (armOfMeter m) l k (s.arm (armOfMeter m)).state hit0 hit1 halt0 halt1 := by
  obtain ⟨w, L, counts, pulse⟩ := tick_stays enabled last load room below stays
  have opened : (s.arm (armOfMeter m)).state ≠ .closing ∧ (s.arm (armOfMeter m)).state ≠ .idle := by
    rcases stays with state | state | ⟨state, _⟩ | ⟨state, _⟩ <;> rw [state] <;> exact ⟨nofun, nofun⟩
  have fired := opened_fires counts load (w.arm (armOfMeter m)).mainOpening opened.1 opened.2 below answers0 answers1
  rw [opened_self, ← pulse] at fired
  exact fired

/-- Past the preset nothing fires in HELD and SHARE_WAIT. -/
theorem tick_past (still : (s.arm (armOfMeter m)).state = .held ∨ (s.arm (armOfMeter m)).state = .shareWait)
    (past : l.data.preset ≤ l.data.product + 1) :
    ∃ k, s.eventFired (s.pulse m) (armOfMeter m) l k (s.arm (armOfMeter m)).state false false false false := by
  have counts := ticked_counts load room
  have none_ : (s.ticked m).judgeVolume (armOfMeter m) = s.ticked m := by
    simp only [State.judgeVolume, counts.load]
    exact if_pos (.inr (by rw [counts.preset, counts.product]; exact past))
  obtain ⟨k, passed, _⟩ := (counts.opened_finds load ((s.ticked m).arm (armOfMeter m)).mainOpening).passes
  rw [opened_self] at passed
  rw [pulse_still enabled last load still, none_]
  exact ⟨k, passed⟩

/-- V fires in a blending phase that the tick does not leave. -/
theorem tick_blends_fires (quiet : s.BlendsQuietly m l)
    (stays : (s.arm (armOfMeter m)).state = .taper ∨ l.data.product + 1 < l.data.taperPoint)
    (early : (s.arm (armOfMeter m)).state = .ramp → ∀ b, l.rampBase = some b →
      l.data.product + 1 ≠ b + l.recipe.rampSteps * l.recipe.rampStepVolume) {hit0 hit1 halt0 halt1 : Bool}
    (answers0 : l.entryAnswers (.atVolume (l.data.product + 1)) 0 l.data.flag0 hit0 halt0)
    (answers1 : l.entryAnswers (.atVolume (l.data.product + 1)) 1 l.data.flag1 hit1 halt1) :
    ∃ k, s.eventFired (s.pulse m) (armOfMeter m) l k (s.arm (armOfMeter m)).state hit0 hit1 halt0 halt1 := by
  have counts := flowTicked_counts load room
  obtain ⟨o, opens⟩ : ∃ o, (s.flowTicked m).phaseStep (armOfMeter m) (s.arm (armOfMeter m)).state
      (decide (l.recipe.primeVolume ≤ l.data.product + 1)) (decide (l.data.taperPoint ≤ l.data.product + 1)) =
        (s.flowTicked m).opened (armOfMeter m) o := by
    have blends := quiet.blends
    cases state : (s.arm (armOfMeter m)).state
    all_goals rw [state] at blends stays early
    case ramp =>
      have untapered := stays.resolve_left nofun
      obtain ⟨o, opens⟩ := counts.rampStep_opens (early rfl)
      exact ⟨o, (if_neg (by simp only [decide_eq_true_eq]; omega)).trans opens⟩
    case full =>
      have untapered := stays.resolve_left nofun
      exact ⟨_, (if_neg (by simp only [decide_eq_true_eq]; omega)).trans (opened_self (s.flowTicked m) (armOfMeter m)).symm⟩
    case taper => exact ⟨_, counts.taperStep_eq⟩
    all_goals exact absurd blends (by decide)
  rw [tick_opens enabled last load room quiet opens]
  have opened : (s.arm (armOfMeter m)).state ≠ .closing ∧ (s.arm (armOfMeter m)).state ≠ .idle := by
    have blends := quiet.blends
    constructor <;> (intro state; rw [state] at blends; exact absurd blends (by decide))
  exact opened_fires counts load o opened.1 opened.2 quiet.below answers0 answers1

/-! ## Flush points and ramp steps -/

section Flush

variable (silent : l.recipe.checkpoints = []) (unpended : l.nextTrim = some (l.data.product + 1) → l.data.pending = none)
  (blending : (s.arm (armOfMeter m)).state.isBlending = true) (below : l.data.product + 1 < l.data.preset)
  (reached : l.data.flushPoint ≤ l.data.product + 1)
include silent unpended blending below reached

/-- V at the flush point, the end lying above. -/
theorem tick_flushed (above : l.data.product + 1 < l.data.pending.getD l.data.preset) :
    ∃ k, (s.pulse m).load? (armOfMeter m) = some k ∧ ((s.pulse m).arm (armOfMeter m)).state = .flush ∧
      ((s.pulse m).arm (armOfMeter m)).mainOpening = l.recipe.taperEndOpening ∧
      ((s.pulse m).arm (armOfMeter m)).ethanolOpening = 0 ∧ (s.pulse m).header.sharesOf (armOfMeter m) = 0 ∧
      k.flushEnd = some (l.data.pending.getD l.data.preset) ∧ k.flushKind = some .ordered ∧ k.endDue = l.endDue ∧
      l.amendmentApplied k ∧ k.data.revision = (if 65535 ≤ l.data.revision then 1 else l.data.revision + 1) := by
  obtain ⟨v, L, counts, pulse⟩ := tick_flushes enabled last load room (fun at_ => unpended at_.2) silent below blending reached
  obtain ⟨_, number⟩ := counts.before load (.inl rfl)
  have entry : L.entryEnd .ordered = l.data.pending.getD l.data.preset := by rw [Load.entryEnd, counts.pending, counts.preset]
  obtain ⟨k, ends⟩ := endsFlush_of_enter load counts.load number .ordered (by rw [counts.product, entry]; exact above)
    (fun flush => by rw [flush] at blending; exact absurd blending nofun)
  obtain ⟨_, _, _, _, endDue, revision⟩ := counts.moved_marks (.inl rfl) ends.moved
  rw [pulse]
  exact ⟨k, ends.load, ends.state, by rw [ends.main, counts.recipe], ends.ethanol, ends.shares, by rw [ends.flushEnd, entry],
    ends.flushKind, endDue, counts.amended (.inl rfl) ends.moved.amended, revision⟩

/-- V at the flush point and at the end. -/
theorem tick_flushedThrough (past : l.data.pending.getD l.data.preset ≤ l.data.product + 1) :
    ∃ k, (s.pulse m).load? (armOfMeter m) = some k ∧ ((s.pulse m).arm (armOfMeter m)).state = .closing ∧
      (s.pulse m).closingBegun (armOfMeter m) ∧ k.endDue = l.endDue ∧ l.amendmentApplied k ∧
      k.data.revision = (if 65535 ≤ l.data.revision then 1 else l.data.revision + 1) := by
  obtain ⟨v, L, counts, pulse⟩ := tick_flushes enabled last load room (fun at_ => unpended at_.2) silent below blending reached
  obtain ⟨_, number⟩ := counts.before load (.inl rfl)
  have entry : L.entryEnd .ordered = l.data.pending.getD l.data.preset := by rw [Load.entryEnd, counts.pending, counts.preset]
  obtain ⟨k, ends⟩ := endsClosing_of_enterFlush load counts.load number .ordered (by rw [counts.product, entry]; exact past)
    (fun closing => by rw [closing] at blending; exact absurd blending nofun)
  obtain ⟨_, _, _, _, endDue, revision⟩ := counts.moved_marks (.inl rfl) ends.moved
  have frame := endEvent_frame s ((frame_madeOn v).enterFlush .ordered trivial (.refl v) (b := armOfMeter m))
  rw [pulse]
  refine ⟨k, ends.load, ends.state, ⟨ends.main, ends.ethanol, ?_, ends.shares⟩, endDue,
    counts.amended (.inl rfl) ends.moved.amended, revision⟩
  rw [ends.settle, frame.elsewhere.settings]
  rfl

end Flush

section Steps

variable (quiet : s.BlendsQuietly m l) (silent : l.recipe.checkpoints = [])
include quiet silent

/-- A tick of the ramp below the taper point. -/
theorem tick_ramp {b : Nat} (ramp : (s.arm (armOfMeter m)).state = .ramp) (untapered : l.data.product + 1 < l.data.taperPoint)
    (base : l.rampBase = some b) (pos : 0 < l.recipe.rampStepVolume) :
    ∃ k, (∃ j, 1 ≤ j ∧ j < l.recipe.rampSteps ∧ l.data.product + 1 = b + j * l.recipe.rampStepVolume ∧
        s.TickOpens (s.pulse m) m l k (l.recipe.rampOpening j)) ∨
      (1 ≤ l.recipe.rampSteps ∧ l.data.product + 1 = b + l.recipe.rampSteps * l.recipe.rampStepVolume ∧
        s.TickMoves (s.pulse m) m l k .full l.recipe.fullOpening l.taperCeiling) ∨
      ((∀ j, 1 ≤ j → j ≤ l.recipe.rampSteps → l.data.product + 1 ≠ b + j * l.recipe.rampStepVolume) ∧
        s.TickOpens (s.pulse m) m l k (s.arm (armOfMeter m)).mainOpening) := by
  have counts := flowTicked_counts load room
  have step : ∀ {o}, (s.flowTicked m).rampStep (armOfMeter m) = (s.flowTicked m).opened (armOfMeter m) o →
      (s.flowTicked m).phaseStep (armOfMeter m) (s.arm (armOfMeter m)).state
        (decide (l.recipe.primeVolume ≤ l.data.product + 1)) (decide (l.data.taperPoint ≤ l.data.product + 1)) =
          (s.flowTicked m).opened (armOfMeter m) o := fun opens => by
    rw [ramp]
    exact (if_neg (by simp only [decide_eq_true_eq]; omega)).trans opens
  by_cases at_ : ∃ j, 1 ≤ j ∧ j ≤ l.recipe.rampSteps ∧ l.data.product + 1 = b + j * l.recipe.rampStepVolume
  · obtain ⟨j, low, high, at_⟩ := at_
    rcases Nat.lt_or_eq_of_le high with early | rfl
    · obtain ⟨k, opened⟩ := tick_opens_silent enabled last load room quiet (step (counts.rampStep_at base pos low early at_)) silent
      exact ⟨k, .inl ⟨j, low, early, at_, opened⟩⟩
    · obtain ⟨k, moved⟩ := tick_full enabled last load room quiet silent ramp untapered base pos low at_
      exact ⟨k, .inr (.inl ⟨low, at_, moved⟩)⟩
  · have off : ∀ j, 1 ≤ j → j ≤ l.recipe.rampSteps → l.data.product + 1 ≠ b + j * l.recipe.rampStepVolume :=
      fun j low high eq => at_ ⟨j, low, high, eq⟩
    obtain ⟨k, opened⟩ := tick_opens_silent enabled last load room quiet (step (counts.rampStep_off base off)) silent
    exact ⟨k, .inr (.inr ⟨off, opened⟩)⟩

/-- A tick in TAPER. -/
theorem tick_taper (taper : (s.arm (armOfMeter m)).state = .taper) :
    ∃ k, s.TickOpens (s.pulse m) m l k ((l.ticked s m).taperStepped (s.arm (armOfMeter m)).mainOpening) := by
  have counts := flowTicked_counts load room
  refine tick_opens_silent enabled last load room quiet ?_ silent
  rw [taper]
  exact counts.taperStep_eq

end Steps

end Tick

/-- Settles O41: the points in the order of R42, then the checkpoints by the states they find. -/
theorem tickMeetsVolumePoints : Obligations.TickMeetsVolumePoints := by
  unfold Obligations.TickMeetsVolumePoints
  intro m l s enabled last load room
  refine ⟨fun unpended ended => ?closes, fun silent unpended blending below reached => ⟨fun above => ?flushes, fun past => ?through⟩,
    fun unpended silent => ⟨fun prime primed below unflushed untapered spaced => ⟨fun grants => ?ramps, fun some_ present full
      blocked => ?waits, fun some_ lost => ?refused⟩, fun below unflushed away above => ⟨fun b ramp untapered base pos => ?steps,
        fun tapers => ?tapers⟩⟩, fun ev x hit0 hit1 halt0 halt1 below finds answers0 answers1 => ?fires,
    fun still past => ?past⟩
  case closes =>
    have flowing : (s.arm (armOfMeter m)).state.isFlowing = true := by
      rcases ended with ⟨flowing, _⟩ | ⟨flush, _⟩
      · exact flowing
      · rw [flush]; rfl
    obtain ⟨v, L, counts, pulse⟩ := tick_closes enabled last load room (fun at_ => unpended at_.1 at_.2) flowing
      (ended.imp And.right id)
    have opened : (s.arm (armOfMeter m)).state ≠ .closing := fun closing => by rw [closing] at flowing; exact absurd flowing nofun
    obtain ⟨k, ends, begun, amended⟩ := counts.endsClosing load (.inl rfl) opened
    obtain ⟨flag0, flag1, _, overrun, endDue, revision⟩ := counts.moved_marks (.inl rfl) ends.moved
    exact ⟨_, k, congrArg Host.Outcome.next pulse, ends.load, ends.state, begun, overrun, amended, flag0, flag1, endDue, revision⟩
  case flushes =>
    obtain ⟨k, outcome⟩ := tick_flushed enabled last load room silent unpended blending below reached above
    exact ⟨_, k, rfl, outcome⟩
  case through =>
    obtain ⟨k, outcome⟩ := tick_flushedThrough enabled last load room silent unpended blending below reached past
    exact ⟨_, k, rfl, outcome⟩
  case ramps =>
    obtain ⟨k, held, state, main, ethanol, base, header, revision⟩ := tick_ramped enabled last load room prime primed below
      unflushed untapered silent spaced grants
    refine ⟨_, k, rfl, held, state, main, ethanol, base, ?_, revision⟩
    rw [header, State.sharesGranted]
    split <;> rfl
  case waits =>
    obtain ⟨k, outcome⟩ := tick_waits enabled last load room prime primed below unflushed untapered silent some_ present full blocked
    exact ⟨_, k, rfl, outcome⟩
  case refused =>
    obtain ⟨k, outcome⟩ := tick_refused enabled last load room prime primed below unflushed untapered silent some_ lost
    exact ⟨_, k, rfl, outcome⟩
  case steps =>
    have quiet : s.BlendsQuietly m l := ⟨by rw [ramp]; rfl, below, unflushed, away, above⟩
    have once : ∀ i j, l.data.product + 1 = b + i * l.recipe.rampStepVolume →
        l.data.product + 1 = b + j * l.recipe.rampStepVolume → i = j := fun i j first second =>
      Nat.eq_of_mul_eq_mul_right pos (by omega)
    obtain ⟨k, ⟨j, low, early, at_, opened⟩ | ⟨some_, at_, moved⟩ | ⟨off, opened⟩⟩ :=
      tick_ramp enabled last load room quiet silent ramp untapered base pos
    · refine ⟨_, k, rfl, opened.load, opened.ethanol, opened.header, fun i _ _ there => ?_, fun _ there => ?_, fun off => ?_⟩
      · obtain rfl := once _ _ at_ there
        exact ⟨opened.state.trans ramp, opened.main, opened.revision, opened.pages⟩
      · exact absurd (once _ _ at_ there) (by omega)
      · exact absurd at_ (off j low early.le)
    · refine ⟨_, k, rfl, moved.load, moved.ethanol, moved.header, fun i _ early there => ?_, fun _ _ => ?_, fun off => ?_⟩
      · exact absurd (once _ _ at_ there) (by omega)
      · exact ⟨moved.state, moved.main, moved.noFlow, moved.revision, moved.record⟩
      · exact absurd at_ (off _ some_ (le_refl _))
    · refine ⟨_, k, rfl, opened.load, opened.ethanol, opened.header, fun i low early there => absurd there (off i low early.le),
        fun some_ there => absurd there (off _ some_ (le_refl _)), fun _ => ?_⟩
      exact ⟨opened.state.trans ramp, opened.main, opened.revision, opened.pages⟩
  case tapers =>
    have counts := flowTicked_counts load room
    rcases tapers with taper | ⟨run, reached⟩
    · obtain ⟨k, opened⟩ := tick_taper enabled last load room ⟨by rw [taper]; rfl, below, unflushed, away, above⟩ silent taper
      refine ⟨_, k, rfl, opened.load, opened.state.trans taper, opened.ethanol, opened.header, ?_,
        fun _ => ⟨opened.ceiling, opened.revision, opened.pages⟩, fun other => absurd taper other⟩
      rw [opened.main]
      exact counts.taperStepTaken _
    · have blends : (s.arm (armOfMeter m)).state.isBlending = true := by rcases run with run | run <;> rw [run] <;> rfl
      have untapered : (s.arm (armOfMeter m)).state ≠ .taper := by rcases run with run | run <;> rw [run] <;> exact nofun
      obtain ⟨k, moved⟩ := tick_tapers enabled last load room ⟨blends, below, unflushed, away, above⟩ silent untapered reached
      refine ⟨_, k, rfl, moved.load, moved.state, moved.ethanol, moved.header, ?_, fun taper => absurd taper untapered,
        fun _ => ⟨moved.ceiling, moved.noFlow, moved.revision, moved.record⟩⟩
      rw [moved.main]
      exact counts.taperStepTaken _
  case fires =>
    suffices fired : ∃ k, s.eventFired (s.pulse m) (armOfMeter m) l k x hit0 hit1 halt0 halt1 by
      obtain ⟨k, fired⟩ := fired
      exact ⟨_, k, rfl, fired⟩
    rcases finds with ⟨rfl, rfl, stays⟩ | ⟨silent, ⟨rfl, rfl, prime, primed, unflushed, untapered, spaced, grants⟩ |
      ⟨rfl, rfl, untapered, ⟨blends, unflushed, away, above⟩, reached, first⟩⟩
    · rcases stays with held | waits | prime | flush | ⟨⟨blends, unflushed, away, above⟩, stays, early⟩
      · exact tick_stays_fires enabled last load room below (.inl held) answers0 answers1
      · exact tick_stays_fires enabled last load room below (.inr (.inl waits)) answers0 answers1
      · exact tick_stays_fires enabled last load room below (.inr (.inr (.inl prime))) answers0 answers1
      · exact tick_stays_fires enabled last load room below (.inr (.inr (.inr flush))) answers0 answers1
      · exact tick_blends_fires enabled last load room ⟨blends, below, unflushed, away, above⟩ stays early answers0 answers1
    · exact tick_primeDone enabled last load room prime primed below unflushed untapered spaced grants (fun c mem => silent c mem)
        answers0 answers1
    · exact tick_taperBegin enabled last load room ⟨blends, below, unflushed, away, above⟩ untapered reached first silent
        answers0 answers1
  case past =>
    obtain ⟨k, passed⟩ := tick_past enabled last load room still past
    exact ⟨_, k, rfl, passed⟩

end Sys2Proof.Machine
end

section
/-! PROOFS. A shot boundary met by one line of a load (R121 to R123). -/

namespace Sys2Proof.Machine

/-! ## One line's judgement -/

/-- The load with one line changed. -/
def Load.lineSet (l : Load) (i : Nat) (f : Line → Line) : Load := { l with lines := l.lines.modify i f }

/-- Two changes of one line are one. -/
theorem modLine_modLine (s : State) (a : Fin 8) (i : Nat) (f g : Line → Line) :
    (s.modLine a i f).modLine a i g = s.modLine a i fun x => g (f x) := by
  simp only [State.modLine, modLoad_modLoad, List.modify_modify_eq, Function.comp_def]

/-- The line that a change of it leaves. -/
theorem lineSet_at {l : Load} {i : Nat} {y : Line} (f : Line → Line) (line : l.lines[i]? = some y) :
    (l.lineSet i f).lines[i]? = some (f y) := by
  simp [Load.lineSet, line]

/-- The change of one line leaves the others' boundaries. -/
theorem lineSet_quiet {l : Load} {i j : Nat} (f : Line → Line) (ne : i ≠ j) (quiet : l.QuietAt j) :
    (l.lineSet i f).QuietAt j := by
  intro x k line
  have stays : (l.lineSet i f).lines[j]? = l.lines[j]? := List.getElem?_modify_ne _ _ ne
  rw [stays] at line
  exact quiet x k line

/-- Where one line alone is judged the shots are its shots. -/
theorem judgeShots_of_one {s : State} {a : Fin 8} {i : Nat} {r : State × Bool} (low : i < 3)
    (before : ∀ j, j ≠ i → State.judgeLine (s, false) a j = (s, false)) (own : State.judgeLine (s, false) a i = r)
    (after : ∀ j, j ≠ i → State.judgeLine r a j = r) :
    s.judgeShots a = if r.2 then r.1.fireEvent a .shotMissed else r.1 := by
  have folded : [0, 1, 2].foldl (fun x j => State.judgeLine x a j) (s, false) = r := by
    simp only [List.foldl_cons, List.foldl_nil]
    interval_cases i
    · rw [own, after 1 (by decide), after 2 (by decide)]
    · rw [before 0 (by decide), own, after 2 (by decide)]
    · rw [before 0 (by decide), before 1 (by decide), own]
  rw [State.judgeShots, folded]

/-- A line that has met its boundary. -/
def Line.fallen (spacing : Nat) (f : LineRecord → LineRecord) (x : Line) : Line :=
  Line.modCounts f (State.advanceBoundary spacing x)

section Judge

variable {s : State} {a : Fin 8} {l : Load} {i : Nat} {y : Line} {r : RecipeLine} {b : Nat} (load : s.load? a = some l)
  (line : l.lines[i]? = some y) (order : l.recipe.lines[i]? = some r) (boundary : y.nextBoundary = some b)
  (reached : b ≤ l.data.product) (unskipped : y.counts.skipped = false) (blends : (s.arm a).state.isBlending = true)
include load line order boundary reached unskipped blends

/-- A boundary met with the station in service. -/
theorem judgeLine_inService (service : s.inService y.counts.station = true) :
    State.judgeLine (s, false) a i =
      ((s.modLine a i (State.advanceBoundary r.spacing)).placeShot a i y.counts.station l.data.number) := by
  have same : (s.modLine a i (State.advanceBoundary r.spacing)).inService y.counts.station = true := service
  simp only [State.judgeLine, load, line, order, boundary]
  rw [if_pos ⟨blends, unskipped, reached⟩, if_pos same]
  simp

/-- A boundary met with the station out of service. -/
theorem judgeLine_outOfService (service : s.inService y.counts.station = false) :
    State.judgeLine (s, false) a i =
      ((s.modLine a i (State.advanceBoundary r.spacing)).missOutOfService a i r.required, false) := by
  have same : (s.modLine a i (State.advanceBoundary r.spacing)).inService y.counts.station = false := service
  simp only [State.judgeLine, load, line, order, boundary]
  rw [if_pos ⟨blends, unskipped, reached⟩, if_neg (by simp [same])]

end Judge

/-! ## The shot placed (R121) -/

section Place

variable (s : State) (a : Fin 8) (i : Nat) (st : Fin 4) (number spacing : Nat)

/-- A new entry. -/
theorem placeShot_new (none_ : s.entryOwed st a = 0) :
    (s.modLine a i (State.advanceBoundary spacing)).placeShot a i st number =
      ((s.modLine a i (Line.fallen spacing LineRecord.fallDue)).appendEntry st
        { arm := a, load := number, line := i, owed := 1 }, false) := by
  have same : (s.modLine a i (State.advanceBoundary spacing)).entryOwed st a = 0 := none_
  unfold State.placeShot
  rw [if_pos same, modLine_modLine]
  rfl

/-- One more in the entry in place. -/
theorem placeShot_more (some_ : s.entryOwed st a ≠ 0) (room : s.entryOwed st a < 3) :
    (s.modLine a i (State.advanceBoundary spacing)).placeShot a i st number =
      ((s.modLine a i (Line.fallen spacing LineRecord.fallDue)).modStation st fun x =>
        { x with queue := x.queue.map fun e => if e.arm = a then { e with owed := e.owed + 1 } else e }, false) := by
  have same : (s.modLine a i (State.advanceBoundary spacing)).entryOwed st a = s.entryOwed st a := rfl
  unfold State.placeShot
  rw [same, if_neg some_]
  rw [if_pos (show s.entryOwed st a < Config.owedLimit from room), modLine_modLine]
  rfl

/-- A shot missed for want of room. -/
theorem placeShot_full (full : 3 ≤ s.entryOwed st a) :
    (s.modLine a i (State.advanceBoundary spacing)).placeShot a i st number =
      (s.modLine a i (Line.fallen spacing LineRecord.fallMissed), true) := by
  have same : (s.modLine a i (State.advanceBoundary spacing)).entryOwed st a = s.entryOwed st a := rfl
  unfold State.placeShot
  rw [same, if_neg (by omega)]
  rw [if_neg (by simp only [Config.owedLimit]; omega), modLine_modLine]
  rfl

end Place

end Sys2Proof.Machine
end

section
/-! PROOFS. The event of a tick that one line's boundary is met at (R121 to R123). -/

namespace Sys2Proof.Machine

/-- An event that leaves the arm's state, the load's standing and its resume phase advances no revision. -/
theorem endEvent_unmoved {s u : State} {a : Fin 8} {l k : Load} (before : s.load? a = some l) (header : u.header = s.header)
    (others : ∀ b, b ≠ a → u.arm b = s.arm b) (after : u.load? a = some k) (state : (u.arm a).state = (s.arm a).state)
    (standing : l.SameStanding k) (resume : k.resume = l.resume) : State.endEvent s u = u := by
  rw [endEvent_of_one header others, if_neg]
  rw [partsChanged_of_loads before after standing.number, state]
  simp [standing.preset, standing.pending, standing.causes, standing.flag0, standing.flag1, resume]

section Tick

variable {m : Fin 16} {l : Load} {s : State}

/-- A tick in FULL that line `i` alone meets a boundary at. -/
structure State.MeetsBoundary (s : State) (m : Fin 16) (l : Load) (i b : Nat) (y : Line) (r : RecipeLine) : Prop where
  full : (s.arm (armOfMeter m)).state = .full
  below : l.data.product + 1 < l.data.preset
  unflushed : l.data.product + 1 < l.data.flushPoint
  untapered : l.data.product + 1 < l.data.taperPoint
  away : l.nextTrim ≠ some (l.data.product + 1)
  silent : ∀ c ∈ l.recipe.checkpoints, c.event ≠ .atVolume (l.data.product + 1)
  low : i < 3
  line : l.lines[i]? = some y
  order : l.recipe.lines[i]? = some r
  unskipped : y.counts.skipped = false
  boundary : y.nextBoundary = some b
  reached : b ≤ l.data.product + 1
  others : ∀ j x, j ≠ i → l.lines[j]? = some x → ∀ d, x.nextBoundary = some d → l.data.product + 1 < d

/-- The counted state with the line's judgement made. -/
def State.fallen (s : State) (m : Fin 16) (i spacing : Nat) (f : LineRecord → LineRecord) : State :=
  (s.flowTicked m).modLine (armOfMeter m) i (Line.fallen spacing f)

/-- The counted load with the line's judgement made. -/
def Load.fallen (l : Load) (s : State) (m : Fin 16) (i spacing : Nat) (f : LineRecord → LineRecord) : Load :=
  (l.ticked s m).lineSet i (Line.fallen spacing f)

variable {i b : Nat} {y : Line} {r : RecipeLine} (enabled : (s.meter m).enable = true) (last : (s.meter m).divider ≤ 1)
  (load : s.load? (armOfMeter m) = some l) (room : l.data.product < Config.maxVolume) (meets : s.MeetsBoundary m l i b y r)
include load room meets

/-- Its arm and what stands beside. -/
theorem fallen_arm (f : LineRecord → LineRecord) :
    (∃ n, (s.fallen m i r.spacing f).arm (armOfMeter m) =
      { s.arm (armOfMeter m) with noFlow := n, load := some (l.fallen s m i r.spacing f) }) ∧
    (∀ b, b ≠ armOfMeter m → (s.fallen m i r.spacing f).arm b = s.arm b) ∧
    l.SameStanding (l.fallen s m i r.spacing f) ∧ (l.fallen s m i r.spacing f).resume = l.resume ∧
    (l.fallen s m i r.spacing f).data.product = l.data.product + 1 ∧
    (l.fallen s m i r.spacing f).lines[i]? = some (y.fallen r.spacing f) := by
  have counts := flowTicked_counts load room
  have standing := counts.standing
  obtain ⟨n, arm⟩ := counts.arm
  refine ⟨⟨n, ?_⟩, fun c ne => ?_, ⟨standing.number, standing.revision, standing.flag0,
    standing.flag1, standing.causes, standing.pending, standing.preset, standing.blendSpan, standing.flushPoint,
    standing.taperPoint, standing.ethanolTarget, standing.recipe⟩, counts.resume, counts.product, lineSet_at _ meets.line⟩
  · rw [State.fallen, modLine_relined i _ counts.load, arm]
    rfl
  · rw [State.fallen, State.modLine, State.modLoad, State.modArm_arm_ne _ _ _ _ ne]
    exact counts.others c ne

/-- The other lines stay below their boundaries. -/
theorem fallen_quiet (f : LineRecord → LineRecord) {j : Nat} (ne : j ≠ i) : (l.fallen s m i r.spacing f).QuietAt j := by
  refine lineSet_quiet _ ne.symm fun x k line _ _ c boundary => ?_
  change l.data.product < Config.maxVolume at room
  have counts := flowTicked_counts load room
  rw [counts.product]
  exact meets.others j x ne line c boundary

include enabled last

/-- The tick judges the line. -/
theorem tick_judges : s.pulse m = State.endEvent s (((s.flowTicked m).judgeShots (armOfMeter m)).judgeVolume (armOfMeter m)) ∧
    ∀ j, j ≠ i → State.judgeLine (s.flowTicked m, false) (armOfMeter m) j = (s.flowTicked m, false) := by
  have counts := flowTicked_counts load room
  have blends : (s.arm (armOfMeter m)).state.isBlending = true := by rw [meets.full]; rfl
  refine ⟨?_, fun j ne => judgeLine_of_quiet counts.load (fun x k line _ _ c boundary => ?_) false⟩
  · rw [pulse_flow enabled last load (by rw [meets.full]; rfl), flowSteps_of_no_trim load room fun at_ => meets.away at_.2,
      counts.evaluate_below meets.below (by rw [meets.full]; exact nofun) (fun _ => meets.unflushed), meets.full,
      State.phaseStep, if_neg (by have := meets.untapered; simp only [decide_eq_true_eq]; omega)]
  · rw [counts.product]
    exact meets.others j x ne line c boundary

/-- The tick's event where the line's shot is placed or missed without a fault, at `u` the shot placed. -/
theorem tick_places {u : State} (f : LineRecord → LineRecord) {missed : Bool}
    (own : State.judgeLine (s.flowTicked m, false) (armOfMeter m) i = (u, missed))
    (arms : ∀ c, u.arm c = (s.fallen m i r.spacing f).arm c) :
    s.pulse m = State.endEvent s ((if missed then u.fireEvent (armOfMeter m) .shotMissed else u).judgeVolume (armOfMeter m)) := by
  obtain ⟨⟨n, arm⟩, _, standing, _, product, _⟩ := fallen_arm load room meets f
  obtain ⟨pulse, before⟩ := tick_judges enabled last load room meets
  have there : u.load? (armOfMeter m) = some (l.fallen s m i r.spacing f) := by
    rw [State.load?, arms, arm]
  rw [pulse, judgeShots_of_one meets.low before own fun j ne =>
    judgeLine_of_quiet there (fallen_quiet load room meets f ne) missed]

/-- Without a checkpoint that is all. -/
theorem tick_placed {u : State} (f : LineRecord → LineRecord)
    (own : State.judgeLine (s.flowTicked m, false) (armOfMeter m) i = (u, false))
    (arms : ∀ c, u.arm c = (s.fallen m i r.spacing f).arm c) (header : u.header = s.header) :
    s.pulse m = u ∧ ∃ k, u.load? (armOfMeter m) = some k ∧ (u.arm (armOfMeter m)).state = .full ∧
      k.lines[i]? = some (y.fallen r.spacing f) ∧ l.SameStanding k ∧ k.data.faults = l.data.faults := by
  obtain ⟨⟨n, arm⟩, others, standing, resume, product, line⟩ := fallen_arm load room meets f
  have there : u.load? (armOfMeter m) = some (l.fallen s m i r.spacing f) := by
    rw [State.load?, arms, arm]
  have state : (u.arm (armOfMeter m)).state = (s.arm (armOfMeter m)).state := by rw [arms, arm]
  have marks := (flowTicked_counts load room).marks (.inl rfl)
  simp only [LoadData.marks, Prod.mk.injEq] at marks
  obtain ⟨-, -, -, -, -, faults, -⟩ := marks
  have pulse := tick_places enabled last load room meets f own arms
  rw [if_neg (by decide), judgeVolume_of_silent there (by rw [standing.recipe, product]; exact meets.silent),
    endEvent_unmoved load header (fun c ne => (arms c).trans (others c ne)) there state standing resume] at pulse
  exact ⟨pulse, _, there, state.trans meets.full, line, standing, faults⟩

end Tick

end Sys2Proof.Machine
end

section
/-! PROOFS. What a shot boundary leaves at the station and of the load (R121 to R123, R125, R138). -/

namespace Sys2Proof.Machine

/-! ## A station that gains an entry -/

/-- The arbiter changes a station's request alone. -/
theorem arbitrate_station (s : State) (k : Fin 4) : ∃ q, s.arbitrate.station k = { s.station k with request := q } := by
  unfold State.arbitrate
  split
  · exact ⟨_, rfl⟩
  · split
    · exact ⟨_, rfl⟩
    · rename_i st _
      by_cases own : k = st
      · subst own
        exact ⟨false, State.modStation_station_self s k fun x => { x with request := false }⟩
      · exact ⟨(s.station k).request, State.modStation_station_ne s st (fun x => { x with request := false }) k own⟩

section Append

variable {s : State} {st : Fin 4} {e : QueueEntry}

/-- An entry joins the tail. -/
theorem appendEntry_station : ∃ q, (s.appendEntry st e).station st =
    { s.station st with queue := (s.station st).queue ++ [e], request := q } := by
  unfold State.appendEntry
  dsimp only
  split
  · obtain ⟨q, same⟩ := arbitrate_station ((s.modStation st fun x => { x with queue := x.queue ++ [e] }).modStation st fun x =>
      { x with request := true }) st
    refine ⟨q, ?_⟩
    rw [State.gainRequest, same]
    simp
  · exact ⟨(s.station st).request, by simp⟩

/-- The bus where the station asks for it: busy, it goes on asking; free, the arbiter finds it asking (R125, R138). -/
theorem appendEntry_asks (idle : (s.station st).state = .idle) (empty : (s.station st).queue = []) :
    (s.bus.txn ≠ none → ((s.appendEntry st e).station st).request = true ∧ (s.appendEntry st e).bus = s.bus) ∧
      (s.bus.txn = none → s.busHandedOn (s.appendEntry st e) (s.asksWith st true)) := by
  have asked : s.appendEntry st e = ((s.modStation st fun x => { x with queue := x.queue ++ [e] }).modStation st fun x =>
      { x with request := true }).arbitrate := if_pos ⟨idle, empty⟩
  rw [asked]
  refine ⟨fun busy => ?_, fun free => ?_⟩
  · rw [State.arbitrate_busy (s := ((s.modStation st fun x => { x with queue := x.queue ++ [e] }).modStation st fun x =>
      { x with request := true })) busy]
    exact ⟨by simp, rfl⟩
  · have bus : ((s.modStation st fun x => { x with queue := x.queue ++ [e] }).modStation st fun x =>
        { x with request := true }).bus = { pointer := s.bus.pointer, txn := none } := by
      rw [← free]; rfl
    have asks : (fun k => (((s.modStation st fun x => { x with queue := x.queue ++ [e] }).modStation st fun x =>
        { x with request := true }).station k).request) = s.asksWith st true := by
      funext k
      by_cases own : k = st
      · subst own; simp [State.asksWith]
      · simp [State.asksWith, own]
    rw [← asks]
    exact State.arbitrate_handsOn bus

end Append

/-- The hand-on of the bus is seen from a state with the same bus. -/
theorem State.busHandedOn.of_bus {s u t : State} {asks : Fin 4 → Bool} (h : s.busHandedOn t asks) (same : u.bus = s.bus) :
    u.busHandedOn t asks := by
  unfold State.busHandedOn at h ⊢
  rw [same]
  exact h

section Tick

variable {m : Fin 16} {l : Load} {s : State} {i b : Nat} {y : Line} {r : RecipeLine}
  (load : s.load? (armOfMeter m) = some l) (room : l.data.product < Config.maxVolume)
include load room

/-- The stations and the bus before the judgement are those before the tick. -/
theorem flowTicked_beside : (s.flowTicked m).stations = s.stations ∧ (s.flowTicked m).bus = s.bus ∧
    (∀ st, (s.flowTicked m).station st = s.station st) := by
  have counts := flowTicked_counts load room
  exact ⟨counts.stations, counts.bus, fun st => by rw [State.station, counts.stations]; rfl⟩

/-- So are the entries. -/
theorem flowTicked_entryOwed (st : Fin 4) (a : Fin 8) : (s.flowTicked m).entryOwed st a = s.entryOwed st a := by
  obtain ⟨_, _, station⟩ := flowTicked_beside load room
  rw [State.entryOwed, station, State.entryOwed]

variable (meets : s.MeetsBoundary m l i b y r)
include meets

/-- The judgement of a line whose station is in service. -/
theorem tick_inService (service : (s.station y.counts.station).state = .idle ∨ (s.station y.counts.station).state = .changeover ∨
    (s.station y.counts.station).state = .shooting) :
    State.judgeLine (s.flowTicked m, false) (armOfMeter m) i =
      (((s.flowTicked m).modLine (armOfMeter m) i (State.advanceBoundary r.spacing)).placeShot (armOfMeter m) i y.counts.station
        l.data.number) := by
  have counts := flowTicked_counts load room
  obtain ⟨_, _, station⟩ := flowTicked_beside load room
  rw [judgeLine_inService counts.load (counts.lines ▸ meets.line) (counts.recipe ▸ meets.order) meets.boundary
    (by rw [counts.product]; exact meets.reached) meets.unskipped (by rw [counts.state, meets.full]; rfl)
    (by rw [State.inService, station]; rcases service with c | c | c <;> rw [c]),
    counts.number]

end Tick

end Sys2Proof.Machine
end

section
/-! PROOFS. Shot boundaries (R121 to R123). -/

namespace Sys2Proof.Machine

/-! ## The entries' own answers (R149) -/

/-- What entry 0 does at an event. -/
theorem entryAnswers_hit0 (l : Load) (ev : EventKind) :
    l.entryAnswers ev 0 l.data.flag0 (l.hit ev 0) (l.hit ev 0 && l.halts 0) := by
  constructor <;> simp only [Load.hit, Load.halts, Fin.val_zero, if_true]
  all_goals
    cases l.recipe.checkpoints[0]? with
    | none => simp
    | some e => simp [and_assoc]

/-- What entry 1 does at an event. -/
theorem entryAnswers_hit1 (l : Load) (ev : EventKind) :
    l.entryAnswers ev 1 l.data.flag1 (l.hit ev 1) (l.hit ev 1 && l.halts 1) := by
  constructor <;> simp only [Load.hit, Load.halts, Fin.val_one, show (1 : Fin 2) ≠ 0 by decide, if_false]
  all_goals
    cases l.recipe.checkpoints[1]? with
    | none => simp
    | some e => simp [and_assoc]

/-- The end of an event leaves the lines of an arm that waits for no shares or where the header stays. -/
theorem endEvent_lines {s0 u : State} {a : Fin 8} {k : Load} (there : u.load? a = some k)
    (calm : u.notListed a ∨ u.header = s0.header) :
    ∃ x, (State.endEvent s0 u).load? a = some x ∧ x.lines = k.lines := by
  have arm : (State.endEvent s0 u).arm a = if State.partsChanged s0 u a = true then (u.arm a).bumped else u.arm a := by
    rcases calm with unlisted | header
    · exact endEvent_arm s0 unlisted
    · rw [endEvent_of_header header, bumpRevisions_arm]
  have held : (u.arm a).load = some k := there
  rw [State.load?, arm]
  split
  · exact ⟨k.bump, by rw [Arm.bumped, held]; rfl, rfl⟩
  · exact ⟨k, held, rfl⟩

/-- A line that has met its boundary. -/
theorem fallen_eq {y : Line} {b : Nat} (spacing : Nat) (f : LineRecord → LineRecord) (boundary : y.nextBoundary = some b) :
    y.fallen spacing f = { y with nextBoundary := some (b + spacing), counts := f y.counts } := by
  simp [Line.fallen, Line.modCounts, State.advanceBoundary, boundary]

section Tick

variable {m : Fin 16} {l : Load} {s : State} {i b : Nat} {y : Line} {r : RecipeLine} (enabled : (s.meter m).enable = true)
  (last : (s.meter m).divider ≤ 1) (load : s.load? (armOfMeter m) = some l) (room : l.data.product < Config.maxVolume)
  (meets : s.MeetsBoundary m l i b y r)
include enabled last load room meets

section InService

variable (service : (s.station y.counts.station).state = .idle ∨ (s.station y.counts.station).state = .changeover ∨
  (s.station y.counts.station).state = .shooting)
include service

/-- A new entry joins the tail. -/
theorem tick_newEntry (none_ : s.entryOwed y.counts.station (armOfMeter m) = 0) :
    ∃ k, (s.pulse m).load? (armOfMeter m) = some k ∧ ((s.pulse m).arm (armOfMeter m)).state = .full ∧
      k.lines[i]? = some (y.fallen r.spacing LineRecord.fallDue) ∧ k.data.revision = l.data.revision ∧
      s.pulse m = (s.fallen m i r.spacing LineRecord.fallDue).appendEntry y.counts.station
        { arm := armOfMeter m, load := l.data.number, line := i, owed := 1 } := by
  have own := tick_inService load room meets service
  rw [placeShot_new _ _ _ _ _ _ ((flowTicked_entryOwed load room _ _).trans none_)] at own
  have counts := flowTicked_counts load room
  have arms : ∀ c, ((s.fallen m i r.spacing LineRecord.fallDue).appendEntry y.counts.station
      { arm := armOfMeter m, load := l.data.number, line := i, owed := 1 }).arm c =
        (s.fallen m i r.spacing LineRecord.fallDue).arm c ∧
      ((s.fallen m i r.spacing LineRecord.fallDue).appendEntry y.counts.station
      { arm := armOfMeter m, load := l.data.number, line := i, owed := 1 }).header =
        (s.fallen m i r.spacing LineRecord.fallDue).header := fun c =>
    (aside_onStations c _).appendEntry _ _ ⟨rfl, rfl⟩
  obtain ⟨pulse, k, there, state, line, standing, _⟩ := tick_placed enabled last load room meets LineRecord.fallDue own
    (fun c => (arms c).1) ((arms 0).2.trans counts.header)
  rw [← pulse] at there state
  exact ⟨k, there, state, line, standing.revision, pulse⟩

/-- The entry in place advances. -/
theorem tick_moreOwed (some_ : s.entryOwed y.counts.station (armOfMeter m) ≠ 0)
    (few : s.entryOwed y.counts.station (armOfMeter m) < 3) :
    ∃ k, (s.pulse m).load? (armOfMeter m) = some k ∧ ((s.pulse m).arm (armOfMeter m)).state = .full ∧
      k.lines[i]? = some (y.fallen r.spacing LineRecord.fallDue) ∧
      (s.pulse m).station y.counts.station =
        { s.station y.counts.station with
          queue := (s.station y.counts.station).queue.map fun x =>
            if x.arm = armOfMeter m then { x with owed := x.owed + 1 } else x } ∧
      (s.pulse m).bus = s.bus ∧ k.data.revision = l.data.revision := by
  have own := tick_inService load room meets service
  have owed := flowTicked_entryOwed load room y.counts.station (armOfMeter m)
  rw [placeShot_more _ _ _ _ _ _ (by rw [owed]; exact some_) (by rw [owed]; exact few)] at own
  have counts := flowTicked_counts load room
  obtain ⟨_, bus, station⟩ := flowTicked_beside load room
  obtain ⟨pulse, k, there, state, line, standing, _⟩ := tick_placed enabled last load room meets LineRecord.fallDue own
    (fun _ => rfl) counts.header
  rw [← pulse] at there state
  refine ⟨k, there, state, line, ?_, ?_, standing.revision⟩
  · have same : ((s.flowTicked m).modLine (armOfMeter m) i (Line.fallen r.spacing LineRecord.fallDue)).station
        y.counts.station = s.station y.counts.station := station _
    rw [pulse, State.modStation_station_self, same]
  · rw [pulse]
    exact bus

variable (full : 3 ≤ s.entryOwed y.counts.station (armOfMeter m))
include full

omit enabled last in
/-- A shot missed for want of room fires SHOT_MISSED. -/
theorem tick_missed : State.judgeLine (s.flowTicked m, false) (armOfMeter m) i =
    (s.fallen m i r.spacing LineRecord.fallMissed, true) := by
  have own := tick_inService load room meets service
  rw [placeShot_full _ _ _ _ _ _ (by rw [flowTicked_entryOwed load room]; exact full)] at own
  exact own

/-- Without an entry for it that is all. -/
theorem tick_missed_silent (silent : ∀ c ∈ l.recipe.checkpoints, c.event ≠ .shotMissed) :
    ∃ k, (s.pulse m).load? (armOfMeter m) = some k ∧ ((s.pulse m).arm (armOfMeter m)).state = .full ∧
      k.lines[i]? = some (y.fallen r.spacing LineRecord.fallMissed) ∧ (s.pulse m).stations = s.stations ∧
      (s.pulse m).bus = s.bus ∧ k.data.revision = l.data.revision := by
  have own := tick_missed load room meets service full
  obtain ⟨stations, bus, _⟩ := flowTicked_beside load room
  obtain ⟨⟨n, arm⟩, others, standing, resume, product, line⟩ := fallen_arm load room meets LineRecord.fallMissed
  have there := congrArg Arm.load arm
  have pulse := tick_places enabled last load room meets LineRecord.fallMissed own fun _ => rfl
  rw [if_pos rfl, fireEvent_of_none there (by rw [standing.recipe]; exact silent),
    judgeVolume_of_silent there (by rw [standing.recipe, product]; exact meets.silent),
    endEvent_unmoved (u := s.fallen m i r.spacing LineRecord.fallMissed) load (flowTicked_counts load room).header others there
      (by rw [arm]) standing resume] at pulse
  rw [pulse]
  exact ⟨_, there, by rw [arm]; exact meets.full, line, stations, bus, standing.revision⟩

/-- The event for the load's entries. -/
theorem tick_missed_fires :
    (∃ k, s.eventFired (s.pulse m) (armOfMeter m) l k .full (l.hit .shotMissed 0) (l.hit .shotMissed 1)
      (l.hit .shotMissed 0 && l.halts 0) (l.hit .shotMissed 1 && l.halts 1)) ∧
    ∃ k, (s.pulse m).load? (armOfMeter m) = some k ∧
      k.lines[i]?.map Line.mark = some (y.fallen r.spacing LineRecord.fallMissed).mark := by
  have own := tick_missed load room meets service full
  obtain ⟨⟨n, arm⟩, others, standing, resume, product, line⟩ := fallen_arm load room meets LineRecord.fallMissed
  have there := congrArg Arm.load arm
  have counts := flowTicked_counts load room
  have header : (s.fallen m i r.spacing LineRecord.fallMissed).header = s.header := counts.header
  have state : ((s.fallen m i r.spacing LineRecord.fallMissed).arm (armOfMeter m)).state = .full := by rw [arm]; exact meets.full
  have pulse := tick_places enabled last load room meets LineRecord.fallMissed own fun _ => rfl
  obtain ⟨k, held, recipe, product', left_⟩ := fireEvent_leaves .shotMissed there (by rw [state]; exact nofun)
  rw [if_pos rfl, judgeVolume_of_silent held (by rw [recipe, product', standing.recipe, product]; exact meets.silent)] at pulse
  have finds : EventFinds s s (s.fallen m i r.spacing LineRecord.fallMissed) (armOfMeter m) l
      (l.fallen s m i r.spacing LineRecord.fallMissed) .full := by
    refine ⟨load, rfl, there, state, standing, fun _ => resume, fun p => ?_, counts.settings,
      fun v same _ => endEvent_of_header (same.trans header)⟩
    change ((s.flowTicked m).ports[portIndex p]) = _
    simp only [counts.ports]
    rfl
  obtain ⟨x, fired, _⟩ := finds.fires (entryAnswers_hit0 l .shotMissed) (entryAnswers_hit1 l .shotMissed)
    fun _ => .inr ⟨nofun, by rw [meets.full]; exact nofun⟩
  have marks : k.lines.map Line.mark = (l.fallen s m i r.spacing LineRecord.fallMissed).lines.map Line.mark := by
    rcases left_ with ⟨_, _, marks⟩ | ⟨_, lines, _⟩
    · exact marks
    · rw [lines]
  obtain ⟨z, after, lines⟩ := endEvent_lines (s0 := s) held (left_.imp (fun h => h.2.1) fun h => h.2.2.trans header)
  rw [pulse]
  refine ⟨⟨x, fired⟩, z, after, ?_⟩
  rw [lines, ← List.getElem?_map, marks, List.getElem?_map, line]
  rfl

end InService

section OutOfService

variable (out : (s.station y.counts.station).state = .off ∨ (s.station y.counts.station).state = .fault)
include out

omit enabled last in
/-- The judgement of a line whose station is out of service. -/
theorem tick_outOfService : State.judgeLine (s.flowTicked m, false) (armOfMeter m) i =
    (if r.required then
      ((s.fallen m i r.spacing LineRecord.fallMissed).addFault (armOfMeter m) fun f => { f with additiveFault := true }).cutFlush
        (armOfMeter m) .additiveFault
     else s.fallen m i r.spacing LineRecord.fallMissed, false) := by
  have counts := flowTicked_counts load room
  obtain ⟨_, _, station⟩ := flowTicked_beside load room
  rw [judgeLine_outOfService counts.load (counts.lines ▸ meets.line) (counts.recipe ▸ meets.order) meets.boundary
    (by rw [counts.product]; exact meets.reached) meets.unskipped (by rw [counts.state, meets.full]; rfl)
    (by rw [State.inService, station]; rcases out with c | c <;> rw [c])]
  unfold State.missOutOfService
  rw [modLine_modLine]
  rfl

/-- An optional line's shot is missed and no more. -/
theorem tick_optional (optional : r.required = false) :
    ∃ k, (s.pulse m).load? (armOfMeter m) = some k ∧ ((s.pulse m).arm (armOfMeter m)).state = .full ∧
      k.lines[i]? = some (y.fallen r.spacing LineRecord.fallMissed) ∧ (s.pulse m).stations = s.stations ∧
      (s.pulse m).bus = s.bus ∧ k.data.revision = l.data.revision ∧ k.data.faults = l.data.faults ∧
      k.data.flag0 = l.data.flag0 ∧ k.data.flag1 = l.data.flag1 := by
  have own := tick_outOfService load room meets out
  rw [optional] at own
  obtain ⟨stations, bus, _⟩ := flowTicked_beside load room
  obtain ⟨pulse, k, there, state, line, standing, faults⟩ := tick_placed enabled last load room meets LineRecord.fallMissed own
    (fun _ => rfl) (flowTicked_counts load room).header
  rw [if_neg (by decide)] at pulse there state
  rw [pulse]
  exact ⟨k, there, state, line, stations, bus, standing.revision, faults, standing.flag0, standing.flag1⟩

/-- The load with its fault. -/
def Load.additiveFaulted (l : Load) : Load :=
  { l with data := { l.data with faults := { l.data.faults with additiveFault := true } } }

/-- A required line's load enters a cut flush. -/
theorem tick_required (required : r.required = true) :
    ∃ k, (s.pulse m).load? (armOfMeter m) = some k ∧
      (s.pulse m).cutFlushed (armOfMeter m) l k (l.data.product + 1) (l.cutEnd (l.data.product + 1)) ∧ l.amendmentApplied k ∧
      k.data.faults = { l.data.faults with additiveFault := true } ∧ k.endDue = some (l.endDue.getD .additiveFault) ∧
      k.data.revision = (if 65535 ≤ l.data.revision then 1 else l.data.revision + 1) ∧
      ∃ z, k.lines[i]? = some z ∧ (y.fallen r.spacing LineRecord.fallMissed).Withdrawn z := by
  have own := tick_outOfService load room meets out
  rw [required, if_pos rfl] at own
  obtain ⟨⟨n, arm⟩, _, standing, _, product, line⟩ := fallen_arm load room meets LineRecord.fallMissed
  have marks := (flowTicked_counts load room).marks (.inl rfl)
  simp only [LoadData.marks, Prod.mk.injEq] at marks
  obtain ⟨-, -, -, -, -, faults, -⟩ := marks
  have faulted : ((s.fallen m i r.spacing LineRecord.fallMissed).addFault (armOfMeter m) fun f =>
      { f with additiveFault := true }).load? (armOfMeter m) =
        some (l.fallen s m i r.spacing LineRecord.fallMissed).additiveFaulted := load?_modLoad _ (congrArg Arm.load arm)
  generalize (s.fallen m i r.spacing LineRecord.fallMissed).addFault (armOfMeter m) (fun f =>
      { f with additiveFault := true }) = u at own faulted
  obtain ⟨pulse, before⟩ := tick_judges enabled last load room meets
  obtain ⟨unblended, judged⟩ := judged_cutFlush .additiveFault faulted
    (by
      change ∀ c ∈ (l.fallen s m i r.spacing LineRecord.fallMissed).recipe.checkpoints,
        c.event ≠ .atVolume (l.fallen s m i r.spacing LineRecord.fallMissed).data.product
      rw [standing.recipe, product]
      exact meets.silent)
  rw [judgeShots_of_one meets.low before own fun j _ => judgeLine_of_not_blending unblended false j, if_neg nofun,
    judged] at pulse
  obtain ⟨k, c, after, moved, cut, _⟩ := cutFlush_ends_due .additiveFault load faulted standing.number
    (by rw [meets.full]; exact nofun) (by rw [meets.full]; exact nofun)
  rw [← pulse] at after cut
  have end_ : (l.fallen s m i r.spacing LineRecord.fallMissed).additiveFaulted.cutEnd
      (l.fallen s m i r.spacing LineRecord.fallMissed).additiveFaulted.data.product = l.cutEnd (l.data.product + 1) := by
    change (l.fallen s m i r.spacing LineRecord.fallMissed).cutEnd (l.fallen s m i r.spacing LineRecord.fallMissed).data.product = _
    rw [product, Load.cutEnd, standing.recipe, standing.preset, standing.pending]
    rfl
  obtain ⟨z, there, withdrawn⟩ := moved.lines i _ line
  refine ⟨k, after, ?_, ?_, ?_, ?_, ?_, z, there, withdrawn⟩
  · rw [end_] at cut
    have at_ : (l.fallen s m i r.spacing LineRecord.fallMissed).additiveFaulted.data.product = l.data.product + 1 := product
    rw [at_] at cut
    exact ⟨standing.recipe ▸ cut.flush, cut.closing, cut.ethanol, cut.shares⟩
  · exact moved.amended.of_same standing.recipe standing.pending standing.preset standing.blendSpan standing.flushPoint
      standing.taperPoint standing.ethanolTarget
  · rw [moved.faults, ← faults]
    rfl
  · rw [moved.endDue]
    rfl
  · rw [moved.revision, ← standing.revision]
    rfl

end OutOfService

end Tick

/-- The entry that the arm has at a station. -/
theorem entryOwed_of_find {s : State} {st : Fin 4} {a : Fin 8} {e : QueueEntry}
    (found : (s.station st).queue.find? (fun e => e.arm == a) = some e) : s.entryOwed st a = e.owed := by
  rw [State.entryOwed, found]

/-- An arm without an entry. -/
theorem entryOwed_of_none {s : State} {st : Fin 4} {a : Fin 8} (none_ : ∀ e ∈ (s.station st).queue, e.arm ≠ a) :
    s.entryOwed st a = 0 := by
  rw [State.entryOwed, List.find?_eq_none.mpr fun e mem => by simpa using none_ e mem]

/-- Settles O43: the judgement of the line, then what its place at the station makes of the event. -/
theorem shotBoundaryPlacesShot : Obligations.ShotBoundaryPlacesShot := by
  unfold Obligations.ShotBoundaryPlacesShot
  rintro m _ l i b y r _ s enabled last rfl load full room away below unflushed untapered silent low line order rfl unskipped
    boundary reached others
  have meets : s.MeetsBoundary m l i b y r :=
    ⟨full, below, unflushed, untapered, away, silent, low, line, order, unskipped, boundary, reached, others⟩
  have due := fallen_eq r.spacing LineRecord.fallDue boundary
  have missed := fallen_eq r.spacing LineRecord.fallMissed boundary
  refine ⟨fun service => ⟨fun none_ => ?new, fun e found => ⟨fun some_ few => ?more, fun many => ⟨fun quiet => ?silent,
    fun c rest entries event => ?fires⟩⟩⟩, fun out => ⟨fun optional => ?optional, fun required => ?required⟩⟩
  case new =>
    obtain ⟨k, there, state, at_, revision, pulse⟩ := tick_newEntry enabled last load room meets service (entryOwed_of_none none_)
    obtain ⟨_, bus, station⟩ := flowTicked_beside load room
    have before : (s.fallen m i r.spacing LineRecord.fallDue).station y.counts.station = s.station y.counts.station := station _
    have requests : (s.fallen m i r.spacing LineRecord.fallDue).asksWith y.counts.station true = s.asksWith y.counts.station true := by
      funext j
      rw [State.asksWith, State.asksWith, show (s.fallen m i r.spacing LineRecord.fallDue).station j = s.station j from station j]
    have sameBus : (s.fallen m i r.spacing LineRecord.fallDue).bus = s.bus := bus
    obtain ⟨q, joined⟩ := appendEntry_station (s := s.fallen m i r.spacing LineRecord.fallDue) (st := y.counts.station)
      (e := { arm := armOfMeter m, load := l.data.number, line := i, owed := 1 })
    rw [← pulse, before] at joined
    refine ⟨_, k, rfl, there, state, at_.trans (congrArg some due), by rw [joined], by rw [joined], revision,
      fun idle empty => ?_⟩
    obtain ⟨busy, free⟩ := appendEntry_asks (s := s.fallen m i r.spacing LineRecord.fallDue) (st := y.counts.station)
      (e := { arm := armOfMeter m, load := l.data.number, line := i, owed := 1 }) (by rw [before]; exact idle)
      (by rw [before]; exact empty)
    rw [← pulse, sameBus] at busy free
    exact ⟨busy, fun none_ => requests ▸ (free none_).of_bus sameBus.symm⟩
  case more =>
    obtain ⟨k, there, state, at_, rest⟩ := tick_moreOwed enabled last load room meets service
      (by rw [entryOwed_of_find found]; omega) (by rw [entryOwed_of_find found]; exact few)
    exact ⟨_, k, rfl, there, state, at_.trans (congrArg some due), rest⟩
  case silent =>
    obtain ⟨k, there, state, at_, rest⟩ := tick_missed_silent enabled last load room meets service
      (by rw [entryOwed_of_find found]; exact many) quiet
    exact ⟨_, k, rfl, there, state, at_.trans (congrArg some missed), rest⟩
  case fires =>
    obtain ⟨⟨k, fired⟩, x, there, at_⟩ := tick_missed_fires enabled last load room meets service
      (by rw [entryOwed_of_find found]; exact many)
    obtain rfl := Option.some.inj (there.symm.trans fired.load)
    have hit : l.hit .shotMissed 0 = !l.data.flag0 := by simp [Load.hit, entries, event]
    refine ⟨_, x, rfl, there, ?_, ?_, fun halt clear => ?_⟩
    · rw [fired.flags.1, hit]
      cases l.data.flag0 <;> rfl
    · rw [missed] at at_
      obtain ⟨z, held, mark⟩ := Option.map_eq_some_iff.mp at_
      obtain ⟨boundary', counts'⟩ := Prod.mk.inj mark
      exact ⟨z, held, boundary', counts'⟩
    · have halts : (l.hit .shotMissed 0 && l.halts 0) = true := by simp [hit, clear, Load.halts, entries, halt]
      have some_ : ((l.hit .shotMissed 0 && l.halts 0) || (l.hit .shotMissed 1 && l.halts 1)) = true := by rw [halts]; rfl
      obtain ⟨_, _, _, _, resume, shares, _⟩ := fired.entered some_ nofun
      refine ⟨fired.halts some_, resume, ?_, shares⟩
      rw [fired.causes, halts, Bool.or_true]
  case optional =>
    obtain ⟨k, there, state, at_, rest⟩ := tick_optional enabled last load room meets out optional
    exact ⟨_, k, rfl, there, state, at_.trans (congrArg some missed), rest⟩
  case required =>
    obtain ⟨k, there, cut, amended, faults, endDue, revision, z, at_, withdrawn⟩ := tick_required enabled last load room meets out
      required
    rw [missed] at withdrawn
    exact ⟨_, k, rfl, there, cut, amended, faults, endDue, revision, z, at_, withdrawn.boundary, withdrawn.due,
      Nat.lt_of_succ_le withdrawn.missed⟩

end Sys2Proof.Machine
end

section
/-! PROOFS. A trim point (R57, R70 to R78). -/

namespace Sys2Proof.Machine

/-! ## The trim work (R78) -/

/-- What the trim work finds: the arm in a blending phase with the counted load, and nothing else changed since `s` that an
event's end looks at. -/
structure State.FindsTrim (s u : State) (a : Fin 8) (k : Load) (x : ArmState) (o : Nat) : Prop where
  arm : ∃ n, u.arm a = { s.arm a with state := x, mainOpening := o, noFlow := n, load := some k }
  others : ∀ b, b ≠ a → u.arm b = s.arm b
  header : u.header = s.header

/-- The load with the trim work done. -/
def Load.worked (k : Load) (s : State) (a : Fin 8) : Load := k.trimmed (s.arm a).ethanolOpening

/-- The state with the trim work done but for a ratio fault. -/
def State.worked (u : State) (a : Fin 8) (k : Load) : State :=
  ((u.modArm a fun x => { x with ethanolOpening := k.trimmedOpening x.ethanolOpening }).modLoad a fun y =>
    y.trimmed (u.arm a).ethanolOpening).appendTrace a .trim

section Work

variable {s u : State} {a : Fin 8} {k : Load} {x : ArmState} {o : Nat} (h : s.FindsTrim u a k x o)
include h

theorem State.FindsTrim.load : u.load? a = some k := by
  obtain ⟨n, arm⟩ := h.arm
  exact congrArg Arm.load arm

/-- The trim work ends in a cut flush where the alarm run has reached its count (R77). -/
theorem trimWork_eq : u.trimWork a =
    if k.recipe.alarmCount ≤ k.alarmRunAfter then
      ((u.worked a k).addFault a fun f => { f with ratioFault := true }).cutFlush a .ratioFault
    else u.worked a k := by
  simp only [State.trimWork, h.load]
  rfl

/-- The arm after the work. -/
theorem worked_arm : (∃ n, (u.worked a k).arm a =
      { s.arm a with
        state := x, mainOpening := o, ethanolOpening := k.trimmedOpening (s.arm a).ethanolOpening, noFlow := n
        load := some (k.worked s a) }) ∧
    (∀ b, b ≠ a → (u.worked a k).arm b = s.arm b) ∧ (u.worked a k).header = s.header := by
  obtain ⟨n, arm⟩ := h.arm
  have opening : (u.arm a).ethanolOpening = (s.arm a).ethanolOpening := by rw [arm]
  refine ⟨⟨n, ?_⟩, fun b ne => ?_, (appendTrace_header ..).trans h.header⟩
  · rw [State.worked, State.appendTrace_arm, State.modArm_modLoad, State.modArm_arm_self, opening, arm]
    rfl
  · rw [State.worked, State.appendTrace_arm, State.modLoad, State.modArm_arm_ne _ _ _ _ ne, State.modArm_arm_ne _ _ _ _ ne]
    exact h.others b ne

/-- The TRIM record is the last of the page. -/
theorem worked_record : ((u.worked a k).page a).records.getLast? =
    some
      { load := k.data.number, sequence := (u.page a).nextSequence, cause := .trim, armState := x, product := k.data.product
        gasoline := k.data.gasoline, ethanol := k.data.ethanol, mainOpening := o
        ethanolOpening := k.trimmedOpening (s.arm a).ethanolOpening, deviation := k.reportedDeviation
        sharesHeld := s.header.sharesOf a } := by
  obtain ⟨n, arm⟩ := h.arm
  have opening : (u.arm a).ethanolOpening = (s.arm a).ethanolOpening := by rw [arm]
  have after : ((u.modArm a fun x => { x with ethanolOpening := k.trimmedOpening x.ethanolOpening }).modLoad a fun y =>
      y.trimmed (u.arm a).ethanolOpening).arm a =
        { s.arm a with
          state := x, mainOpening := o, ethanolOpening := k.trimmedOpening (s.arm a).ethanolOpening, noFlow := n
          load := some (k.worked s a) } := by
    rw [State.modArm_modLoad, State.modArm_arm_self, opening, arm]
    rfl
  have header : ((u.modArm a fun x => { x with ethanolOpening := k.trimmedOpening x.ethanolOpening }).modLoad a fun y =>
      y.trimmed (u.arm a).ethanolOpening).header = s.header := h.header
  rw [State.worked, appendTrace_last (congrArg Arm.load after), after, header]
  rfl

end Work

/-! ## A trim point in FULL -/

/-- A trim point in FULL at which no line meets a boundary. -/
structure State.MeetsTrim (s : State) (m : Fin 16) (l : Load) : Prop where
  full : (s.arm (armOfMeter m)).state = .full
  silent : l.recipe.checkpoints = []
  above : ∀ x ∈ l.lines, ∀ b, x.nextBoundary = some b → l.data.product + 1 < b
  trims : l.nextTrim = some (l.data.product + 1)

section Tick

variable {m : Fin 16} {l : Load} {s : State} (enabled : (s.meter m).enable = true) (last : (s.meter m).divider ≤ 1)
  (load : s.load? (armOfMeter m) = some l) (room : l.data.product < Config.maxVolume) (meets : s.MeetsTrim m l)
include enabled last load room meets

/-- The event of a trim point. -/
theorem tick_trims : ∃ w L, s.Counts w m l L l.amendedData ∧ L.nextTrim = some (l.data.product + 1 + l.recipe.trimVolume) ∧
    s.pulse m = State.endEvent s
      (((if ((w.evaluatePoints (armOfMeter m)).arm (armOfMeter m)).state.isBlending = true then
        (w.evaluatePoints (armOfMeter m)).trimWork (armOfMeter m)
      else w.evaluatePoints (armOfMeter m)).judgeShots (armOfMeter m)).judgeVolume (armOfMeter m)) := by
  obtain ⟨L, counts, next⟩ := trimStarted_counts load room
  refine ⟨_, L, counts, next, ?_⟩
  rw [pulse_flow enabled last load (by rw [meets.full]; rfl),
    flowSteps_of_trim load room ⟨by rw [meets.full]; rfl, meets.trims⟩]

/-- V at the preset, a pending amendment applied. -/
theorem trim_closes (ended : l.amendedData.preset ≤ l.data.product + 1) :
    ∃ k, (s.pulse m).load? (armOfMeter m) = some k ∧ ((s.pulse m).arm (armOfMeter m)).state = .closing ∧
      (s.pulse m).closingBegun (armOfMeter m) ∧ l.amendmentApplied k ∧ k.endDue = l.endDue ∧ k.data.faults = l.data.faults ∧
      k.data.revision = (if 65535 ≤ l.data.revision then 1 else l.data.revision + 1) := by
  obtain ⟨w, L, counts, _, pulse⟩ := tick_trims enabled last load room meets
  have closing := enterClosing_state counts.load
  rw [counts.evaluate_closes (.inl ended), if_neg (by rw [closing]; exact nofun), judged_of_closing closing] at pulse
  obtain ⟨k, ends, begun, amended⟩ := counts.endsClosing load (.inr rfl) (by rw [meets.full]; exact nofun)
  obtain ⟨_, _, faults, _, endDue, revision⟩ := counts.moved_marks (.inr rfl) ends.moved
  rw [pulse]
  exact ⟨k, ends.load, ends.state, begun, amended, endDue, faults, revision⟩

/-- V at the flush point. -/
theorem trim_flushes (below : l.data.product + 1 < l.amendedData.preset)
    (reached : l.amendedData.flushPoint ≤ l.data.product + 1) :
    ∃ k, (s.pulse m).load? (armOfMeter m) = some k ∧ ((s.pulse m).arm (armOfMeter m)).state = .flush ∧
      ((s.pulse m).arm (armOfMeter m)).mainOpening = l.recipe.taperEndOpening ∧
      ((s.pulse m).arm (armOfMeter m)).ethanolOpening = 0 ∧ (s.pulse m).header.sharesOf (armOfMeter m) = 0 ∧
      k.flushEnd = some l.amendedData.preset ∧ k.flushKind = some .ordered ∧ l.amendmentApplied k ∧ k.endDue = l.endDue ∧
      k.data.faults = l.data.faults ∧ k.data.revision = (if 65535 ≤ l.data.revision then 1 else l.data.revision + 1) := by
  obtain ⟨w, L, counts, _, pulse⟩ := tick_trims enabled last load room meets
  obtain ⟨out, judged⟩ := judged_enterFlush .ordered counts.load (by rw [counts.recipe]; exact meets.silent)
  rw [counts.evaluate_flushes below (by rw [meets.full]; rfl) reached, if_neg (by simp [out]), judged] at pulse
  obtain ⟨_, number⟩ := counts.before load (.inr rfl)
  have entry : L.entryEnd .ordered = l.amendedData.preset := by
    rw [Load.entryEnd, counts.pending, amendedData_pending, counts.preset]
    rfl
  obtain ⟨k, ends⟩ := endsFlush_of_enter load counts.load number .ordered (by rw [counts.product, entry]; exact below)
    (by rw [meets.full]; exact nofun)
  obtain ⟨_, _, faults, _, endDue, revision⟩ := counts.moved_marks (.inr rfl) ends.moved
  rw [pulse]
  exact ⟨k, ends.load, ends.state, by rw [ends.main, counts.recipe], ends.ethanol, ends.shares, by rw [ends.flushEnd, entry],
    ends.flushKind, counts.amended (.inr rfl) ends.moved.amended, endDue, faults, revision⟩

/-- V below the points: the trim work follows, in FULL or in TAPER. -/
theorem tick_works (below : l.data.product + 1 < l.amendedData.preset) (unflushed : l.data.product + 1 < l.amendedData.flushPoint) :
    ∃ u L L' x o, s.FindsTrim u (armOfMeter m) L' x o ∧
      (∃ w, s.Counts w m l L l.amendedData) ∧ L.nextTrim = some (l.data.product + 1 + l.recipe.trimVolume) ∧
      L' = { L with taperCeiling := L'.taperCeiling } ∧
      (l.data.product + 1 < l.amendedData.taperPoint → x = .full ∧ o = (s.arm (armOfMeter m)).mainOpening ∧
        L'.taperCeiling = l.taperCeiling ∧ u.pages = s.pages) ∧
      (l.amendedData.taperPoint ≤ l.data.product + 1 → x = .taper ∧
        l.recipe.taperStepTaken l.amendedData.taperPoint (l.data.product + 1) (s.arm (armOfMeter m)).mainOpening o ∧
        L'.taperCeiling = some (l.taperCeiling.getD (s.arm (armOfMeter m)).mainOpening)) ∧
      s.pulse m = State.endEvent s (((u.trimWork (armOfMeter m)).judgeShots (armOfMeter m)).judgeVolume (armOfMeter m)) := by
  obtain ⟨w, L, counts, next, pulse⟩ := tick_trims enabled last load room meets
  have evaluated := counts.evaluate_below below (by rw [meets.full]; exact nofun) fun _ => unflushed
  rw [meets.full, State.phaseStep] at evaluated
  by_cases tapers : l.amendedData.taperPoint ≤ l.data.product + 1
  · have tapered := counts.tapered_arm
    have silent : (State.Counts.tapered w m L).fireIfFirst (armOfMeter m) l.taperCeiling.isNone = State.Counts.tapered w m L := by
      rw [State.fireIfFirst, fireEvent_of_none (congrArg Arm.load tapered)
        (by change ∀ c ∈ L.recipe.checkpoints, _; rw [counts.recipe, meets.silent]; simp), ite_self]
    rw [if_pos (decide_eq_true tapers), counts.enterTaperFromRun_eq, silent] at evaluated
    rw [evaluated, if_pos (by rw [tapered]; rfl)] at pulse
    obtain ⟨n, arm⟩ := counts.arm
    refine ⟨_, L, { L with taperCeiling := some (l.taperCeiling.getD (s.arm (armOfMeter m)).mainOpening) }, .taper,
      L.taperStepped (s.arm (armOfMeter m)).mainOpening, ⟨⟨w.noFlowStart, ?_⟩, fun b ne => ?_, ?_⟩,
      ⟨w, counts⟩, next, rfl, fun low => absurd tapers (by omega), fun _ => ⟨rfl, counts.taperStepTaken _, rfl⟩, pulse⟩
    · rw [tapered, State.Counts.toTaper, arm]
    · rw [State.Counts.tapered, State.appendTrace_arm, State.modLoad, State.modArm_arm_ne _ _ _ _ ne,
        State.modArm_arm_ne _ _ _ _ ne]
      exact counts.others b ne
    · exact (appendTrace_header ..).trans counts.header
  · rw [if_neg (by simpa using tapers)] at evaluated
    rw [evaluated, if_pos (by rw [counts.state, meets.full]; rfl)] at pulse
    obtain ⟨n, arm⟩ := counts.arm
    exact ⟨w, L, L, .full, _, ⟨⟨n, by rw [arm, ← meets.full]⟩, counts.others, counts.header⟩, ⟨w, counts⟩, next, rfl,
      fun _ => ⟨rfl, rfl, counts.taperCeiling, counts.pages⟩, fun reached => absurd reached tapers, pulse⟩

end Tick

/-! ## What the work leaves of the load -/

section Load

variable {s w : State} {m : Fin 16} {l L L' : Load} (counts : s.Counts w m l L l.amendedData)
  (rest : L' = { L with taperCeiling := L'.taperCeiling })
include counts rest

/-- The scaled deviation that the work finds (R73). -/
theorem work_deviation : L'.scaledDeviation =
    ((l.data.ethanol + m.val % 2 : Nat) : Int) * l.amendedData.blendSpan -
      (l.amendedData.ethanolTarget : Int) * (((l.data.product + 1 : Nat) : Int) - l.recipe.primeVolume) := by
  have same : L'.scaledDeviation = L.scaledDeviation := by rw [rest]; rfl
  rw [same, Load.scaledDeviation, counts.data, counts.recipe]
  rfl

/-- The recipe, the span and the alarm run that it finds. -/
theorem work_finds : L'.recipe = l.recipe ∧ L'.data.blendSpan = l.amendedData.blendSpan ∧ L'.alarmRun = l.alarmRun ∧
    L'.data = L.data ∧ L'.lines = l.lines ∧ L'.resume = l.resume ∧ L'.endDue = l.endDue := by
  rw [rest]
  exact ⟨counts.recipe, counts.standing.blendSpan, by rw [counts.rest], rfl, counts.lines, counts.resume, counts.endDue⟩

/-- The alarm run that it leaves (R76). -/
theorem work_alarmRun : L'.alarmRunAfter =
    if l.recipe.alarmLimit * l.amendedData.blendSpan < L'.scaledDeviation.natAbs then l.alarmRun + 1 else 0 := by
  obtain ⟨recipe, span, run, _⟩ := work_finds counts rest
  rw [Load.alarmRunAfter, recipe, span, run]
  norm_cast

/-- The ethanol opening that it sets (R75). -/
theorem work_opening (o : Nat) : L'.trimmedOpening o =
    if L'.scaledDeviation < -((l.recipe.deadband * l.amendedData.blendSpan : Nat) : Int) then min 255 (o + l.recipe.trimStep)
    else if ((l.recipe.deadband * l.amendedData.blendSpan : Nat) : Int) < L'.scaledDeviation then o - l.recipe.trimStep
    else o := by
  obtain ⟨recipe, span, _⟩ := work_finds counts rest
  rw [Load.trimmedOpening, recipe, span]
  push_cast
  rfl

/-- An amendment applied to it is applied to the load. -/
theorem work_amended {k : Load} (applied : L'.amendmentApplied k) : l.amendmentApplied k := by
  rw [rest] at applied
  exact counts.amended (.inr rfl) (applied.of_same (l := L) rfl rfl rfl rfl rfl rfl rfl)

end Load

end Sys2Proof.Machine
end

section
/-! PROOFS. The outcomes of a trim point (R57, R70 to R78). -/

namespace Sys2Proof.Machine

/-- A load with another revision. -/
def Load.revised (k : Load) (n : Nat) : Load := { k with data := { k.data with revision := n } }

/-- A load with RATIO_FAULT in its fault set. -/
def Load.ratioFaulted (k : Load) : Load :=
  { k with data := { k.data with faults := { k.data.faults with ratioFault := true } } }

section Tick

variable {m : Fin 16} {l : Load} {s : State}

/-- The event of the trim work advances the revision where an amendment was applied or the arm has moved. -/
theorem worked_event {u w : State} {L L' : Load} {x : ArmState} {o : Nat} (load : s.load? (armOfMeter m) = some l)
    (full : (s.arm (armOfMeter m)).state = .full) (h : s.FindsTrim u (armOfMeter m) L' x o)
    (counts : s.Counts w m l L l.amendedData) (rest : L' = { L with taperCeiling := L'.taperCeiling }) :
    ∃ n, (State.endEvent s (u.worked (armOfMeter m) L')).arm (armOfMeter m) =
      { s.arm (armOfMeter m) with
        state := x, mainOpening := o, ethanolOpening := L'.trimmedOpening (s.arm (armOfMeter m)).ethanolOpening, noFlow := n
        load := some ((L'.worked s (armOfMeter m)).revised
          (if x ≠ .full ∨ l.data.pending ≠ none then (if 65535 ≤ l.data.revision then 1 else l.data.revision + 1)
           else l.data.revision)) } ∧
      (State.endEvent s (u.worked (armOfMeter m) L')).header = s.header ∧
      (State.endEvent s (u.worked (armOfMeter m) L')).page (armOfMeter m) = (u.worked (armOfMeter m) L').page (armOfMeter m) := by
  obtain ⟨⟨n, arm⟩, others, header⟩ := worked_arm h
  obtain ⟨_, _, _, data, _, resume, _⟩ := work_finds counts rest
  have marks := counts.marks (.inr rfl)
  simp only [LoadData.marks, Prod.mk.injEq] at marks
  obtain ⟨number, revision, flag0, flag1, causes, -, -⟩ := marks
  have there : (u.worked (armOfMeter m) L').load? (armOfMeter m) = some (L'.worked s (armOfMeter m)) := congrArg Arm.load arm
  have workData : (L'.worked s (armOfMeter m)).data = { L.data with deviation := L'.reportedDeviation } := by
    rw [← data]; rfl
  have changed : State.partsChanged s (u.worked (armOfMeter m) L') (armOfMeter m) = true ↔
      (x ≠ .full ∨ l.data.pending ≠ none) := by
    have pending : L.data.pending = none := counts.pending.trans (amendedData_pending l)
    rw [partsChanged_of_loads load there (by rw [workData]; exact number), arm, full, workData,
      show (L'.worked s (armOfMeter m)).resume = l.resume from resume]
    simp only [pending, causes, flag0, flag1, counts.preset, true_and, and_true, Bool.not_eq_true', decide_eq_false_iff_not]
    by_cases moved : x = .full
    · cases unpended : l.data.pending with
      | none =>
        have same : l.amendedData = l.data := by rw [Load.amendedData, unpended]
        simp [moved, same]
      | some q => simp [moved]
    · simp [moved]
  have bumped : ((L'.worked s (armOfMeter m))).data.revision = l.data.revision := by rw [workData]; exact revision
  have event := endEvent_of_one header others
  refine ⟨n, ?_, ?_, ?_⟩
  · rw [event]
    by_cases due : x ≠ .full ∨ l.data.pending ≠ none
    · rw [if_pos (changed.mpr due), if_pos due, State.modLoad, State.modArm_arm_self, arm, ← bumped]
      rfl
    · rw [if_neg fun c => due (changed.mp c), if_neg due, arm, ← bumped]
      rfl
  · rw [event]
    split
    · exact header
    · exact header
  · rw [event]
    split <;> rfl

variable (enabled : (s.meter m).enable = true) (last : (s.meter m).divider ≤ 1)
  (load : s.load? (armOfMeter m) = some l) (room : l.data.product < Config.maxVolume) (meets : s.MeetsTrim m l)
  (below : l.data.product + 1 < l.amendedData.preset) (unflushed : l.data.product + 1 < l.amendedData.flushPoint)
  {dev : Int} (deviation : dev = ((l.data.ethanol + m.val % 2 : Nat) : Int) * l.amendedData.blendSpan -
      (l.amendedData.ethanolTarget : Int) * (((l.data.product + 1 : Nat) : Int) - l.recipe.primeVolume))
include enabled last load room meets below unflushed deviation

/-- Below the points and the alarm count the trim work is all. -/
theorem trim_works
    (quiet : ¬ l.recipe.alarmCount ≤ if l.recipe.alarmLimit * l.amendedData.blendSpan < dev.natAbs then l.alarmRun + 1 else 0) :
    ∃ k, (s.pulse m).load? (armOfMeter m) = some k ∧
      ((s.pulse m).arm (armOfMeter m)).state = (if l.amendedData.taperPoint ≤ l.data.product + 1 then .taper else .full) ∧
      (l.data.product + 1 < l.amendedData.taperPoint →
        ((s.pulse m).arm (armOfMeter m)).mainOpening = (s.arm (armOfMeter m)).mainOpening ∧ k.taperCeiling = l.taperCeiling) ∧
      (l.amendedData.taperPoint ≤ l.data.product + 1 →
        l.recipe.taperStepTaken l.amendedData.taperPoint (l.data.product + 1) (s.arm (armOfMeter m)).mainOpening
          ((s.pulse m).arm (armOfMeter m)).mainOpening ∧
        k.taperCeiling = some (l.taperCeiling.getD (s.arm (armOfMeter m)).mainOpening)) ∧
      ((s.pulse m).arm (armOfMeter m)).ethanolOpening =
        (if dev < -((l.recipe.deadband * l.amendedData.blendSpan : Nat) : Int) then
          min 255 ((s.arm (armOfMeter m)).ethanolOpening + l.recipe.trimStep)
         else if ((l.recipe.deadband * l.amendedData.blendSpan : Nat) : Int) < dev then
          (s.arm (armOfMeter m)).ethanolOpening - l.recipe.trimStep
         else (s.arm (armOfMeter m)).ethanolOpening) ∧
      l.amendmentApplied k ∧ k.data.deviation = Int.tdiv dev l.amendedData.blendSpan ∧
      k.ethanolLastUsed = some ((s.pulse m).arm (armOfMeter m)).ethanolOpening ∧
      k.alarmRun = (if l.recipe.alarmLimit * l.amendedData.blendSpan < dev.natAbs then l.alarmRun + 1 else 0) ∧
      k.nextTrim = some (l.data.product + 1 + l.recipe.trimVolume) ∧
      k.data.revision =
        (if l.amendedData.taperPoint ≤ l.data.product + 1 ∨ l.data.pending ≠ none then
          (if 65535 ≤ l.data.revision then 1 else l.data.revision + 1)
         else l.data.revision) ∧
      (s.pulse m).header = s.header ∧
      ∃ q, (l.data.product + 1 < l.amendedData.taperPoint → q = (s.page (armOfMeter m)).nextSequence) ∧
        ((s.pulse m).page (armOfMeter m)).records.getLast? =
          some
            { load := l.data.number
              sequence := q
              cause := .trim
              armState := ((s.pulse m).arm (armOfMeter m)).state
              product := l.data.product + 1
              gasoline := l.data.gasoline + (1 - m.val % 2)
              ethanol := l.data.ethanol + m.val % 2
              mainOpening := ((s.pulse m).arm (armOfMeter m)).mainOpening
              ethanolOpening := ((s.pulse m).arm (armOfMeter m)).ethanolOpening
              deviation := k.data.deviation
              sharesHeld := s.header.sharesOf (armOfMeter m) } := by
  obtain ⟨u, L, L', x, o, finds, ⟨w, counts⟩, next, rest, runs, tapers, pulse⟩ :=
    tick_works enabled last load room meets below unflushed
  obtain ⟨recipe, span, _, data, lines, _, _⟩ := work_finds counts rest
  have scaled := (work_deviation counts rest).trans deviation.symm
  have alarm := work_alarmRun counts rest
  have opening := work_opening counts rest (s.arm (armOfMeter m)).ethanolOpening
  rw [scaled] at alarm opening
  obtain ⟨⟨n0, arm0⟩, _, _⟩ := worked_arm finds
  have there := congrArg Arm.load arm0
  have quiet_ : (L'.worked s (armOfMeter m)).Quiet := by
    refine Load.quiet_of_above ?_
    change ∀ x ∈ L'.lines, ∀ b, x.nextBoundary = some b → L'.data.product < b
    rw [lines, data, counts.product]
    exact meets.above
  have recipe_ : (L'.worked s (armOfMeter m)).recipe = l.recipe := recipe
  rw [trimWork_eq finds, recipe, alarm, if_neg quiet, judgeShots_of_quiet there quiet_,
    judgeVolume_of_silent there (by rw [recipe_, meets.silent]; simp)] at pulse
  obtain ⟨n, arm, header, page⟩ := worked_event load meets.full finds counts rest
  have record := worked_record finds
  rw [← page] at record
  rw [← pulse] at arm header record
  have moved : x ≠ .full ↔ l.amendedData.taperPoint ≤ l.data.product + 1 := by
    constructor
    · intro moved
      by_contra low
      exact moved (runs (by omega)).1
    · intro reached
      rw [(tapers reached).1]
      exact nofun
  have pending : L'.data.pending = none := by rw [data]; exact counts.pending.trans (amendedData_pending l)
  have none_ : L'.amendedData = L'.data := by rw [Load.amendedData, pending]
  have applied : ∀ n, L'.amendmentApplied ((L'.worked s (armOfMeter m)).revised n) := fun n =>
    ⟨pending, by rw [none_]; rfl, by rw [none_]; rfl, by rw [none_]; rfl, by rw [none_]; rfl, by rw [none_]; rfl⟩
  have reported : L'.reportedDeviation = Int.tdiv dev l.amendedData.blendSpan := by rw [Load.reportedDeviation, scaled, span]
  refine ⟨_, congrArg Arm.load arm, ?_, fun low => ?_, fun reached => ?_, ?_, work_amended counts rest (applied _), reported, ?_,
    alarm, ?_, ?_, header, (u.page (armOfMeter m)).nextSequence, fun low => ?_, ?_⟩
  · rw [arm]
    by_cases reached : l.amendedData.taperPoint ≤ l.data.product + 1
    · rw [if_pos reached]
      exact (tapers reached).1
    · rw [if_neg reached]
      exact (runs (by omega)).1
  · obtain ⟨_, main, ceiling, _⟩ := runs low
    rw [arm]
    exact ⟨main, ceiling⟩
  · obtain ⟨_, main, ceiling⟩ := tapers reached
    rw [arm]
    exact ⟨main, ceiling⟩
  · rw [arm]
    exact opening
  · rw [arm]
    rfl
  · change L'.nextTrim = _
    rw [rest]
    exact next
  · change (if x ≠ .full ∨ l.data.pending ≠ none then _ else _) = _
    simp only [moved]
  · obtain ⟨_, _, _, pages⟩ := runs low
    rw [State.page, pages]
    rfl
  · have marks := counts.marks (.inr rfl)
    simp only [LoadData.marks, Prod.mk.injEq] at marks
    obtain ⟨number, -⟩ := marks
    rw [record, arm, data, number, counts.data]
    rfl

/-- An alarm run that reaches its count ends the blending. -/
theorem trim_faults (exceeds : l.recipe.alarmLimit * l.amendedData.blendSpan < dev.natAbs)
    (reached : l.recipe.alarmCount ≤ l.alarmRun + 1) :
    ∃ k, (s.pulse m).load? (armOfMeter m) = some k ∧
      (s.pulse m).cutFlushed (armOfMeter m) l k (l.data.product + 1)
        (min (l.data.product + 1 + l.recipe.flushVolume) l.amendedData.preset) ∧ l.amendmentApplied k ∧
      k.data.faults = { l.data.faults with ratioFault := true } ∧ k.endDue = some (l.endDue.getD .ratioFault) ∧
      k.data.deviation = Int.tdiv dev l.amendedData.blendSpan ∧
      k.data.revision = (if 65535 ≤ l.data.revision then 1 else l.data.revision + 1) := by
  obtain ⟨u, L, L', x, o, finds, ⟨w, counts⟩, next, rest, runs, tapers, pulse⟩ :=
    tick_works enabled last load room meets below unflushed
  obtain ⟨recipe, span, _, data, lines, _, endDue⟩ := work_finds counts rest
  have scaled := (work_deviation counts rest).trans deviation.symm
  have alarm := work_alarmRun counts rest
  rw [scaled, if_pos exceeds] at alarm
  obtain ⟨⟨n0, arm0⟩, _, _⟩ := worked_arm finds
  have faulted : ((u.worked (armOfMeter m) L').addFault (armOfMeter m) fun f => { f with ratioFault := true }).load?
      (armOfMeter m) = some ((L'.worked s (armOfMeter m)).ratioFaulted) := load?_modLoad _ (congrArg Arm.load arm0)
  have recipe_ : (L'.worked s (armOfMeter m)).ratioFaulted.recipe = l.recipe := recipe
  obtain ⟨unblended, judged⟩ := judged_cutFlush .ratioFault faulted (by rw [recipe_, meets.silent]; simp)
  have marks := counts.marks (.inr rfl)
  simp only [LoadData.marks, Prod.mk.injEq] at marks
  obtain ⟨number, revision, -, -, -, faults, -⟩ := marks
  rw [← data] at number revision faults
  rw [trimWork_eq finds, recipe, alarm, if_pos reached, judgeShots_of_not_blending unblended, judged] at pulse
  obtain ⟨k, c, after, moved, cut, _⟩ := cutFlush_ends_due .ratioFault load faulted number
    (by rw [meets.full]; exact nofun) (by rw [meets.full]; exact nofun)
  rw [← pulse] at after cut
  have product : L'.data.product = l.data.product + 1 := by rw [data, counts.product]
  have end_ : (L'.worked s (armOfMeter m)).ratioFaulted.cutEnd (L'.worked s (armOfMeter m)).ratioFaulted.data.product =
      min (l.data.product + 1 + l.recipe.flushVolume) l.amendedData.preset := by
    change L'.cutEnd L'.data.product = _
    rw [Load.cutEnd, product, recipe, data, counts.preset, counts.pending, amendedData_pending, Option.getD_none, min_assoc,
      min_self]
  refine ⟨k, after, ?_, ?_, ?_, ?_, ?_, ?_⟩
  · rw [end_] at cut
    have at_ : (L'.worked s (armOfMeter m)).ratioFaulted.data.product = l.data.product + 1 := product
    rw [at_] at cut
    exact ⟨recipe ▸ cut.flush, cut.closing, cut.ethanol, cut.shares⟩
  · exact work_amended counts rest (moved.amended.of_same (l := L') rfl rfl rfl rfl rfl rfl rfl)
  · rw [moved.faults, ← faults]
    rfl
  · rw [moved.endDue, ← endDue]
    rfl
  · rw [moved.deviation, ← span, ← scaled]
    rfl
  · rw [moved.revision, ← revision]
    rfl

end Tick

/-- Settles O42: the points on the amended preset, then the trim work by its alarm run. -/
theorem trimPointTrims : Obligations.TrimPointTrims := by
  unfold Obligations.TrimPointTrims
  rintro m _ l _ _ dev _ s enabled last rfl rfl load full room rfl silent above trims rfl deviation
  have meets : s.MeetsTrim m l := ⟨full, silent, above, trims⟩
  refine ⟨fun ended => ?closes, fun below reached => ?flushes, fun below unflushed low few => ?works,
    fun below unflushed exceeds reached => ?faults⟩
  case closes =>
    obtain ⟨k, outcome⟩ := trim_closes enabled last load room meets ended
    exact ⟨_, k, rfl, outcome⟩
  case flushes =>
    obtain ⟨k, outcome⟩ := trim_flushes enabled last load room meets below reached
    exact ⟨_, k, rfl, outcome⟩
  case works =>
    obtain ⟨k, outcome⟩ := trim_works enabled last load room meets below unflushed deviation (by
      split
      · rename_i exceeds
        exact Nat.not_le.mpr (few exceeds)
      · rename_i within
        exact Nat.not_le.mpr (low (Nat.not_lt.mp within)))
    exact ⟨_, k, rfl, outcome⟩
  case faults =>
    obtain ⟨k, outcome⟩ := trim_faults enabled last load room meets below unflushed deviation exceeds reached
    exact ⟨_, k, rfl, outcome⟩

end Sys2Proof.Machine
end

section
/-! PROOFS. The end of a transaction whose outcome leaves the arms (R133, R136, R138, R139). -/

namespace Sys2Proof.Machine

/-! ## The bus handed on -/

/-- The arbiter leaves what stations and the bus have no part in. -/
theorem arbitrate_kept {β : Type} (g : State → β) (station : ∀ s st f, g (State.modStation s st f) = g s)
    (bus : ∀ (s : State) x, g { s with bus := x } = g s) (s : State) : g s.arbitrate = g s :=
  OnStations.arbitrate (P := fun t => g t = g s) ⟨fun _ _ k => (station _ _ _).trans k, fun _ k => (bus _ _).trans k⟩ rfl

/-- The state with the bus free. -/
def State.freed (s : State) : State := { s with bus := { s.bus with txn := none } }

/-- A freed bus goes to the next station asking. -/
theorem freed_handsOn {s u : State} (pointer : u.bus.pointer = s.bus.pointer) :
    s.busHandedOn u.freed.arbitrate fun k => (u.station k).request :=
  State.arbitrate_handsOn (s := s) (u := u.freed) (by rw [← pointer]; rfl)

/-- An outcome that leaves arms and header is followed by no serving and no revision. -/
theorem endTxn_quiet {s u : State} {x : Txn} {r : Option Reply} (outcome : s.outcome x r = u) (arms : u.arms = s.arms)
    (header : u.header = s.header) : s.endTxn x r = u.freed.arbitrate := by
  have same : ∀ b, u.arm b = s.arm b := fun b => by rw [State.arm, arms]; rfl
  have event : State.endEvent s u = u := by
    rw [endEvent_of_one (a := 0) header fun b _ => same b, partsChanged_of_arm (same 0), if_neg nofun]
  unfold State.endTxn
  rw [outcome, event]
  rfl

/-- What the end of a quiet outcome leaves. -/
structure State.EndsQuietly (s u t : State) : Prop where
  station : ∀ k, ∃ q, t.station k = { u.station k with request := q }
  arms : t.arms = s.arms
  header : t.header = s.header
  ports : t.ports = u.ports
  handed : s.busHandedOn t fun k => (u.station k).request

/-- Such an end. -/
theorem endTxn_endsQuietly {s u : State} {x : Txn} {r : Option Reply} (outcome : s.outcome x r = u) (arms : u.arms = s.arms)
    (header : u.header = s.header) (pointer : u.bus.pointer = s.bus.pointer) : s.EndsQuietly u (s.endTxn x r) := by
  rw [endTxn_quiet outcome arms header]
  exact ⟨arbitrate_station u.freed, (arbitrate_kept State.arms (fun _ _ _ => rfl) (fun _ _ => rfl) u.freed).trans arms,
    (arbitrate_kept State.header (fun _ _ _ => rfl) (fun _ _ => rfl) u.freed).trans header,
    arbitrate_kept State.ports (fun _ _ _ => rfl) (fun _ _ => rfl) u.freed, freed_handsOn pointer⟩

/-! ## A reply accepted (R133, R137) -/

/-- A reply accepted leaves what stations and ports have no part in. -/
theorem acceptReply_kept {β : Type} (g : State → β) (station : ∀ s st f, g (State.modStation s st f) = g s)
    (port : ∀ s p f, g (State.modPort s p f) = g s) (s : State) (st : Fin 4) (low : Bool) :
    g (s.acceptReply st low) = g s := by
  unfold State.acceptReply
  dsimp only
  split
  · exact (raise_kept g port ..).trans (station ..)
  · exact station ..

/-- The stations after it. -/
theorem acceptReply_station (s : State) (st : Fin 4) (low : Bool) (k : Fin 4) :
    (s.acceptReply st low).station k = if k = st then { s.station k with failures := 0, lowLevel := low } else s.station k := by
  have set : (s.modStation st fun x => { x with failures := 0, lowLevel := low }).station k =
      if k = st then { s.station k with failures := 0, lowLevel := low } else s.station k := by
    split
    · rename_i own
      subst own
      exact State.modStation_station_self s k fun x => { x with failures := 0, lowLevel := low }
    · rename_i other
      exact State.modStation_station_ne s st (fun x => { x with failures := 0, lowLevel := low }) k other
  unfold State.acceptReply
  dsimp only
  split
  · exact (raise_kept (fun t => t.station k) (fun _ _ _ => rfl) ..).trans set
  · exact set

/-- It answers no port. -/
theorem acceptReply_answer (s : State) (st : Fin 4) (low : Bool) (p : Port) :
    ((s.acceptReply st low).port p).answer = (s.port p).answer := by
  unfold State.acceptReply
  dsimp only
  split
  · exact raise_answer ..
  · rfl

/-! ## RESTORE STATION (R136) -/

/-- The response to a pending restore. -/
theorem answerRestore_eq {s : State} {st : Fin 4} {q : Port} (pending : (s.station st).restore = some q)
    (reply : Option ReplyState) :
    s.answerRestore st reply =
      (s.modStation st fun x => { x with restore := none }).respond q (okay (.restored (s.station st).state reply)) := by
  simp only [State.answerRestore, pending]
  rfl

/-- A request that is answered later. -/
theorem takeRequest_later {s v : State} {p : Port} (free : s.free p = true) {rc : ReqCode} (may : p.mayIssue rc = true)
    (plain : rc.conditional = false) {tag : Byte} {act : State → State × Option Response}
    (effect : act (s.accept p rc.toByte tag) = (v, none)) : s.takeRequest p rc tag act = v := by
  rw [State.takeRequest, if_neg (by simp [isBusy_of_free free])]
  simp only [may, if_true, effect, clearIfConditional_of_not plain]

/-- A restore accepted is pending and asks for the bus. -/
theorem restoreRequested_accepted {s : State} {p : Port} {st : Fin 4} (fault : (s.station st).state = .fault)
    (unpending : (s.station st).restore = none) :
    s.restoreRequested p (BitVec.ofNat 8 st.val) =
      ((s.modStation st fun x => { x with restore := some p, request := true }).arbitrate, none) := by
  have number : (BitVec.ofNat 8 st.val).toNat = st.val := by
    rw [BitVec.toNat_ofNat]; omega
  have low : (BitVec.ofNat 8 st.val).toNat < 4 := by rw [number]; exact st.isLt
  have same : (⟨(BitVec.ofNat 8 st.val).toNat, low⟩ : Fin 4) = st := Fin.ext number
  unfold State.restoreRequested
  rw [dif_pos low]
  simp only [same, fault, unpending]
  rw [if_neg nofun, if_neg (by simp), State.gainRequest, State.modStation_modStation]

/-- Without another request the first one is granted. -/
theorem arbitrate_only {s : State} {st : Fin 4} (free : s.bus.txn = none) (asks : (s.station st).request = true)
    (alone : ∀ k, k ≠ st → (s.station k).request = false) :
    s.arbitrate = { s.modStation st fun x => { x with request := false } with bus := { pointer := st, txn := s.formTxn st } } := by
  have found : s.nextRequester = some st := by
    refine State.nextRequester_eq_some.mpr ⟨asks, fun e other => ?_⟩
    by_cases own : e = st
    · rw [own]
    · exact absurd ((alone e own).symm.trans other) nofun
  unfold State.arbitrate
  rw [if_neg (by simp [free]), found]

end Sys2Proof.Machine
end

section
/-! PROOFS. RESTORE STATION and its answer (R136, R139). -/

namespace Sys2Proof.Machine

/-- A CLEAR whose outcome is an answer to the pending restore, made at `v`. -/
theorem clear_answers {s v : State} {x : Txn} {r : Option Reply} {q : Port} {code tag : Byte} {reply : Option ReplyState}
    (outcome : s.outcome x r = v.answerRestore x.station reply) (arms : v.arms = s.arms) (header : v.header = s.header)
    (bus : v.bus = s.bus) (pending : (v.station x.station).restore = some q)
    (busy : (v.port q).answer = .busy code tag none) :
    (∃ n, (s.endTxn x r).station x.station = { v.station x.station with restore := none, request := n }) ∧
      ((s.endTxn x r).port q).answer = .busy code tag (some (okay (.restored (v.station x.station).state reply))) ∧
      (s.endTxn x r).arms = s.arms ∧ (s.endTxn x r).header = s.header ∧
      s.busHandedOn (s.endTxn x r) fun k => (v.station k).request := by
  rw [answerRestore_eq pending] at outcome
  have ends := endTxn_endsQuietly outcome arms header (by rw [← bus]; rfl)
  have own : ((v.modStation x.station fun y => { y with restore := none }).respond q
      (okay (.restored (v.station x.station).state reply))).station x.station =
        { v.station x.station with restore := none } := State.modStation_station_self v x.station fun y => { y with restore := none }
  have requests : (fun k => (((v.modStation x.station fun y => { y with restore := none }).respond q
      (okay (.restored (v.station x.station).state reply))).station k).request) = fun k => (v.station k).request := by
    funext k
    change ((v.modStation x.station fun y => { y with restore := none }).station k).request = _
    by_cases same : k = x.station
    · subst same; simp
    · simp [same]
  refine ⟨?_, ?_, ends.arms, ends.header, requests ▸ ends.handed⟩
  · obtain ⟨n, station⟩ := ends.station x.station
    exact ⟨n, by rw [station, own]⟩
  · rw [State.port, ends.ports]
    change (((v.modStation x.station fun y => { y with restore := none }).respond q
      (okay (.restored (v.station x.station).state reply))).port q).answer = _
    rw [State.respond, State.modPort_port_self]
    change (v.port q).answer.form _ = _
    rw [busy]
    rfl

/-- Where the end of a transaction leaves all outside the loads. -/
theorem endTxn_sameOutsideLoads (s : State) (x : Txn) (r : Option Reply) : s.SameOutsideLoads (s.endTxn x r) :=
  (closed_sameOutsideLoads s).endTxn x r ⟨rfl, rfl, rfl, rfl, rfl, rfl, rfl, rfl, rfl, rfl, rfl⟩

/-- A reply in its window. -/
theorem busReplied_of_window {s : State} {x : Txn} {r : Reply} {b0 b1 b2 : Byte} (busy : s.bus.txn = some x)
    (window : x.phase = .window) (accepted : x.accepts b0 b1 b2 = some r) :
    exec (.busReply b0 b1 b2) s = .next (s.endTxn x (some r)) := by
  have replied : s.busReplied b0 b1 b2 = s.endTxn x (some r) := by simp only [State.busReplied, busy, window, accepted]
  exact congrArg Host.Outcome.next replied

/-- A window that closes. -/
theorem windowClosed_of_window {s : State} {x : Txn} (busy : s.bus.txn = some x) (window : x.phase = .window) :
    exec .replyWindowClose s = .next (s.endTxn x none) := by
  have closed : s.windowClosed = s.endTxn x none := by simp only [State.windowClosed, busy, window]
  exact congrArg Host.Outcome.next closed

/-- A restore accepted. -/
theorem exec_restoreStation {p : Port} {tag : Byte} {st : Fin 4} {s : State} (free : s.free p = true)
    (terminal : p.isTerminal = true) (fault : (s.station st).state = .fault) (unpending : (s.station st).restore = none) :
    exec (.restoreStation p tag (BitVec.ofNat 8 st.val)) s =
      .next ((s.taken p .restoreStation tag).modStation st fun x => { x with restore := some p, request := true }).arbitrate :=
  congrArg Host.Outcome.next (takeRequest_later (rc := .restoreStation) (tag := tag)
    (act := fun t => t.restoreRequested p (BitVec.ofNat 8 st.val)) free (mayIssue_of_terminal terminal (by decide)) rfl
    (restoreRequested_accepted (s := s.accept p ReqCode.restoreStation.toByte tag) fault unpending))

/-- Settles O34: the request, then the three ends of its CLEAR. -/
theorem restoreStationAnswered : Obligations.RestoreStationAnswered := by
  unfold Obligations.RestoreStationAnswered
  refine ⟨fun p tag st s free terminal fault unpending => ⟨fun busy => ?waits, fun idle alone => ?sends⟩,
    fun x q code tag s busy window kind pending answer => ⟨fun b0 b1 b2 r kept accepted => ?replied,
      fun b0 b1 b2 r discarded accepted => ?disregarded, ?closed⟩⟩
  case waits =>
    rw [exec_restoreStation free terminal fault unpending, State.arbitrate_busy (s := (s.taken p .restoreStation
      tag).modStation st fun x => { x with restore := some p, request := true }) busy]
    rfl
  case sends =>
    have asked : (((s.taken p .restoreStation tag).modStation st fun x =>
        { x with restore := some p, request := true }).station st) =
          { s.station st with restore := some p, request := true } := by
      rw [State.modStation_station_self]
      rfl
    have formed : ((s.taken p .restoreStation tag).modStation st fun x =>
        { x with restore := some p, request := true }).formTxn st =
          some { station := st, kind := .clear, arm := 0, size := 0, phase := .sending, discarded := false, shot := none } := by
      simp only [State.formTxn, asked, fault]
      rfl
    rw [exec_restoreStation free terminal fault unpending, arbitrate_only (s := (s.taken p .restoreStation tag).modStation st
      fun x => { x with restore := some p, request := true }) (st := st) idle (by rw [asked]) (fun k ne => by
        rw [State.modStation_station_ne _ _ _ _ ne]
        exact alone k), formed, State.modStation_modStation]
    rfl
  case replied =>
    have accept := acceptReply_station s x.station r.low
    have own := accept x.station
    rw [if_pos rfl] at own
    have requests : (fun k => ((s.acceptReply x.station r.low).station k).request) = fun k => (s.station k).request := by
      funext k
      rw [accept]
      split <;> rfl
    have arms : (s.acceptReply x.station r.low).arms = s.arms := acceptReply_kept _ (fun _ _ _ => rfl) (fun _ _ _ => rfl) ..
    have header : (s.acceptReply x.station r.low).header = s.header :=
      acceptReply_kept _ (fun _ _ _ => rfl) (fun _ _ _ => rfl) ..
    have bus : (s.acceptReply x.station r.low).bus = s.bus := acceptReply_kept _ (fun _ _ _ => rfl) (fun _ _ _ => rfl) ..
    have answered := (acceptReply_answer s x.station r.low q).trans answer
    have outcome : s.outcome x (some r) = s.clearOutcome x.station (some r) := by
      unfold State.outcome
      rw [if_neg (by simp [kept]), kind]
    refine ⟨_, busReplied_of_window busy window accepted, ?_⟩
    by_cases ready : r.state = .ready
    · have made : ((s.acceptReply x.station r.low).modStation x.station fun y =>
          { y with state := .idle, manifold := none }).station x.station =
            { s.station x.station with failures := 0, lowLevel := r.low, state := .idle, manifold := none } := by
        rw [State.modStation_station_self, own]
      have asks : (fun k => (((s.acceptReply x.station r.low).modStation x.station fun y =>
          { y with state := .idle, manifold := none }).station k).request) = fun k => (s.station k).request := by
        rw [← requests]
        funext k
        by_cases same : k = x.station
        · subst same; simp
        · simp [same]
      obtain ⟨⟨n, station⟩, response, arms', header', handed⟩ := clear_answers (v := (s.acceptReply x.station r.low).modStation
        x.station fun y => { y with state := .idle, manifold := none })
        (outcome.trans (by simp only [State.clearOutcome, ready]; rfl)) arms header bus (by rw [made]; exact pending) answered
      rw [made] at station response
      rw [station]
      exact ⟨rfl, rfl, rfl, fun _ => ⟨rfl, rfl⟩, fun other => absurd ready other, rfl, by rw [ready]; exact response, arms', header',
        endTxn_sameOutsideLoads .., asks ▸ handed⟩
    · obtain ⟨⟨n, station⟩, response, arms', header', handed⟩ := clear_answers (v := s.acceptReply x.station r.low)
        (reply := some r.state) (outcome.trans (by
          simp only [State.clearOutcome]
          cases state : r.state
          case ready => exact absurd state ready
          all_goals rfl)) arms header bus (by rw [own]; exact pending) answered
      rw [own] at station response
      rw [station]
      exact ⟨rfl, rfl, rfl, fun other => absurd other ready, fun _ => ⟨rfl, rfl⟩, rfl, response, arms', header',
        endTxn_sameOutsideLoads .., requests ▸ handed⟩
  case disregarded =>
    rw [busReplied_of_window busy window accepted, windowClosed_of_window busy window]
    have same : s.outcome x (some r) = s.outcome x none := by
      unfold State.outcome
      rw [if_pos discarded, if_pos discarded, kind]
    unfold State.endTxn
    rw [same]
  case closed =>
    have outcome : s.outcome x none = s.answerRestore x.station none := by
      unfold State.outcome
      rw [kind]
      exact ite_self _
    obtain ⟨⟨n, station⟩, response, arms', header', handed⟩ := clear_answers outcome rfl rfl rfl pending answer
    exact ⟨_, windowClosed_of_window busy window, by rw [station], response, arms', header', endTxn_sameOutsideLoads .., handed⟩

end Sys2Proof.Machine
end

section
/-! PROOFS. The lines and the taper step of a load that blends again, and the requests that take its last hold cause away (R48,
R59, R120, R142, R144, R145, R152). -/

namespace Sys2Proof.Machine

/-! ## Boundaries and kept shots (R120) -/

/-- The next of some steps above V is the first of them or lies at most a step above V. -/
theorem firstAbove_steps (base : Nat) {step : Nat} (v : Nat) (pos : 0 < step) :
    ∃ j, firstAbove base step v = base + j * step ∧ 1 ≤ j ∧ v < base + j * step ∧ (j = 1 ∨ base + j * step ≤ v + step) := by
  refine ⟨(v - base) / step + 1, rfl, Nat.le_add_left .., lt_firstAbove v pos, ?_⟩
  by_cases first : (v - base) / step = 0
  · exact .inl (by rw [first])
  · have above : step ≤ v - base := by
      by_contra below
      exact first (Nat.div_eq_of_lt (by omega))
    have reached : (v - base) / step * step ≤ v - base := Nat.div_mul_le_self _ _
    rw [Nat.add_mul, Nat.one_mul]
    exact .inr (by omega)

section Lines

variable {l : Load} {r : Nat} {y : Line} {k : RecipeLine} (line : l.lines[r]? = some y)
include line

/-- The setting of another line leaves a line. -/
theorem requeueAt_line_ne {i : Nat} (ne : i ≠ r) : (l.requeueAt i).lines[r]? = some y := by
  unfold Load.requeueAt
  split
  · split
    · exact line
    · exact (List.getElem?_modify_ne _ _ ne).trans line
  · exact line
  · exact line

variable (order : l.recipe.lines[r]? = some k) (present : y.counts.skipped = false)
include order present

/-- The line that is set. -/
theorem requeueAt_line_self : (l.requeueAt r).lines[r]? = some (l.requeuedLine k y) := by
  simp [Load.requeueAt, line, order, present]

/-- The line once all are set. -/
theorem requeued_line (small : r < 3) : l.requeued.lines[r]? = some (l.requeuedLine k y) := by
  have same : ∀ i, (l.requeueAt i).requeuedLine k y = l.requeuedLine k y ∧ (l.requeueAt i).recipe = l.recipe := by
    intro i
    rw [requeueAt_eq]
    exact ⟨rfl, rfl⟩
  have order0 : (l.requeueAt 0).recipe.lines[r]? = some k := by rw [(same 0).2]; exact order
  unfold Load.requeued
  obtain rfl | rfl | rfl : r = 0 ∨ r = 1 ∨ r = 2 := by omega
  · exact requeueAt_line_ne (requeueAt_line_ne (requeueAt_line_self line order present) (by decide)) (by decide)
  · rw [← (same 0).1]
    exact requeueAt_line_ne (requeueAt_line_self (requeueAt_line_ne line (by decide)) order0 present) (by decide)
  · have order1 : ((l.requeueAt 0).requeueAt 1).recipe.lines[2]? = some k := by rw [requeueAt_eq]; exact order0
    have set : ((l.requeueAt 0).requeueAt 1).requeuedLine k y = l.requeuedLine k y := by
      rw [requeueAt_eq]; exact (same 0).1
    rw [← set]
    exact requeueAt_line_self (requeueAt_line_ne (requeueAt_line_ne line (by decide)) (by decide)) order1 present

end Lines

/-! ## Queues (R120, R124) -/

/-- An entry that joins a queue leaves the other queues. -/
theorem appendEntry_station_ne {s : State} {st k : Fin 4} (ne : k ≠ st) (e : QueueEntry) :
    ((s.appendEntry st e).station k).queue = (s.station k).queue := by
  have queued := State.modStation_station_ne s st (fun x => { x with queue := x.queue ++ [e] }) k ne
  unfold State.appendEntry
  dsimp only
  split
  · obtain ⟨q, same⟩ := arbitrate_station ((s.modStation st fun x => { x with queue := x.queue ++ [e] }).modStation st fun x =>
      { x with request := true }) k
    rw [State.gainRequest, same, State.modStation_station_ne _ st (fun x => { x with request := true }) k ne, queued]
  · rw [queued]

/-- An entry that joins a queue leaves those that stand. -/
theorem appendEntry_keeps {s : State} {k : Fin 4} {x : QueueEntry} (mem : x ∈ (s.station k).queue) (st : Fin 4)
    (e : QueueEntry) : x ∈ ((s.appendEntry st e).station k).queue := by
  by_cases same : k = st
  · subst same
    obtain ⟨q, station⟩ := appendEntry_station (s := s) (st := k) (e := e)
    rw [station]
    exact List.mem_append_left _ mem
  · rw [appendEntry_station_ne same]
    exact mem

/-- So does the setting of a line. -/
theorem requeueLine_keeps {s : State} {k : Fin 4} {x : QueueEntry} (mem : x ∈ (s.station k).queue) (a : Fin 8) (i : Nat) :
    x ∈ ((s.requeueLine a i).station k).queue := by
  unfold State.requeueLine
  split
  · exact mem
  · split
    · split
      · exact mem
      · dsimp only
        split
        · exact mem
        · exact appendEntry_keeps (s := s.modLine a i _) mem _ _
    · exact mem
    · exact mem

/-- The kept shots of a line join its station's queue. -/
theorem requeueLine_queues {s : State} {a : Fin 8} {l : Load} {r : Nat} {y : Line} {k : RecipeLine} (load : s.load? a = some l)
    (line : l.lines[r]? = some y) (order : l.recipe.lines[r]? = some k) (present : y.counts.skipped = false)
    (kept : 0 < y.kept) :
    { arm := a, load := l.data.number, line := r, owed := y.kept } ∈ ((s.requeueLine a r).station y.counts.station).queue := by
  have joins : s.requeueLine a r = (s.modLine a r (l.requeuedLine k)).appendEntry y.counts.station
      { arm := a, load := l.data.number, line := r, owed := y.kept } := by
    simp only [State.requeueLine, load, line, order]
    rw [if_neg (by simp [present]), if_neg (by omega)]
    rfl
  obtain ⟨q, station⟩ := appendEntry_station (s := s.modLine a r (l.requeuedLine k)) (st := y.counts.station)
    (e := { arm := a, load := l.data.number, line := r, owed := y.kept })
  rw [joins, station]
  exact List.mem_append_right _ (List.mem_singleton_self _)

/-- The kept shots of every line do. -/
theorem requeueLines_queues {s : State} {a : Fin 8} {l : Load} {r : Nat} {y : Line} {k : RecipeLine} (small : r < 3)
    (load : s.load? a = some l) (line : l.lines[r]? = some y) (order : l.recipe.lines[r]? = some k)
    (present : y.counts.skipped = false) (kept : 0 < y.kept) :
    { arm := a, load := l.data.number, line := r, owed := y.kept } ∈ ((s.requeueLines a).station y.counts.station).queue := by
  have load0 : (s.requeueLine a 0).load? a = some (l.requeueAt 0) := congrArg Arm.load (requeueLine_arm 0 load).1
  have load1 : ((s.requeueLine a 0).requeueLine a 1).load? a = some ((l.requeueAt 0).requeueAt 1) :=
    congrArg Arm.load (requeueLine_arm 1 load0).1
  change _ ∈ ((((s.requeueLine a 0).requeueLine a 1).requeueLine a 2).station _).queue
  obtain rfl | rfl | rfl : r = 0 ∨ r = 1 ∨ r = 2 := by omega
  · exact requeueLine_keeps (requeueLine_keeps (requeueLine_queues load line order present kept) a 1) a 2
  · have joined := requeueLine_queues load0 (requeueAt_line_ne line (by decide)) (by rw [requeueAt_eq]; exact order) present kept
    rw [show (l.requeueAt 0).data.number = l.data.number by rw [requeueAt_eq]] at joined
    exact requeueLine_keeps joined a 2
  · have joined := requeueLine_queues load1 (requeueAt_line_ne (requeueAt_line_ne line (by decide)) (by decide))
      (by rw [requeueAt_eq 1, requeueAt_eq 0]; exact order) present kept
    rw [show ((l.requeueAt 0).requeueAt 1).data.number = l.data.number by rw [requeueAt_eq 1, requeueAt_eq 0]] at joined
    exact joined

/-! ## The taper step that matches V (R48) -/

/-- The last number below `n` that passes a test, counted from 1. -/
theorem foldl_last {p : Nat → Prop} [DecidablePred p] {n j : Nat} (high : j < n) (passes : p j)
    (last : ∀ i, j < i → i < n → ¬ p i) :
    (List.range n).foldl (fun j k => if p k then k + 1 else j) 0 = j + 1 := by
  induction n with
  | zero => omega
  | succ n ih =>
    rw [List.range_succ, List.foldl_append, List.foldl_cons, List.foldl_nil]
    by_cases top : j = n
    · subst top
      exact if_pos passes
    · rw [if_neg (last n (by omega) (by omega)), ih (by omega) fun i low below => last i low (by omega)]

/-- No step is reached where none passes. -/
theorem foldl_last_none {p : Nat → Prop} [DecidablePred p] {n : Nat} (none_ : ∀ i, i < n → ¬ p i) :
    (List.range n).foldl (fun j k => if p k then k + 1 else j) 0 = 0 := by
  induction n with
  | zero => rfl
  | succ n ih =>
    rw [List.range_succ, List.foldl_append, List.foldl_cons, List.foldl_nil, if_neg (none_ n (by omega)),
      ih fun i low => none_ i (by omega)]

/-- Below the taper point TAPER is entered at the ceiling. -/
theorem taperEntryOpening_below {l : Load} (c : Nat) (below : l.data.product < l.data.taperPoint) :
    l.taperEntryOpening c = c := by
  have step : l.recipe.taperStepAt l.data.taperPoint l.data.product = 0 :=
    foldl_last_none fun i _ reached => absurd (le_trans (Nat.le_add_right _ _) reached) (Nat.not_le.mpr below)
  rw [Load.taperEntryOpening, step]

/-- Elsewhere it is entered at the highest step that V has reached. -/
theorem taperEntryOpening_at {l : Load} (c : Nat) {j : Nat} (low : 1 ≤ j) (high : j ≤ l.recipe.taperSteps)
    (reached : l.data.taperPoint + (j - 1) * l.recipe.taperVolume / l.recipe.taperSteps ≤ l.data.product)
    (last : ∀ k, j < k → k ≤ l.recipe.taperSteps →
      l.data.product < l.data.taperPoint + (k - 1) * l.recipe.taperVolume / l.recipe.taperSteps) :
    l.taperEntryOpening c =
      min (l.recipe.fullOpening - (l.recipe.fullOpening - l.recipe.taperEndOpening) * j / l.recipe.taperSteps) c := by
  obtain ⟨i, rfl⟩ : ∃ i, j = i + 1 := ⟨j - 1, by omega⟩
  have step : l.recipe.taperStepAt l.data.taperPoint l.data.product = i + 1 :=
    foldl_last (by omega) reached fun k above below => by
      exact Nat.not_le.mpr (last (k + 1) (by omega) (by omega))
  rw [Load.taperEntryOpening, step]
  rfl

/-! ## The last cause (R59, R142) -/

/-- A set that holds no cause is the empty one. -/
theorem eq_of_isEmpty {h : HoldCauses} (empty : h.isEmpty = true) : h = {} := by
  obtain ⟨lane, terminal, checkpoint0, checkpoint1, permissive⟩ := h
  simp only [HoldCauses.isEmpty, Bool.not_eq_true', Bool.or_eq_false_iff] at empty
  obtain ⟨⟨⟨⟨rfl, rfl⟩, rfl⟩, rfl⟩, rfl⟩ := empty
  rfl

/-- The load without a hold cause, its checkpoint flags as given. -/
def Load.loosed (l : Load) (f0 f1 : Bool) : Load :=
  { l with data := { l.data with flag0 := f0, flag1 := f1, causes := {} } }

/-- A load left as it is. -/
theorem modLoad_id (s : State) (a : Fin 8) : s.modLoad a id = s := by
  have same : s.modLoad a id = s.modArm a id := modArm_congr (by rw [Option.map_id]; rfl)
  rw [same]
  simp [State.modArm]

/-- The removal of the last cause of a held load. -/
theorem removeCause_of_last {s : State} {a : Fin 8} {l : Load} {c : HoldCause} {f : Load → Load} {f0 f1 : Bool}
    (load : s.load? a = some l) (held : (s.arm a).state = .held) (last : ((f l).data.causes.put false c).isEmpty = true)
    (flags : { f l with data := { (f l).data with causes := {} } } = l.loosed f0 f1) :
    (s.modLoad a f).removeCause a c = (s.modLoad a fun x => x.loosed f0 f1).leaveHeld a := by
  have removed : (s.modLoad a f).modLoad a (fun l => { l with data := { l.data with causes := l.data.causes.put false c } }) =
      s.modLoad a fun x => x.loosed f0 f1 := by
    rw [modLoad_modLoad]
    refine modLoad_congr load ?_
    rw [← flags, eq_of_isEmpty last]
  unfold State.removeCause
  dsimp only
  rw [removed, load?_modLoad _ load]
  dsimp only
  rw [if_pos ⟨by rw [State.modLoad_arm_state]; exact held, rfl⟩]

/-- The removal of the last cause alone. -/
theorem removeCause_of_only {s : State} {a : Fin 8} {l : Load} {c : HoldCause} (load : s.load? a = some l)
    (held : (s.arm a).state = .held) (last : (l.data.causes.put false c).isEmpty = true) :
    s.removeCause a c = (s.modLoad a fun x => x.loosed l.data.flag0 l.data.flag1).leaveHeld a := by
  have removed := removeCause_of_last (f := id) load held last rfl
  rw [modLoad_id] at removed
  exact removed

/-- The state in which the last hold cause of an arm's load is gone, and the arm leaves HELD. -/
def State.releases (s : State) (a : Fin 8) (f0 f1 : Bool) : State := (s.modLoad a fun x => x.loosed f0 f1).leaveHeld a

/-- Each of the requests that take the last cause away ends with the arm's leaving HELD (R144, R145, R152). -/
theorem exec_releases {p : Port} {tag : Byte} {a : Fin 8} {n : Word24} {l : Load} {i : Instr} {f0 f1 : Bool} {s : State}
    (named : s.names p a n l) (held : (s.arm a).state = .held)
    (request : (i = .releaseHold p tag (armByte a) n ∧ l.data.causes.has (classCause p) = true ∧
        (l.data.causes.put false (classCause p)).isEmpty = true ∧ f0 = l.data.flag0 ∧ f1 = l.data.flag1) ∨
      (i = .resumeLoad p tag (armByte a) n ∧ p.isTerminal = false ∧ s.trips.lanes[(laneOf a).val] = true ∧
        l.data.causes.permissive = true ∧ (l.data.causes.put false .permissive).isEmpty = true ∧
        f0 = l.data.flag0 ∧ f1 = l.data.flag1) ∨
      (i = .clearCheckpoint p tag (armByte a) n 0#8 ∧ l.data.flag0 = true ∧
        (l.data.causes.put false .checkpoint0).isEmpty = true ∧ f0 = false ∧ f1 = l.data.flag1) ∨
      (i = .clearCheckpoint p tag (armByte a) n 1#8 ∧ l.data.flag1 = true ∧
        (l.data.causes.put false .checkpoint1).isEmpty = true ∧ f0 = l.data.flag0 ∧ f1 = false)) :
    ∃ (rc : ReqCode) (act : State → State × Option Response),
      exec i s = .next (s.takeRequest p rc tag act) ∧ p.mayIssue rc = true ∧ rc.conditional = false ∧
      act (s.accept p rc.toByte tag) = State.answerHeld (s.accept p rc.toByte tag)
        ((s.accept p rc.toByte tag).releases a f0 f1) a := by
  have load : s.load? a = some l := named.2.1
  rcases request with ⟨rfl, has, last, rfl, rfl⟩ | ⟨rfl, lanePort, present, has, last, rfl, rfl⟩ | ⟨rfl, set, last, rfl, rfl⟩ |
    ⟨rfl, set, last, rfl, rfl⟩
  · refine ⟨.releaseHold, _, rfl, rfl, rfl, ?_⟩
    rw [State.holdReleased, addressLoad_of_names (s := s.accept p ReqCode.releaseHold.toByte tag) named]
    dsimp only
    rw [if_pos has]
    exact congrArg (State.answerHeld _ · a)
      (removeCause_of_only (s := s.accept p ReqCode.releaseHold.toByte tag) load held last)
  · have may : p.mayIssue .resumeLoad = true := by simpa [Port.mayIssue, ReqCode.access] using lanePort
    have present' : ((s.accept p ReqCode.resumeLoad.toByte tag).trips.lanes[(laneOf a).val]) = true := present
    refine ⟨.resumeLoad, _, rfl, may, rfl, ?_⟩
    rw [State.loadResumed, addressLoad_of_names (s := s.accept p ReqCode.resumeLoad.toByte tag) named]
    dsimp only
    rw [if_neg (by simp [present']), if_pos has]
    exact congrArg (State.answerHeld _ · a)
      (removeCause_of_only (s := s.accept p ReqCode.resumeLoad.toByte tag) load held last)
  · have flag : l.data.flag 0 = true := set
    refine ⟨.clearCheckpoint, _, rfl, rfl, rfl, ?_⟩
    rw [State.checkpointCleared, addressLoad_of_names (s := s.accept p ReqCode.clearCheckpoint.toByte tag) named]
    simp only [show checkpointOf 0#8 = some 0 from rfl]
    rw [if_pos flag]
    exact congrArg (State.answerHeld _ · a)
      (removeCause_of_last (s := s.accept p ReqCode.clearCheckpoint.toByte tag) load held last rfl)
  · have flag : l.data.flag 1 = true := set
    refine ⟨.clearCheckpoint, _, rfl, rfl, rfl, ?_⟩
    rw [State.checkpointCleared, addressLoad_of_names (s := s.accept p ReqCode.clearCheckpoint.toByte tag) named]
    simp only [show checkpointOf 1#8 = some 1 from rfl]
    rw [if_pos flag]
    exact congrArg (State.answerHeld _ · a)
      (removeCause_of_last (s := s.accept p ReqCode.clearCheckpoint.toByte tag) load held last rfl)

end Sys2Proof.Machine
end

section
/-! PROOFS. A load that leaves HELD toward FLUSH, the blending phases or CLOSING (R44, R45, R51, R59, R105, R120). -/

namespace Sys2Proof.Machine

/-! ## Entries that queue kept shots -/

/-- The advance of the revisions leaves the stations. -/
theorem bumpRevisions_stations (s0 s : State) : (State.bumpRevisions s0 s).stations = s.stations :=
  Leaving.foldl (P := fun t => t.stations = s.stations) _ rfl fun _ _ same => by
    split
    · exact same
    · exact same

section Queues

variable {s : State} {a : Fin 8} {l : Load} {r : Nat} {y : Line} {k : RecipeLine} (small : r < 3) (load : s.load? a = some l)
  (line : l.lines[r]? = some y) (order : l.recipe.lines[r]? = some k) (present : y.counts.skipped = false) (kept : 0 < y.kept)
include small load line order present kept

/-- An arm that enters a blending phase with its load changed queues the load's kept shots. -/
theorem blend_queues (f : Arm → Arm) (g : Load → Load) (same : (f (s.arm a)).load = (s.arm a).load)
    (lines : (g l).lines = l.lines ∧ (g l).recipe = l.recipe ∧ (g l).data.number = l.data.number) :
    { arm := a, load := l.data.number, line := r, owed := y.kept } ∈
      (((((s.modArm a f).modLoad a g).requeueLines a).appendTrace a .phase).station y.counts.station).queue := by
  have moved : ((s.modArm a f).modLoad a g).load? a = some (g l) := by
    rw [State.modLoad_load_self, State.load?_modArm_self, same, show (s.arm a).load = some l from load, Option.map_some]
  obtain ⟨same, recipe, number⟩ := lines
  have joined := requeueLines_queues small moved (by rw [same]; exact line) (by rw [recipe]; exact order) present kept
  rw [number] at joined
  rw [appendTrace_kept (fun t : State => t.station y.counts.station) fun _ _ _ => rfl]
  exact joined

/-- RAMP entered from its beginning. -/
theorem enterRamp_queues :
    { arm := a, load := l.data.number, line := r, owed := y.kept } ∈ ((s.enterRamp a).station y.counts.station).queue := by
  simp only [State.enterRamp, load]
  exact blend_queues small load line order present kept _ (fun l => { l.blended with rampBase := some l.data.product }) rfl
    ⟨rfl, rfl, rfl⟩

/-- TAPER entered at the step that matches V, where no checkpoint fires. -/
theorem enterTaperAtStep_queues (silent : l.taperCeiling = none → ∀ e ∈ l.recipe.checkpoints, e.event ≠ .taperBegin) :
    { arm := a, load := l.data.number, line := r, owed := y.kept } ∈
      ((s.enterTaperAtStep a).station y.counts.station).queue := by
  have joined := blend_queues small load line order present kept
    (fun x =>
      { x with
        state := .taper, mainOpening := l.taperEntryOpening (l.ceilingOr l.recipe.fullOpening)
        ethanolOpening := l.entryEthanol, noFlow := s.noFlowStart })
    (fun l => { l.blended with taperCeiling := some (l.ceilingOr l.recipe.fullOpening) }) rfl ⟨rfl, rfl, rfl⟩
  obtain ⟨arm, _⟩ := blend_arm load
    (fun x =>
      { x with
        state := .taper, mainOpening := l.taperEntryOpening (l.ceilingOr l.recipe.fullOpening)
        ethanolOpening := l.entryEthanol, noFlow := s.noFlowStart })
    (fun l => { l.blended with taperCeiling := some (l.ceilingOr l.recipe.fullOpening) }) rfl
  simp only [State.enterTaperAtStep, load, State.fireIfFirst]
  cases ceiling : l.taperCeiling with
  | some c => exact joined
  | none =>
    have there := congrArg Arm.load arm
    have quiet : ∀ c ∈ (({ l.blended with taperCeiling := some (l.ceilingOr l.recipe.fullOpening) } : Load).requeued).recipe.checkpoints,
        c.event ≠ .taperBegin := by
      rw [requeued_eq]
      exact silent ceiling
    have first : (none : Option Nat).isNone = true := rfl
    rw [if_pos first, fireEvent_of_none there quiet]
    exact joined

end Queues

/-! ## The load that has left HELD -/

/-- The load as it goes on: its number and revision as they were, its checkpoint flags as given, and no hold cause. -/
structure Load.Freed (l k : Load) (f0 f1 : Bool) : Prop where
  number : k.data.number = l.data.number
  revision : k.data.revision = l.data.revision
  flag0 : k.data.flag0 = f0
  flag1 : k.data.flag1 = f1
  causes : k.data.causes = {}

/-- What the end of the event shows of a load that has left HELD for state `x`. -/
structure State.Left (t : State) (a : Fin 8) (l m : Load) (f0 f1 : Bool) (x : ArmState) : Prop where
  load : t.load? a = some m
  state : (t.arm a).state = x
  hold : (t.arm a).hold = .stopped
  resume : m.resume = none
  number : m.data.number = l.data.number
  revision : m.data.revision = if 65535 ≤ l.data.revision then 1 else l.data.revision + 1
  flags : m.data.flag0 = f0 ∧ m.data.flag1 = f1
  causes : m.data.causes = {}

section Left

variable {u t : State} {a : Fin 8} {l k m : Load} {f0 f1 : Bool} (freed : l.Freed k f0 f1)
include freed

/-- A load that has left HELD for CLOSING. -/
theorem EndsClosing.left (h : EndsClosing u t a k m) : t.Left a l m f0 f1 .closing :=
  ⟨h.load, h.state, h.hold, h.resume, h.moved.number.trans freed.number, by rw [h.moved.revision, freed.revision],
    ⟨h.moved.flag0.trans freed.flag0, h.moved.flag1.trans freed.flag1⟩, h.moved.causes⟩

/-- A load that has left HELD for an ordered flush. -/
theorem EndsFlush.left {f : FlushKind} (h : EndsFlush u t a f k m) (hold : (u.arm a).hold = .stopped) :
    t.Left a l m f0 f1 .flush :=
  ⟨h.load, h.state, by rw [h.arm]; exact hold, h.resume, h.moved.number.trans freed.number,
    by rw [h.moved.revision, freed.revision],
    ⟨h.moved.flag0.trans freed.flag0, h.moved.flag1.trans freed.flag1⟩, h.moved.causes.trans freed.causes⟩

/-- A load that has left HELD with its revision alone advanced. -/
theorem left_of_arm {x : ArmState} (arm : t.arm a = { u.arm a with load := some k.bump }) (state : (u.arm a).state = x)
    (hold : (u.arm a).hold = .stopped) (resume : k.resume = none) : t.Left a l k.bump f0 f1 x :=
  ⟨congrArg Arm.load arm, by rw [arm]; exact state, by rw [arm]; exact hold, resume, freed.number,
    congrArg nextRevision freed.revision, ⟨freed.flag0, freed.flag1⟩, freed.causes⟩

/-- The ethanol supply's fault leaves it so. -/
theorem freed_supplyFaulted : l.Freed k.supplyFaulted f0 f1 := 
  ⟨freed.number, freed.revision, freed.flag0, freed.flag1, freed.causes⟩

end Left

/-- The load once its last cause is gone, with some resume phase. -/
def Load.goesOn (l : Load) (f0 f1 : Bool) (r : Option ResumePhase) : Load := { l.loosed f0 f1 with resume := r }

/-- Nothing else of it has changed. -/
theorem freed_goesOn (l : Load) (f0 f1 : Bool) (r : Option ResumePhase) : l.Freed (l.goesOn f0 f1 r) f0 f1 :=
  ⟨rfl, rfl, rfl, rfl, rfl⟩

/-- Between two states an arm has set out from HELD: its hold timer is stopped and its load is `k`. -/
structure State.Departs (s v : State) (a : Fin 8) (k : Load) : Prop where
  load : v.load? a = some k
  hold : (v.arm a).hold = .stopped
  header : v.header = s.header
  trips : v.trips = s.trips
  settings : v.settings = s.settings

/-- A request for shares answered by a grant now: the arm's opening and lines in its blending phase (R45 to R48, R120). -/
structure State.blends (s t : State) (a : Fin 8) (l m : Load) (w : WaitTarget) : Prop where
  ethanol : (t.arm a).ethanolOpening = (if l.recipe.ratio = 0 then 0 else l.ethanolLastUsed.getD l.recipe.ethanolStartOpening)
  noFlow : (t.arm a).noFlow = .running (s.settings.noFlowSeconds * 1000)
  header : t.header = (s.sharesGranted a l.recipe.shareCount).header
  ramp : w = .ramp → (t.arm a).mainOpening = l.recipe.primeOpening ∧ m.rampBase = some l.data.product
  taper : w = .taper →
    m.taperCeiling = some (l.taperCeiling.getD l.recipe.fullOpening) ∧
    (t.arm a).mainOpening = l.taperEntryOpening (l.taperCeiling.getD l.recipe.fullOpening)
  lines : ∀ (r : Nat) (y : Line) (k : RecipeLine), r < 3 → l.lines[r]? = some y → l.recipe.lines[r]? = some k →
    y.counts.skipped = false → m.lines[r]? = some (l.requeuedLine k y) ∧
    (0 < y.kept → { arm := a, load := l.data.number, line := r, owed := y.kept } ∈ (t.station y.counts.station).queue)

section Departing

variable {s v : State} {a : Fin 8} {l : Load} {f0 f1 : Bool} {r : Option ResumePhase} (before : s.load? a = some l)
  (held : (s.arm a).state = .held) (departs : s.Departs v a (l.goesOn f0 f1 r))
include before held departs

/-- The arm goes to CLOSING. -/
theorem departs_closes :
    ∃ m, (State.endEvent s (v.enterClosing a)).Left a l m f0 f1 .closing ∧
      (State.endEvent s (v.enterClosing a)).closingBegun a ∧ m.endDue = l.endDue := by
  obtain ⟨m, ends⟩ := endsClosing_of_enter before departs.load rfl (by rw [held]; exact nofun)
  have settings := (endEvent_frame s ((frame_madeOn v).enterClosing (b := a) trivial (.refl v))).elsewhere.settings
  refine ⟨m, ends.left (freed_goesOn ..), ⟨ends.main, ends.ethanol, ?_, ends.shares⟩, ends.moved.endDue⟩
  rw [ends.settle, settings]
  rfl

/-- The arm enters an ordered flush. -/
theorem departs_flushes (below : l.data.product < l.data.pending.getD l.data.preset) :
    ∃ m, (State.endEvent s (v.enterFlush a .ordered)).Left a l m f0 f1 .flush ∧
      ((State.endEvent s (v.enterFlush a .ordered)).arm a).mainOpening = l.recipe.taperEndOpening ∧
      ((State.endEvent s (v.enterFlush a .ordered)).arm a).ethanolOpening = 0 ∧
      ((State.endEvent s (v.enterFlush a .ordered)).arm a).noFlow = .running (s.settings.noFlowSeconds * 1000) ∧
      (State.endEvent s (v.enterFlush a .ordered)).header.sharesOf a = 0 ∧
      m.flushEnd = some (l.data.pending.getD l.data.preset) ∧ m.flushKind = some .ordered ∧ m.endDue = l.endDue := by
  obtain ⟨m, ends⟩ := endsFlush_of_enter before departs.load rfl .ordered below (by rw [held]; exact nofun)
  refine ⟨m, ends.left (freed_goesOn ..) departs.hold, ends.main, ends.ethanol, ?_, ends.shares, ends.flushEnd,
    ends.flushKind, ends.moved.endDue⟩
  rw [ends.noFlow, State.noFlowStart, departs.settings]

/-- The arm blends on with its shares granted at once. -/
theorem departs_blends {w : WaitTarget} (grants : s.grantsNow l.recipe.shareCount)
    (silent : w = .taper → l.taperCeiling = none → ∀ e ∈ l.recipe.checkpoints, e.event ≠ .taperBegin) :
    ∃ m, (State.endEvent s (v.requestShares a w)).Left a l m f0 f1 (if w = .ramp then .ramp else .taper) ∧
      s.blends (State.endEvent s (v.requestShares a w)) a l m w := by
  have requests := requestShares_granted departs.load w
    (show v.grantsNow l.recipe.shareCount by rw [State.grantsNow, departs.header, departs.trips]; exact grants)
  generalize given : v.sharesGranted a (l.goesOn f0 f1 r).recipe.shareCount = g at requests
  change v.sharesGranted a l.recipe.shareCount = g at given
  have kept : g.arm a = v.arm a := by rw [← given]; unfold State.sharesGranted; split <;> rfl
  have settings : g.settings = s.settings := by
    rw [← departs.settings, ← given]; unfold State.sharesGranted; split <;> rfl
  have header : g.header = (s.sharesGranted a l.recipe.shareCount).header := by
    rw [← given]
    unfold State.sharesGranted
    split
    · exact departs.header
    · exact congrArg (fun h : Header => h.grant _ _) departs.header
  have load : g.load? a = some (l.goesOn f0 f1 r) := (congrArg Arm.load kept).trans departs.load
  have hold : (g.arm a).hold = .stopped := by rw [kept]; exact departs.hold
  have noFlow : g.noFlowStart = .running (s.settings.noFlowSeconds * 1000) := by rw [State.noFlowStart, settings]
  have ethanol : (l.goesOn f0 f1 r).entryEthanol =
      if l.recipe.ratio = 0 then 0 else l.ethanolLastUsed.getD l.recipe.ethanolStartOpening := by
    unfold Load.entryEthanol Load.goesOn Load.loosed
    dsimp only
    cases l.ethanolLastUsed <;> rfl
  rw [requests]
  cases w with
  | ramp =>
    obtain ⟨arm, same⟩ := enterRamp_arm load
    have calm := granted_calm grants (same.trans header)
    have freed : l.Freed (l.goesOn f0 f1 r).inRamp f0 f1 := by
      rw [Load.inRamp, requeued_eq]
      exact ⟨rfl, rfl, rfl, rfl, rfl⟩
    obtain ⟨ended, headed⟩ := endEvent_moved before (congrArg Arm.load arm) freed.number (by rw [arm, held]; exact nofun) calm
    refine ⟨_, left_of_arm freed ended (by rw [arm]; rfl) (by rw [arm]; exact hold) (by rw [Load.inRamp, requeued_eq]; rfl),
      ⟨by rw [State.goToTarget, ended, arm]; exact ethanol, by rw [State.goToTarget, ended, arm]; exact noFlow,
        headed.trans (same.trans header), fun _ => ⟨by rw [State.goToTarget, ended, arm]; rfl, ?_⟩, nofun,
        fun i y k small line order present => ⟨?_, fun some_ => ?_⟩⟩⟩
    · rw [Load.inRamp, requeued_eq]; rfl
    · exact requeued_line (l := { (l.goesOn f0 f1 r).blended with rampBase := some l.data.product }) line order present small
    · rw [State.goToTarget, calm, State.station, bumpRevisions_stations]
      exact enterRamp_queues (l := l.goesOn f0 f1 r) small load line order present some_
  | taper =>
    obtain ⟨arm, same⟩ := enterTaperAtStep_arm load (silent rfl)
    have calm := granted_calm grants (same.trans header)
    have freed : l.Freed (l.goesOn f0 f1 r).inTaper f0 f1 := by
      rw [Load.inTaper, requeued_eq]
      exact ⟨rfl, rfl, rfl, rfl, rfl⟩
    have ceiling : (l.goesOn f0 f1 r).ceilingOr l.recipe.fullOpening = l.taperCeiling.getD l.recipe.fullOpening :=
      ceilingOr_eq ..
    obtain ⟨ended, headed⟩ := endEvent_moved before (congrArg Arm.load arm) freed.number (by rw [arm, held]; exact nofun) calm
    refine ⟨_, left_of_arm freed ended (by rw [arm]; rfl) (by rw [arm]; exact hold) (by rw [Load.inTaper, requeued_eq]; rfl),
      ⟨by rw [State.goToTarget, ended, arm]; exact ethanol, by rw [State.goToTarget, ended, arm]; exact noFlow,
        headed.trans (same.trans header), nofun, fun _ => ⟨?_, ?_⟩,
        fun i y k small line order present => ⟨?_, fun some_ => ?_⟩⟩⟩
    · rw [Load.inTaper, requeued_eq, ← ceiling]; rfl
    · rw [State.goToTarget, ended, arm, ← ceiling]; rfl
    · exact requeued_line (l := { (l.goesOn f0 f1 r).blended with
        taperCeiling := some ((l.goesOn f0 f1 r).ceilingOr l.recipe.fullOpening) }) line order present small
    · rw [State.goToTarget, calm, State.station, bumpRevisions_stations]
      exact enterTaperAtStep_queues (l := l.goesOn f0 f1 r) small load line order present some_ (silent rfl)

/-- The arm joins the wait list. -/
theorem departs_waits {w : WaitTarget} (some_ : l.recipe.shareCount ≠ 0) (present : s.trips.header = true)
    (full : s.header.wait = [] → s.header.capacity < s.header.inUse + l.recipe.shareCount)
    (blocked : ∀ w rest, s.header.wait = w :: rest → 0 < w.shares ∧ s.header.capacity < s.header.inUse + w.shares) :
    ∃ m, (State.endEvent s (v.requestShares a w)).Left a l m f0 f1 .shareWait ∧
      ((State.endEvent s (v.requestShares a w)).arm a).mainOpening = 0 ∧
      ((State.endEvent s (v.requestShares a w)).arm a).ethanolOpening = 0 ∧
      ((State.endEvent s (v.requestShares a w)).arm a).noFlow = .stopped ∧ m.waitTarget = some w ∧ m.lines = l.lines ∧
      (State.endEvent s (v.requestShares a w)).header =
        { s.header with
          wait := s.header.wait ++
            [{ arm := a, shares := l.recipe.shareCount
               timer := if s.settings.shareWaitSeconds = 0 then .stopped
                 else .running (s.settings.shareWaitSeconds * 1000) }] } := by
  have queued : v.requestShares a w = v.enterShareWait a w l.recipe.shareCount :=
    requestShares_queued departs.load w some_ (by rw [departs.trips]; exact present) (by rw [departs.header]; exact full)
  obtain ⟨arm, header⟩ := enterShareWait_arm departs.load w l.recipe.shareCount
  have wait : (v.enterShareWait a w l.recipe.shareCount).header =
      { s.header with
        wait := s.header.wait ++
          [{ arm := a, shares := l.recipe.shareCount
             timer := if s.settings.shareWaitSeconds = 0 then .stopped
               else .running (s.settings.shareWaitSeconds * 1000) }] } := by
    rw [header, State.shareWaitStart, departs.header, departs.settings]
  have calm := queued_calm wait (Nat.pos_of_ne_zero some_) full blocked
  obtain ⟨ended, same⟩ := endEvent_moved before (congrArg Arm.load arm) rfl (by rw [arm, held]; exact nofun) calm
  have freed : l.Freed { l.goesOn f0 f1 r with resume := none, waitTarget := some w } f0 f1 := ⟨rfl, rfl, rfl, rfl, rfl⟩
  rw [queued]
  exact ⟨_, left_of_arm (k := { l.goesOn f0 f1 r with resume := none, waitTarget := some w }) freed
    ended (by rw [arm]) (by rw [arm]; exact departs.hold) rfl, by rw [ended, arm], by rw [ended, arm], by rw [ended, arm], rfl,
    rfl, same.trans wait⟩

/-- The arm is refused its shares. -/
theorem departs_refused {w : WaitTarget} (some_ : l.recipe.shareCount ≠ 0) (lost : s.trips.header = false) :
    ∃ m, (State.endEvent s (v.requestShares a w)).Left a l m f0 f1 .closing ∧
      (State.endEvent s (v.requestShares a w)).closingBegun a ∧
      m.data.faults = { l.data.faults with ethanolSupply := true } ∧ m.endDue = some (l.endDue.getD .ethanolSupply) := by
  rw [requestShares_refused departs.load w some_ (by rw [departs.trips]; exact lost)]
  have faulted := load?_modLoad Load.supplyFaulted departs.load
  obtain ⟨m, ends⟩ := endsClosing_of_enter before faulted (freed_supplyFaulted (freed_goesOn l f0 f1 r)).number
    (by rw [held]; exact nofun)
  have settings := (endEvent_frame s ((frame_madeOn (v.modLoad a Load.supplyFaulted)).enterClosing (b := a) trivial
    (.refl _))).elsewhere.settings
  refine ⟨m, ends.left (freed_supplyFaulted (freed_goesOn ..)), ⟨ends.main, ends.ethanol, ?_, ends.shares⟩, ?_, ?_⟩
  · rw [ends.settle, settings]
    rfl
  · rw [ends.moved.faults]
    rfl
  · rw [ends.moved.endDue]
    rfl

end Departing

end Sys2Proof.Machine
end

section
/-! PROOFS. The removal of the last hold cause (R44, R45, R51, R59, R112, R142). -/

namespace Sys2Proof.Machine

/-! ## The ways out of HELD (R59, R112) -/

/-- The arm with its last hold cause gone and its hold timer stopped. -/
def State.unheld (s : State) (a : Fin 8) (f0 f1 : Bool) : State :=
  (s.modLoad a fun x => x.loosed f0 f1).modArm a fun x => { x with hold := .stopped }

/-- The arm back in PRIME. -/
def State.primesOn (s : State) (a : Fin 8) (o : Nat) : State :=
  ((s.modArm a fun x => { x with state := .prime, mainOpening := o, ethanolOpening := 0, noFlow := s.noFlowStart }).modLoad a
    fun l => { l with resume := none }).appendTrace a .phase

/-- The arm back in FLUSH. -/
def State.flushesOn (s : State) (a : Fin 8) (o : Nat) : State :=
  ((s.modArm a fun x => { x with state := .flush, mainOpening := o, ethanolOpening := 0, noFlow := s.noFlowStart }).modLoad a
    fun l => { l with resume := none }).appendTrace a .phase

section Ways

variable {s : State} {a : Fin 8} {l : Load} {f0 f1 : Bool} (load : s.load? a = some l)
include load

/-- The arm has set out from HELD. -/
theorem unheld_departs : s.Departs (s.unheld a f0 f1) a (l.goesOn f0 f1 l.resume) := by
  refine ⟨?_, ?_, rfl, rfl, rfl⟩
  · rw [State.unheld, State.load?_modArm_self]
    exact load?_modLoad _ load
  · rw [State.unheld, State.modArm_arm_self]

/-- An arm with the supply-lost mark closes. -/
theorem releases_lost (lost : l.supplyLost = true) : s.releases a f0 f1 = (s.unheld a f0 f1).enterClosing a := by
  have there := load?_modLoad (s := s) (fun x => x.loosed f0 f1) load
  simp only [State.releases, State.leaveHeld, there]
  exact if_pos lost

/-- Any other goes on by its resume phase. -/
theorem releases_resumes (kept : l.supplyLost = false) :
    (l.resume = some .prime → s.releases a f0 f1 = (s.unheld a f0 f1).resumePrime a) ∧
      (l.resume = some .flush → s.releases a f0 f1 = (s.unheld a f0 f1).resumeFlush a) ∧
      (l.resume = some .ramp ∨ l.resume = some .full ∨ l.resume = some .taper ∨ l.resume = some .shareWait →
        s.releases a f0 f1 = (s.unheld a f0 f1).resumeBlending a
          (decide (l.resume = some .taper ∨ (l.resume = some .shareWait ∧ l.waitTarget = some .taper)))) := by
  have there := load?_modLoad (s := s) (fun x => x.loosed f0 f1) load
  have goes : s.releases a f0 f1 = match l.resume with
      | none => s.unheld a f0 f1
      | some .prime => (s.unheld a f0 f1).resumePrime a
      | some .ramp => (s.unheld a f0 f1).resumeBlending a false
      | some .full => (s.unheld a f0 f1).resumeBlending a false
      | some .taper => (s.unheld a f0 f1).resumeBlending a true
      | some .flush => (s.unheld a f0 f1).resumeFlush a
      | some .shareWait => (s.unheld a f0 f1).resumeBlending a (decide (l.waitTarget = some .taper)) := by
    simp only [State.releases, State.leaveHeld, there]
    refine (if_neg (by simp [Load.loosed, kept])).trans ?_
    rfl
  refine ⟨fun resume => ?_, fun resume => ?_, fun resume => ?_⟩
  · rw [goes, resume]
  · rw [goes, resume]
  · rcases resume with resume | resume | resume | resume <;> rw [goes, resume] <;> simp

end Ways

section Departing

variable {s v : State} {a : Fin 8} {l : Load} {f0 f1 : Bool} {r : Option ResumePhase}
  (departs : s.Departs v a (l.goesOn f0 f1 r))
include departs

/-! ### PRIME and FLUSH -/

/-- The arm that an entry to PRIME or FLUSH leaves. -/
theorem on_arm {f : Arm → Arm} (same : (f (v.arm a)).load = (v.arm a).load) :
    (((v.modArm a f).modLoad a fun l => { l with resume := none }).appendTrace a .phase).arm a =
      { f (v.arm a) with load := some (l.goesOn f0 f1 none) } := by
  rw [State.appendTrace_arm, State.modArm_modLoad, State.modArm_arm_self, same, show (v.arm a).load = some _ from departs.load]
  rfl

omit departs in
/-- What such an entry leaves aside. -/
theorem on_kept {β : Type} (g : State → β) (arm : ∀ s a f, g (State.modArm s a f) = g s)
    (page : ∀ s a f, g (State.modPage s a f) = g s) (f : Arm → Arm) :
    g (((v.modArm a f).modLoad a fun l => { l with resume := none }).appendTrace a .phase) = g v := by
  rw [appendTrace_kept g page, State.modLoad, arm, arm]

/-- An arm that is back in PRIME or FLUSH has set out from HELD. -/
theorem on_departs {f : Arm → Arm} (same : (f (v.arm a)).load = (v.arm a).load)
    (hold : (f (v.arm a)).hold = (v.arm a).hold) :
    s.Departs (((v.modArm a f).modLoad a fun l => { l with resume := none }).appendTrace a .phase) a
      (l.goesOn f0 f1 none) :=
  ⟨congrArg Arm.load (on_arm departs same), by rw [on_arm departs same]; exact hold.trans departs.hold,
    (on_kept State.header (fun _ _ _ => rfl) (fun _ _ _ => rfl) f).trans departs.header,
    (on_kept State.trips (fun _ _ _ => rfl) (fun _ _ _ => rfl) f).trans departs.trips,
    (on_kept State.settings (fun _ _ _ => rfl) (fun _ _ _ => rfl) f).trans departs.settings⟩

/-- PRIME goes on below the prime volume. -/
theorem resumePrime_below (below : l.data.product < l.recipe.primeVolume) :
    v.resumePrime a = v.primesOn a l.recipe.primeOpening := by
  simp only [State.resumePrime, departs.load]
  exact if_neg (Nat.not_le.mpr below)

/-- Past it V is evaluated, where PRIME_DONE fires nothing. -/
theorem resumePrime_past (past : l.recipe.primeVolume ≤ l.data.product)
    (silent : ∀ e ∈ l.recipe.checkpoints, e.event ≠ .primeDone) :
    v.resumePrime a = (v.primesOn a l.recipe.primeOpening).resumeBlending a false := by
  have goes := on_departs departs (f := fun x =>
    { x with state := .prime, mainOpening := l.recipe.primeOpening, ethanolOpening := 0, noFlow := v.noFlowStart }) rfl rfl
  have primes : v.resumePrime a = (v.primesOn a l.recipe.primeOpening).leavePrime a := by
    simp only [State.resumePrime, departs.load]
    exact if_pos past
  have leaves : (v.primesOn a l.recipe.primeOpening).leavePrime a =
      ((v.primesOn a l.recipe.primeOpening).resumeBlending a false).fireEvent a .primeDone := by
    have load : (v.primesOn a l.recipe.primeOpening).load? a = some (l.goesOn f0 f1 none) := goes.load
    simp only [State.leavePrime, State.resumeBlending, load, Bool.false_or, decide_eq_true_eq]
  obtain ⟨k, there, recipe, _⟩ := (measures_madeOn a l.recipe l.data.volumes).resumeBlending (b := a) false trivial
    ⟨l.goesOn f0 f1 none, goes.load, rfl, rfl⟩
  rw [primes, leaves]
  exact fireEvent_of_none there (by rw [recipe]; exact silent)

/-- A flush goes on below its end. -/
theorem resumeFlush_below {e : Nat} (end_ : l.flushEnd = some e) (below : l.data.product < e)
    (unmet : l.data.product < l.data.preset) : v.resumeFlush a = v.flushesOn a l.recipe.taperEndOpening := by
  have goes := on_departs departs (f := fun x =>
    { x with state := .flush, mainOpening := l.recipe.taperEndOpening, ethanolOpening := 0, noFlow := v.noFlowStart }) rfl rfl
  simp only [State.resumeFlush, departs.load]
  refine if_neg ?_
  have load : (v.flushesOn a l.recipe.taperEndOpening).load? a = some (l.goesOn f0 f1 none) := goes.load
  have flushEnd : (l.goesOn f0 f1 none).flushEnd = some e := end_
  change ¬ (v.flushesOn a l.recipe.taperEndOpening).flushEnded a = true
  simp only [State.flushEnded, load, flushEnd, Bool.or_eq_true, decide_eq_true_eq]
  change ¬ (l.data.preset ≤ l.data.product ∨ e ≤ l.data.product)
  omega

/-- At its end it closes. -/
theorem resumeFlush_ended {e : Nat} (end_ : l.flushEnd = some e)
    (reached : e ≤ l.data.product ∨ l.data.preset ≤ l.data.product) :
    v.resumeFlush a = (v.flushesOn a l.recipe.taperEndOpening).enterClosing a := by
  have goes := on_departs departs (f := fun x =>
    { x with state := .flush, mainOpening := l.recipe.taperEndOpening, ethanolOpening := 0, noFlow := v.noFlowStart }) rfl rfl
  simp only [State.resumeFlush, departs.load]
  refine if_pos ?_
  have load : (v.flushesOn a l.recipe.taperEndOpening).load? a = some (l.goesOn f0 f1 none) := goes.load
  have flushEnd : (l.goesOn f0 f1 none).flushEnd = some e := end_
  change (v.flushesOn a l.recipe.taperEndOpening).flushEnded a = true
  simp only [State.flushEnded, load, flushEnd, Bool.or_eq_true, decide_eq_true_eq]
  exact reached.symm

variable (before : s.load? a = some l) (held : (s.arm a).state = .held)
include before held

/-- The event of an arm that is back in PRIME or FLUSH. -/
theorem on_left {f : Arm → Arm} (same : (f (v.arm a)).load = (v.arm a).load)
    (hold : (f (v.arm a)).hold = (v.arm a).hold) (moved : (f (v.arm a)).state ≠ .held) :
    (State.endEvent s (((v.modArm a f).modLoad a fun l => { l with resume := none }).appendTrace a .phase)).arm a =
        { f (v.arm a) with load := some (l.goesOn f0 f1 none).bump } ∧
      (State.endEvent s (((v.modArm a f).modLoad a fun l => { l with resume := none }).appendTrace a .phase)).header =
        s.header ∧
      (State.endEvent s (((v.modArm a f).modLoad a fun l => { l with resume := none }).appendTrace a .phase)).Left a l
        (l.goesOn f0 f1 none).bump f0 f1 (f (v.arm a)).state := by
  have goes := on_departs departs same hold
  have arm := on_arm departs same
  obtain ⟨ended, header⟩ := endEvent_moved before goes.load rfl (by rw [arm, held]; exact moved)
    (endEvent_of_header goes.header)
  refine ⟨by rw [ended, arm], header.trans goes.header, ?_⟩
  exact left_of_arm (freed_goesOn ..) ended (by rw [arm]) goes.hold rfl

/-- The arm back in PRIME. -/
theorem primesOn_left (o : Nat) : (State.endEvent s (v.primesOn a o)).Left a l (l.goesOn f0 f1 none).bump f0 f1 .prime ∧
    ((State.endEvent s (v.primesOn a o)).arm a).mainOpening = o ∧
    ((State.endEvent s (v.primesOn a o)).arm a).ethanolOpening = 0 ∧
    ((State.endEvent s (v.primesOn a o)).arm a).noFlow = .running (s.settings.noFlowSeconds * 1000) ∧
    (State.endEvent s (v.primesOn a o)).header = s.header := by
  obtain ⟨arm, header, left_⟩ := on_left departs before held (f := fun x =>
    { x with state := .prime, mainOpening := o, ethanolOpening := 0, noFlow := v.noFlowStart }) rfl rfl nofun
  refine ⟨left_, congrArg Arm.mainOpening arm, congrArg Arm.ethanolOpening arm, (congrArg Arm.noFlow arm).trans ?_, header⟩
  rw [← departs.settings]
  rfl

/-- The arm back in FLUSH. -/
theorem flushesOn_left (o : Nat) : (State.endEvent s (v.flushesOn a o)).Left a l (l.goesOn f0 f1 none).bump f0 f1 .flush ∧
    ((State.endEvent s (v.flushesOn a o)).arm a).mainOpening = o ∧
    ((State.endEvent s (v.flushesOn a o)).arm a).ethanolOpening = 0 ∧
    ((State.endEvent s (v.flushesOn a o)).arm a).noFlow = .running (s.settings.noFlowSeconds * 1000) ∧
    (State.endEvent s (v.flushesOn a o)).header = s.header := by
  obtain ⟨arm, header, left_⟩ := on_left departs before held (f := fun x =>
    { x with state := .flush, mainOpening := o, ethanolOpening := 0, noFlow := v.noFlowStart }) rfl rfl nofun
  refine ⟨left_, congrArg Arm.mainOpening arm, congrArg Arm.ethanolOpening arm, (congrArg Arm.noFlow arm).trans ?_, header⟩
  rw [← departs.settings]
  rfl

end Departing

/-! ## The requests -/

/-- What the statement says of a load that has left HELD, once the port has its answer. -/
theorem leftHeld_of_left {s E : State} {p : Port} {a : Fin 8} {l m : Load} {f0 f1 : Bool} {x : ArmState}
    (left_ : E.Left a l m f0 f1 x) (response : (E.respond p (okay (.held l.data.number x {}))).response? p =
      some (okay (.held l.data.number x {}))) (elsewhere : s.SameOutsideArms (E.respond p (okay (.held l.data.number x {})))) :
    s.leftHeld (E.respond p (okay (.held l.data.number x {}))) p a l m f0 f1 x :=
  ⟨left_.load, left_.state, left_.hold, left_.causes, left_.resume, left_.flags, left_.revision, response, elsewhere⟩

end Sys2Proof.Machine
end

section
/-! PROOFS. The requests that end a hold (R44, R45, R51, R59, R112, R142). -/

namespace Sys2Proof.Machine

/-- An answer leaves what has been said of an arm in CLOSING. -/
theorem State.closingBegun.respond {t : State} {a : Fin 8} (h : t.closingBegun a) (p : Port) (r : Response) :
    (t.respond p r).closingBegun a := ⟨h.main, h.ethanol, h.settle, h.shares⟩

section Blending

variable {s v : State} {a : Fin 8} {l : Load} {f0 f1 : Bool} {r : Option ResumePhase}

/-- A load that resumes in a blending phase, or past its prime volume, evaluates V. -/
theorem releases_blends (load : s.load? a = some l) (kept : l.supplyLost = false)
    (resume : l.resume = some .ramp ∨ l.resume = some .full ∨ l.resume = some .taper ∨ l.resume = some .shareWait ∨
      (l.resume = some .prime ∧ l.recipe.primeVolume ≤ l.data.product ∧
        ∀ e ∈ l.recipe.checkpoints, e.event ≠ .primeDone)) :
    ∃ v r b, s.Departs v a (l.goesOn f0 f1 r) ∧ s.releases a f0 f1 = v.resumeBlending a b ∧
      (b = true ↔ l.resume = some .taper ∨ (l.resume = some .shareWait ∧ l.waitTarget = some .taper)) := by
  obtain ⟨primes, _, blends⟩ := releases_resumes (f0 := f0) (f1 := f1) load kept
  have departs := unheld_departs (f0 := f0) (f1 := f1) load
  have blending : (l.resume = some .ramp ∨ l.resume = some .full ∨ l.resume = some .taper ∨ l.resume = some .shareWait) →
      ∃ v r b, s.Departs v a (l.goesOn f0 f1 r) ∧ s.releases a f0 f1 = v.resumeBlending a b ∧
        (b = true ↔ l.resume = some .taper ∨ (l.resume = some .shareWait ∧ l.waitTarget = some .taper)) :=
    fun resume => ⟨_, _, _, departs, blends resume, decide_eq_true_iff⟩
  rcases resume with resume | resume | resume | resume | ⟨prime, past, silent⟩
  · exact blending (.inl resume)
  · exact blending (.inr (.inl resume))
  · exact blending (.inr (.inr (.inl resume)))
  · exact blending (.inr (.inr (.inr resume)))
  · refine ⟨_, _, false, on_departs departs rfl rfl, (primes prime).trans (resumePrime_past departs past silent), ?_⟩
    rw [prime]
    simp

/-- What the evaluation of V does. -/
theorem resumeBlending_eq (departs : s.Departs v a (l.goesOn f0 f1 r)) (b : Bool) :
    (l.data.preset ≤ l.data.product → v.resumeBlending a b = v.enterClosing a) ∧
      (l.data.product < l.data.preset → l.data.flushPoint ≤ l.data.product →
        v.resumeBlending a b = v.enterFlush a .ordered) ∧
      (l.data.product < l.data.preset → l.data.product < l.data.flushPoint →
        ∀ w : WaitTarget, (w = .taper ↔ b = true ∨ l.data.taperPoint ≤ l.data.product) →
          v.resumeBlending a b = v.requestShares a w) := by
  have goes : v.resumeBlending a b =
      if l.data.preset ≤ l.data.product then v.enterClosing a
      else if l.data.flushPoint ≤ l.data.product then v.enterFlush a .ordered
      else if b || decide (l.data.taperPoint ≤ l.data.product) then v.requestShares a .taper
      else v.requestShares a .ramp := by
    simp only [State.resumeBlending, departs.load]
    rfl
  rw [goes]
  refine ⟨fun at_ => if_pos at_, fun below at_ => ?_, fun below early w target => ?_⟩
  · rw [if_neg (by omega), if_pos at_]
  · rw [if_neg (by omega), if_neg (by omega)]
    cases w with
    | taper => exact if_pos (by simpa using target)
    | ramp => exact if_neg (by simpa using target)

end Blending

/-- The main opening of TAPER below the taper point, and at the step that matches V. -/
theorem taperEntryOpening_steps {l : Load} {o c : Nat} (at_ : o = l.taperEntryOpening c) :
    (l.data.product < l.data.taperPoint → o = c) ∧
      ∀ j, 1 ≤ j → j ≤ l.recipe.taperSteps →
        l.data.taperPoint + (j - 1) * l.recipe.taperVolume / l.recipe.taperSteps ≤ l.data.product →
        (∀ k, j < k → k ≤ l.recipe.taperSteps →
          l.data.product < l.data.taperPoint + (k - 1) * l.recipe.taperVolume / l.recipe.taperSteps) →
        o = min (l.recipe.fullOpening - (l.recipe.fullOpening - l.recipe.taperEndOpening) * j / l.recipe.taperSteps) c :=
  ⟨fun below => at_.trans (taperEntryOpening_below c below),
    fun _ low high reached last => at_.trans (taperEntryOpening_at c low high reached last)⟩

/-- Settles O25: the load goes on by its resume phase and where V lies. -/
theorem removingLastCauseResumes : Obligations.RemovingLastCauseResumes := by
  unfold Obligations.RemovingLastCauseResumes
  intro p tag a n l i f0 f1 s free named held request
  obtain ⟨rc, act, run, may, plain, effect⟩ := exec_releases named held request
  have load : (s.accept p rc.toByte tag).load? a = some l := named.2.1
  have departs := unheld_departs (f0 := f0) (f1 := f1) load
  have finish : ∀ {u : State} {m : Load} {x : ArmState}, (s.accept p rc.toByte tag).releases a f0 f1 = u →
      (State.endEvent (s.accept p rc.toByte tag) u).Left a l m f0 f1 x →
      exec i s = .next ((State.endEvent (s.accept p rc.toByte tag) u).respond p (okay (.held l.data.number x {}))) ∧
        s.leftHeld ((State.endEvent (s.accept p rc.toByte tag) u).respond p (okay (.held l.data.number x {}))) p a l m f0 f1 x := by
    rintro u m x rfl left_
    have answered := effect.trans (answerHeld_eq left_.load)
    rw [left_.number, left_.state, left_.causes] at answered
    obtain ⟨next, response, elsewhere⟩ := next_event free may plain answered
      (endEvent_frame _ ((frame_madeOn _).leaveHeld (b := a) trivial
        ((frame_madeOn _).modLoad _ trivial (.refl _) fun _ => ⟨rfl, rfl, rfl, id⟩)))
    exact ⟨run.trans next, leftHeld_of_left left_ response elsewhere⟩
  refine ⟨fun lost => ?lost, fun e kept resume end_ => ⟨fun below unmet => ?flush, fun reached => ?flushed⟩,
    fun kept resume below => ?prime, fun kept resume => ?blend⟩
  case lost =>
    obtain ⟨m, left_, begun, due⟩ := departs_closes load held departs
    obtain ⟨next, done⟩ := finish (releases_lost load lost) left_
    exact ⟨_, m, next, done, begun.respond _ _, due⟩
  case flush =>
    obtain ⟨left_, main, ethanol, noFlow, header⟩ := flushesOn_left departs load held l.recipe.taperEndOpening
    obtain ⟨next, done⟩ := finish
      (((releases_resumes load kept).2.1 resume).trans (resumeFlush_below departs end_ below unmet)) left_
    exact ⟨_, _, next, done, main, ethanol, noFlow, end_, rfl, header⟩
  case flushed =>
    obtain ⟨m, left_, begun, due⟩ := departs_closes load held (on_departs departs (f := fun x =>
      { x with
        state := .flush, mainOpening := l.recipe.taperEndOpening, ethanolOpening := 0
        noFlow := ((s.accept p rc.toByte tag).unheld a f0 f1).noFlowStart }) rfl rfl)
    obtain ⟨next, done⟩ := finish
      (((releases_resumes load kept).2.1 resume).trans (resumeFlush_ended departs end_ reached)) left_
    exact ⟨_, m, next, done, begun.respond _ _, due⟩
  case prime =>
    obtain ⟨left_, main, ethanol, noFlow, header⟩ := primesOn_left departs load held l.recipe.primeOpening
    obtain ⟨next, done⟩ := finish (((releases_resumes load kept).1 resume).trans (resumePrime_below departs below)) left_
    exact ⟨_, _, next, done, main, ethanol, noFlow, rfl, header⟩
  case blend =>
    obtain ⟨v, r, b, departs, goes, toTaper⟩ := releases_blends (f0 := f0) (f1 := f1) load kept resume
    obtain ⟨closes, flushes, requests⟩ := resumeBlending_eq departs b
    refine ⟨fun at_ => ?_, fun below at_ early => ?_, fun w below early target => ?_⟩
    · obtain ⟨m, left_, begun, due⟩ := departs_closes load held departs
      obtain ⟨next, done⟩ := finish (goes.trans (closes at_)) left_
      exact ⟨_, m, next, done, begun.respond _ _, due⟩
    · obtain ⟨m, left_, main, ethanol, noFlow, shares, flushEnd, flushKind, due⟩ := departs_flushes load held departs early
      obtain ⟨next, done⟩ := finish (goes.trans (flushes below at_)) left_
      exact ⟨_, m, next, done, main, ethanol, noFlow, shares, flushEnd, flushKind, due⟩
    · have asks := goes.trans (requests below early w (by rw [target, toTaper, or_assoc]))
      refine ⟨fun grants silent => ?_, fun some_ present full blocked => ?_, fun some_ lost => ?_⟩
      · obtain ⟨m, left_, blends⟩ := departs_blends load held departs grants silent
        obtain ⟨next, done⟩ := finish asks left_
        refine ⟨_, m, next, done, blends.ethanol, blends.noFlow, ?_, blends.ramp, fun tapers => ?_, ?_⟩
        · refine blends.header.trans ?_
          unfold State.sharesGranted
          split <;> rfl
        · obtain ⟨ceiling, main⟩ := blends.taper tapers
          exact ⟨ceiling, taperEntryOpening_steps main⟩
        · intro i y k small line order present pos
          obtain ⟨set, queues⟩ := blends.lines i y k small line order present
          obtain ⟨j, at_, low, above, near⟩ := firstAbove_steps l.recipe.primeVolume l.data.product pos
          exact ⟨⟨j, low, above, near, by rw [set, ← at_]; rfl⟩, queues⟩
      · obtain ⟨m, left_, main, ethanol, noFlow, target, lines, header⟩ :=
          departs_waits load held departs some_ present full blocked
        obtain ⟨next, done⟩ := finish asks left_
        exact ⟨_, m, next, done, main, ethanol, noFlow, target, lines, header⟩
      · obtain ⟨m, left_, begun, faults, due⟩ := departs_refused load held departs some_ lost
        obtain ⟨next, done⟩ := finish asks left_
        exact ⟨_, m, next, done, begun.respond _ _, faults, due⟩

end Sys2Proof.Machine
end

section
/-! PROOFS. What stands once a station is in FAULT: the station itself, its transaction, and the lines at it, whatever becomes of
arms, other stations and the bus (R125, R131, R134, R138). -/

namespace Sys2Proof.Machine

/-! ## A station that does not ask -/

/-- The transaction of a station on the bus. -/
def State.txnAt (s : State) (st : Fin 4) : Option Txn := s.bus.txn.filter fun y => y.station = st

/-- A station's shot is its own or its transaction's. -/
theorem shotOf_eq (s : State) (st : Fin 4) :
    s.shotOf st = match (s.station st).shot with
      | some sh => some sh
      | none => (s.txnAt st).bind Txn.shot := by
  unfold State.shotOf State.txnAt
  cases (s.station st).shot with
  | some sh => rfl
  | none =>
    cases s.bus.txn with
    | none => rfl
    | some y => by_cases own : y.station = st <;> simp [Option.filter_some, own]

/-- A transaction that is formed is its station's. -/
theorem formTxn_station {s : State} {d : Fin 4} {y : Txn} (formed : s.formTxn d = some y) : y.station = d := by
  unfold State.formTxn at formed
  split at formed
  · split at formed
    · exact absurd formed nofun
    · split at formed <;> (obtain rfl := Option.some.inj formed; rfl)
  · split at formed
    · exact absurd formed nofun
    · obtain rfl := Option.some.inj formed
      rfl
  · split at formed
    · obtain rfl := Option.some.inj formed
      rfl
    · exact absurd formed nofun
  · exact absurd formed nofun
  · exact absurd formed nofun

/-- The arbiter leaves a station that does not ask, and its transaction. -/
theorem arbitrate_silent {s : State} {st : Fin 4} (silent : (s.station st).request = false) :
    s.arbitrate.station st = s.station st ∧ s.arbitrate.txnAt st = s.txnAt st := by
  unfold State.arbitrate
  split
  · exact ⟨rfl, rfl⟩
  · rename_i free
    have none_ : s.bus.txn = none := by simpa using free
    split
    · exact ⟨rfl, rfl⟩
    · rename_i d found
      have ne : st ≠ d := by
        rintro rfl
        have asks := (State.nextRequester_eq_some.mp found).1
        exact absurd (silent.symm.trans asks) nofun
      refine ⟨State.modStation_station_ne s d (fun x => { x with request := false }) st ne, ?_⟩
      have after : State.txnAt
          { s.modStation d fun x => { x with request := false } with bus := { pointer := d, txn := s.formTxn d } } st =
            none := by
        refine Option.filter_eq_none_iff.mpr fun y formed => ?_
        simpa [formTxn_station formed] using ne.symm
      rw [after, State.txnAt, none_]
      rfl

/-- An entry that joins another queue leaves it. -/
theorem appendEntry_silent {s : State} {st k : Fin 4} (silent : (s.station st).request = false) (ne : k ≠ st) (e : QueueEntry) :
    (s.appendEntry k e).station st = s.station st ∧ (s.appendEntry k e).txnAt st = s.txnAt st := by
  have queued := State.modStation_station_ne s k (fun x => { x with queue := x.queue ++ [e] }) st ne.symm
  unfold State.appendEntry
  dsimp only
  split
  · have asked : ((s.modStation k fun x => { x with queue := x.queue ++ [e] }).modStation k fun x =>
        { x with request := true }).station st = s.station st :=
      (State.modStation_station_ne _ k (fun x => { x with request := true }) st ne.symm).trans queued
    obtain ⟨station, txn⟩ := arbitrate_silent (s := (s.modStation k fun x => { x with queue := x.queue ++ [e] }).modStation k
      fun x => { x with request := true }) (by rw [asked]; exact silent)
    exact ⟨station.trans asked, txn⟩
  · exact ⟨queued, rfl⟩

/-- A change of the transaction leaves the stations. -/
theorem modTxn_station (s : State) (f : Txn → Txn) (k : Fin 4) : (s.modTxn f).station k = s.station k := rfl

/-- A change of the shot of one station's transaction leaves the others' transactions. -/
theorem txnAt_modTxn_ne {s : State} {k st : Fin 4} (ne : k ≠ st) (f : Txn → Txn) (same : ∀ y, (f y).station = y.station) :
    (s.modTxn fun y => if y.station = k then f y else y).txnAt st = s.txnAt st := by
  unfold State.txnAt State.modTxn
  dsimp only
  cases s.bus.txn with
  | none => rfl
  | some y =>
    by_cases own : y.station = k
    · simp [Option.filter_some, own, same, ne]
    · simp [own]

/-- The transaction of the station itself. -/
theorem txnAt_modTxn_self (s : State) (st : Fin 4) (f : Txn → Txn) (same : ∀ y, (f y).station = y.station) :
    (s.modTxn fun y => if y.station = st then f y else y).txnAt st = (s.txnAt st).map f := by
  unfold State.txnAt State.modTxn
  dsimp only
  cases s.bus.txn with
  | none => rfl
  | some y =>
    by_cases own : y.station = st
    · simp [Option.filter_some, own, same]
    · simp [Option.filter_some, own]

/-- A station that has neither queue, request nor shot, nor has its transaction `c` a shot. -/
structure Station.Emptied (x : Station) (c : Option Txn) : Prop where
  queue : x.queue = []
  request : x.request = false
  shot : x.shot = none
  txn : c.bind Txn.shot = none

/-- An arm's withdrawal from its queue leaves it so. -/
theorem dropEntry_emptied {s : State} {st k : Fin 4} {x : Station} {c : Option Txn} (emptied : x.Emptied c)
    (station : s.station st = x) (txn : s.txnAt st = c) (b : Fin 8) :
    (s.dropEntry k b).station st = x ∧ (s.dropEntry k b).txnAt st = c := by
  have sameTxn : ∀ y ∈ c, ({ y with shot := y.shot.map fun sh =>
      if sh.arm = b ∧ sh.standing = .inEntry then { sh with standing := .withdrawn } else sh } : Txn) = y := by
    intro y at_
    obtain rfl : c = some y := at_
    have none_ : y.shot = none := emptied.txn
    rw [none_]
    rcases y with ⟨⟩
    simp_all
  by_cases own : k = st
  · subst own
    refine ⟨?_, ?_⟩
    · unfold State.dropEntry State.modShot
      rw [modTxn_station, State.modStation_modStation, State.modStation_station_self, station]
      obtain ⟨queue, request, shot, _⟩ := emptied
      rcases x with ⟨⟩
      simp_all
    · unfold State.dropEntry State.modShot
      rw [txnAt_modTxn_self _ _ (fun y => { y with shot := y.shot.map fun sh =>
        if sh.arm = b ∧ sh.standing = .inEntry then { sh with standing := .withdrawn } else sh }) fun _ => rfl]
      change (s.txnAt k).map _ = c
      rw [txn]
      cases at_ : c with
      | none => rfl
      | some y => exact congrArg some (sameTxn y at_)
  · refine ⟨?_, ?_⟩
    · unfold State.dropEntry State.modShot
      rw [modTxn_station, State.modStation_modStation, State.modStation_station_ne _ _ _ _ (Ne.symm own), station]
    · unfold State.dropEntry State.modShot
      rw [txnAt_modTxn_ne own (fun y => { y with shot := y.shot.map fun sh =>
        if sh.arm = b ∧ sh.standing = .inEntry then { sh with standing := .withdrawn } else sh }) fun _ => rfl]
      exact txn

/-! ## What stands -/

/-- Station `st` stands as `x` with its transaction `c`, and the arms of `K` have no kept shots at it; the lines of `R` have the
counts that are theirs once the kept shots are missed. -/
structure State.FaultStands (st : Fin 4) (x : Station) (c : Option Txn) (K : Fin 8 → Prop)
    (R : Fin 8 → Nat → LineRecord → Prop) (t : State) : Prop where
  station : t.station st = x
  txn : t.txnAt st = c
  kept : ∀ a l, K a → t.load? a = some l → ∀ z ∈ l.lines, z.counts.station = st → z.counts.skipped = false → z.kept = 0
  lines : ∀ a i d l, R a i d → t.load? a = some l →
    ∃ z, l.lines[i]? = some z ∧ z.counts.station = st ∧ z.counts.skipped = false ∧ z.counts.miss z.kept = d

namespace State.FaultStands

variable {st : Fin 4} {x : Station} {c : Option Txn} {K : Fin 8 → Prop} {R : Fin 8 → Nat → LineRecord → Prop} {s t : State}

/-- It rests on the station, its transaction and the lines of the loads. -/
theorem of_lines (h : s.FaultStands st x c K R) (station : t.station st = s.station st) (txn : t.txnAt st = s.txnAt st)
    (lines : ∀ a l, t.load? a = some l → ∃ k, s.load? a = some k ∧ l.lines = k.lines) : t.FaultStands st x c K R := by
  refine ⟨station.trans h.station, txn.trans h.txn, fun a l own load z mem => ?_, fun a i d l own load => ?_⟩
  · obtain ⟨k, before, same⟩ := lines a l load
    exact h.kept a k own before z (same ▸ mem)
  · obtain ⟨k, before, same⟩ := lines a l load
    rw [same]
    exact h.lines a i d k own before

/-- Where the loads stay, it rests on the station and its transaction. -/
theorem of_load (h : s.FaultStands st x c K R) (station : t.station st = s.station st) (txn : t.txnAt st = s.txnAt st)
    (load : ∀ a, t.load? a = s.load? a) : t.FaultStands st x c K R :=
  h.of_lines station txn fun a l there => ⟨l, (load a).symm.trans there, rfl⟩

/-- A change of the lines of one arm's load, which may join `K` with it. -/
theorem modLines (h : s.FaultStands st x c K R) (b : Fin 8) {g : Load → Load} {K' : Fin 8 → Prop}
    (sub : ∀ a, a ≠ b → K' a → K a)
    (kept : ∀ l, s.load? b = some l → K' b → ∀ z ∈ (g l).lines, z.counts.station = st → z.counts.skipped = false → z.kept = 0)
    (lines : ∀ l, s.load? b = some l → ∀ i d, R b i d → ∃ z, (g l).lines[i]? = some z ∧ z.counts.station = st ∧
      z.counts.skipped = false ∧ z.counts.miss z.kept = d) : (s.modLoad b g).FaultStands st x c K' R := by
  have other : ∀ a, a ≠ b → (s.modLoad b g).load? a = s.load? a := fun a ne =>
    congrArg Arm.load (State.modArm_arm_ne _ _ _ _ ne)
  refine ⟨h.station, h.txn, fun a l own load => ?_, fun a i d l own load => ?_⟩
  · by_cases same : a = b
    · subst same
      rw [State.modLoad_load_self] at load
      obtain ⟨k, before, rfl⟩ := Option.map_eq_some_iff.mp load
      exact kept k before own
    · rw [other a same] at load
      exact h.kept a l (sub a same own) load
  · by_cases same : a = b
    · subst same
      rw [State.modLoad_load_self] at load
      obtain ⟨k, before, rfl⟩ := Option.map_eq_some_iff.mp load
      exact lines k before i d own
    · rw [other a same] at load
      exact h.lines a i d l own load

/-- A change of one line of an arm of `K` that leaves lines at the station. -/
theorem modLine (h : s.FaultStands st x c K R) {b : Fin 8} (own : K b) (i : Nat) (f : Line → Line)
    (place : ∀ z, (f z).counts.station = z.counts.station ∧ (f z).counts.skipped = z.counts.skipped)
    (still : ∀ l z, s.load? b = some l → l.lines[i]? = some z → z.counts.station = st → z.counts.skipped = false →
      (f z).kept = 0 ∧ (f z).counts = z.counts) : (s.modLine b i f).FaultStands st x c K R := by
  refine h.modLines b (fun _ _ => id) (fun l load _ z mem at_ present => ?_) fun l load j d line => ?_
  · obtain ⟨j, there⟩ := List.mem_iff_getElem?.mp mem
    rw [List.getElem?_modify] at there
    obtain ⟨z0, before, rfl⟩ := Option.map_eq_some_iff.mp there
    by_cases same : i = j
    · subst same
      rw [if_pos rfl] at at_ present ⊢
      exact (still l z0 load before ((place z0).1.symm.trans at_) ((place z0).2.symm.trans present)).1
    · rw [if_neg same] at at_ present ⊢
      exact h.kept b l own load z0 (List.mem_of_getElem? before) at_ present
  · obtain ⟨z, there, at_, present, counts⟩ := h.lines b j d l line load
    by_cases same : i = j
    · subst same
      obtain ⟨kept, unchanged⟩ := still l z load there at_ present
      have none_ := h.kept b l own load z (List.mem_of_getElem? there) at_ present
      refine ⟨f z, by simp [there], (place z).1.trans at_, (place z).2.trans present, ?_⟩
      rw [kept, unchanged, ← none_]
      exact counts
    · exact ⟨z, (List.getElem?_modify_ne _ _ same).trans there, at_, present, counts⟩

end State.FaultStands

/-- No shots missed. -/
theorem miss_zero (c : LineRecord) : c.miss 0 = c := by simp [LineRecord.miss]

section Stands

variable {st : Fin 4} {x : Station} {c : Option Txn} (emptied : x.Emptied c) (K : Fin 8 → Prop)
  (R : Fin 8 → Nat → LineRecord → Prop)
include emptied

/-- A line withdrawn at an arm of `K` leaves it. -/
theorem withdrawLine_stands {s : State} (h : s.FaultStands st x c K R) {b : Fin 8} (own : K b) (keep : Bool) (i : Nat) :
    (s.withdrawLine b keep i).FaultStands st x c K R := by
  unfold State.withdrawLine
  split
  · exact h
  · rename_i y line
    split
    · exact h
    · obtain ⟨station, txn⟩ := dropEntry_emptied (k := y.counts.station) emptied h.station h.txn b
      have dropped : (s.dropEntry y.counts.station b).FaultStands st x c K R :=
        h.of_load (station.trans h.station.symm) (txn.trans h.txn.symm) fun _ => rfl
      refine dropped.modLine own i _ (fun z => ?_) fun l z load there at_ present => ?_
      · cases keep <;> exact ⟨rfl, rfl⟩
      · have load' : s.load? b = some l := load
        have same : y = z := by
          rw [State.line?, load'] at line
          exact Option.some.inj (line.symm.trans there)
        subst same
        have none_ : s.entryOwed y.counts.station b - s.inEntryShots y.counts.station b = 0 := by
          rw [at_, State.entryOwed, h.station, emptied.queue]
          exact Nat.zero_sub _
        have kept := h.kept b l own load' y (List.mem_of_getElem? there) at_ present
        rw [none_]
        cases keep
        · refine ⟨rfl, ?_⟩
          change y.counts.miss (0 + y.kept) = y.counts
          rw [kept]
          exact miss_zero _
        · exact ⟨kept, rfl⟩

/-- A line set again at an arm of `K` leaves it. -/
theorem requeueLine_stands {s : State} (h : s.FaultStands st x c K R) {b : Fin 8} (own : K b) (i : Nat) :
    (s.requeueLine b i).FaultStands st x c K R := by
  unfold State.requeueLine
  split
  · exact h
  · rename_i l load
    split
    · rename_i y k line order
      split
      · exact h
      · rename_i skips
        dsimp only
        have set : (s.modLine b i (l.requeuedLine k)).FaultStands st x c K R :=
          h.modLine own i _ (fun _ => ⟨rfl, rfl⟩) fun _ _ _ _ _ _ => ⟨rfl, rfl⟩
        split
        · exact set
        · rename_i some_
          have ne : y.counts.station ≠ st := fun at_ =>
            some_ (h.kept b l own load y (List.mem_of_getElem? line) at_ (by simpa using skips))
          obtain ⟨station, txn⟩ := appendEntry_silent (s := s.modLine b i (l.requeuedLine k)) (k := y.counts.station)
            (by rw [set.station]; exact emptied.request) ne { arm := b, load := l.data.number, line := i, owed := y.kept }
          refine set.of_load station txn fun a => ?_
          exact congrArg Arm.load ((aside_onStations a (s.modLine b i (l.requeuedLine k))).appendEntry y.counts.station
            { arm := b, load := l.data.number, line := i, owed := y.kept } ⟨rfl, rfl⟩).1
    · exact h
    · exact h

/-- It stands through every move of the arms of `K`. -/
theorem faultStands_moves : Moves K (State.FaultStands st x c K R) where
  move := by
    intro s b f g own h load kept
    refine h.of_lines rfl rfl fun a l there => ?_
    by_cases same : a = b
    · subst same
      rw [State.load?_modArm_self, load] at there
      obtain ⟨k, before, rfl⟩ := Option.map_eq_some_iff.mp there
      exact ⟨k, before, (kept k).lines⟩
    · exact ⟨l, (congrArg Arm.load (State.modArm_arm_ne _ _ _ _ same)).symm.trans there, rfl⟩
  drop _ h := h.of_load rfl rfl fun _ => rfl
  grant _ _ h := h.of_load rfl rfl fun _ => rfl
  queue _ _ _ h := h.of_load rfl rfl fun _ => rfl
  page _ _ h := h.of_load rfl rfl fun _ => rfl
  raise n ps _ h := h.of_load (raise_kept (fun t => t.station st) (fun _ _ _ => rfl) n ps _)
    (raise_kept (fun t => t.txnAt st) (fun _ _ _ => rfl) n ps _) fun a => raise_kept (fun t => t.load? a) (fun _ _ _ => rfl) n ps _
  withdrawLine keep i own h := withdrawLine_stands emptied K R h own keep i
  requeueLine i own h := requeueLine_stands emptied K R h own i

/-- And through the serving of the wait list where `K` holds all arms. -/
theorem faultStands_serves : Serves (fun _ => True) (State.FaultStands st x c (fun _ => True) R) :=
  { faultStands_moves emptied (fun _ => True) R with
    head := fun h _ => ⟨trivial, h.of_load rfl rfl fun _ => rfl⟩ }

end Stands

end Sys2Proof.Machine
end

section
/-! PROOFS. The first items of a station fault: the station, the shot in flight and the queue (R134). -/

namespace Sys2Proof.Machine

/-! ## Changes of the counts of lines -/

/-- The station of a line, and whether it is SKIPPED. -/
def Line.place (z : Line) : Fin 4 × Bool := (z.counts.station, z.counts.skipped)

/-- Between two states the arms have changed by the counts of their loads' lines alone. -/
structure State.Recounted (s t : State) : Prop where
  arm : ∀ a, ∃ g : Load → Load, t.arm a = { s.arm a with load := (s.arm a).load.map g } ∧
    ∀ l, ∃ ls, g l = { l with lines := ls } ∧ ls.map Line.place = l.lines.map Line.place
  header : t.header = s.header

namespace State.Recounted

variable {s t u : State}

/-- Where the arms stay, nothing is counted. -/
theorem of_arms (arms : t.arms = s.arms) (header : t.header = s.header) : s.Recounted t := by
  refine ⟨fun a => ⟨id, ?_, fun l => ⟨l.lines, rfl, rfl⟩⟩, header⟩
  rw [State.arm, arms, Option.map_id]
  rfl

/-- Two changes of counts in a row. -/
theorem trans (h : s.Recounted t) (k : t.Recounted u) : s.Recounted u := by
  refine ⟨fun a => ?_, k.header.trans h.header⟩
  obtain ⟨g, arm, lines⟩ := h.arm a
  obtain ⟨f, arm', lines'⟩ := k.arm a
  refine ⟨fun l => f (g l), ?_, fun l => ?_⟩
  · rw [arm', arm, Option.map_map]
    rfl
  · obtain ⟨ls, set, places⟩ := lines l
    obtain ⟨ks, set', places'⟩ := lines' (g l)
    refine ⟨ks, ?_, ?_⟩
    · exact set'.trans (by rw [set])
    · rw [places', set]
      exact places

/-- A change of the counts of one line. -/
theorem modLine (h : s.Recounted t) (b : Fin 8) (i : Nat) {f : Line → Line} (same : ∀ z, (f z).place = z.place) :
    s.Recounted (t.modLine b i f) := by
  refine h.trans ⟨fun a => ?_, rfl⟩
  by_cases own : a = b
  · subst own
    refine ⟨fun l => { l with lines := l.lines.modify i f }, State.modArm_arm_self .., fun l => ⟨_, rfl, ?_⟩⟩
    apply List.ext_getElem?
    intro j
    simp only [List.getElem?_map, List.getElem?_modify]
    cases l.lines[j]? with
    | none => rfl
    | some x => by_cases at_ : i = j <;> simp [at_, same]
  · refine ⟨id, ?_, fun l => ⟨l.lines, rfl, rfl⟩⟩
    rw [Option.map_id]
    exact State.modArm_arm_ne _ _ _ _ own

/-- The load after it. -/
theorem load (h : s.Recounted t) {a : Fin 8} {l : Load} (before : s.load? a = some l) :
    ∃ ls, t.arm a = (s.arm a).relined l ls ∧ ls.map Line.place = l.lines.map Line.place := by
  obtain ⟨g, arm, lines⟩ := h.arm a
  obtain ⟨ls, set, places⟩ := lines l
  refine ⟨ls, ?_, places⟩
  rw [arm, show (s.arm a).load = some l from before, Option.map_some, set]
  rfl

end State.Recounted

/-! ## Lines required at a station (R134) -/

/-- The model's test is the statement's. -/
theorem requires_iff {l : Load} {st : Fin 4} : State.requires l st = true ↔ l.hasRequired st := by
  rw [State.requires, List.any_eq_true]
  constructor
  · rintro ⟨⟨y, k⟩, mem, test⟩
    obtain ⟨i, at_⟩ := List.mem_iff_getElem?.mp mem
    obtain ⟨line, order⟩ := List.getElem?_zip_eq_some.mp at_
    simp only [Bool.and_eq_true, decide_eq_true_eq, Bool.not_eq_true'] at test
    obtain ⟨⟨station, present⟩, required⟩ := test
    exact ⟨i, y, k, line, order, station, present, required⟩
  · rintro ⟨i, y, k, line, order, station, present, required⟩
    refine ⟨(y, k), List.mem_of_getElem? (List.getElem?_zip_eq_some.mpr ⟨line, order⟩), ?_⟩
    simp [station, present, required]

/-- It looks at the places of the lines alone. -/
theorem requires_congr {l m : Load} (recipe : m.recipe = l.recipe) (places : m.lines.map Line.place = l.lines.map Line.place)
    (st : Fin 4) : State.requires m st = State.requires l st := by
  have places_ : ∀ k : Load, State.requires k st =
      ((k.lines.map Line.place).zip k.recipe.lines).any fun x => decide (x.1.1 = st) && !x.1.2 && x.2.required := by
    intro k
    rw [List.zip_map_left, List.any_map]
    rfl
  rw [places_, places_, places, recipe]

/-! ## Items 1 to 3 -/

/-- The state with items 1 to 3 done. -/
def State.cleared (s : State) (st : Fin 4) : State :=
  ((s.faultStation st).unconfirmShot st).missQueue st (s.inEntryArm st)

/-- The station in FAULT. -/
def Station.faulted (x : Station) : Station :=
  { x with
    state := .fault, request := false, changeover := .stopped, poll := .stopped, shotTimer := .stopped, shot := none
    queue := [] }

/-- Its transaction. -/
def Txn.faulted (y : Txn) : Txn := { y with discarded := true, shot := none }

/-- The station has nothing left. -/
theorem faulted_emptied (x : Station) (c : Option Txn) : x.faulted.Emptied (c.map Txn.faulted) := by
  refine ⟨rfl, rfl, rfl, ?_⟩
  cases c <;> rfl

/-- The misses of a queue change lines alone. -/
theorem foldl_missEntry_kept {P : State → Prop} (modLine : ∀ t b i (f : LineRecord → LineRecord),
    (∀ c, (f c).station = c.station ∧ (f c).skipped = c.skipped) → P t → P (t.modLine b i (Line.modCounts f)))
    (who : Option (Fin 8)) (q : List QueueEntry) {s : State} (hs : P s) : P (q.foldl (State.missEntry who) s) :=
  Leaving.foldl _ hs fun t e ht => modLine t e.arm e.line _ (fun _ => ⟨rfl, rfl⟩) ht

section Cleared

variable (s : State) (st : Fin 4)

/-- The station and its transaction in FAULT. -/
theorem faultStation_station : (s.faultStation st).station st =
      { s.station st with
        state := .fault, request := false, changeover := .stopped, poll := .stopped, shotTimer := .stopped } ∧
    (s.faultStation st).txnAt st = (s.txnAt st).map fun y => { y with discarded := true } := by
  refine ⟨?_, ?_⟩
  · rw [State.faultStation, modTxn_station, State.modStation_station_self]
  · rw [State.faultStation, txnAt_modTxn_self _ _ (fun y => { y with discarded := true }) fun _ => rfl]
    rfl

/-- The state with its shot gone. -/
theorem dropShot_station : (s.dropShot st).station st = { s.station st with shot := none } ∧
    (s.dropShot st).txnAt st = (s.txnAt st).map fun y => { y with shot := none } := by
  refine ⟨?_, ?_⟩
  · rw [State.dropShot, modTxn_station, State.modStation_station_self]
  · rw [State.dropShot, txnAt_modTxn_self _ _ (fun y => { y with shot := none }) fun _ => rfl]
    rfl

/-- With or without a shot in flight, there is none afterwards. -/
theorem unconfirmShot_station : (s.unconfirmShot st).station st = { s.station st with shot := none } ∧
    (s.unconfirmShot st).txnAt st = (s.txnAt st).map fun y => { y with shot := none } := by
  unfold State.unconfirmShot
  cases shot : s.shotOf st with
  | none =>
    rw [shotOf_eq] at shot
    cases own : (s.station st).shot with
    | some sh => rw [own] at shot; exact absurd shot nofun
    | none =>
      rw [own] at shot
      dsimp only at shot
      have same : { s.station st with shot := none } = s.station st := by rw [← own]
      dsimp only
      refine ⟨same.symm, ?_⟩
      cases at_ : s.txnAt st with
      | none => rfl
      | some y =>
        rw [at_] at shot
        have none_ : y.shot = none := shot
        rw [Option.map_some, ← none_]
  | some sh =>
    dsimp only
    split
    · exact dropShot_station s st
    · exact dropShot_station s st

/-- The station after items 1 to 3. -/
theorem cleared_station : (s.cleared st).station st = (s.station st).faulted ∧
    (s.cleared st).txnAt st = (s.txnAt st).map Txn.faulted := by
  obtain ⟨fault, faultTxn⟩ := faultStation_station s st
  obtain ⟨shot, shotTxn⟩ := unconfirmShot_station (s.faultStation st) st
  unfold State.cleared State.missQueue
  refine foldl_missEntry_kept (P := fun t => t.station st = (s.station st).faulted ∧
    t.txnAt st = (s.txnAt st).map Txn.faulted) (fun _ _ _ _ _ h => h) _ _ ⟨?_, ?_⟩
  · rw [State.modStation_station_self, shot, fault]
    rfl
  · change ((s.faultStation st).unconfirmShot st).txnAt st = _
    rw [shotTxn, faultTxn, Option.map_map]
    rfl

/-- The arms after items 1 to 3. -/
theorem cleared_recounted : s.Recounted (s.cleared st) := by
  have counts : ∀ {t : State} (b : Fin 8) (i : Nat) {f : LineRecord → LineRecord},
      (∀ c, (f c).station = c.station ∧ (f c).skipped = c.skipped) → s.Recounted t →
      s.Recounted (t.modLine b i (Line.modCounts f)) := fun b i f same h =>
    h.modLine b i fun z => by
      obtain ⟨station, skipped⟩ := same z.counts
      exact Prod.ext station skipped
  refine foldl_missEntry_kept (P := s.Recounted) (fun _ b i _ same h => counts b i same h) _ _ ?_
  have shot : s.Recounted ((s.faultStation st).unconfirmShot st) := by
    unfold State.unconfirmShot
    split
    · exact .of_arms rfl rfl
    · dsimp only
      split
      · exact .of_arms rfl rfl
      · exact counts _ _ (fun _ => ⟨rfl, rfl⟩) (.of_arms rfl rfl)
  exact shot.trans (.of_arms rfl rfl)

/-- They are in the frame. -/
theorem cleared_frame {u : State} (k : u.Frame s) : u.Frame (s.cleared st) := by
  have frame := frame_madeOn u
  refine foldl_missEntry_kept (P := u.Frame) (fun _ b i _ _ h => frame.modLine (b := b) i _ trivial h) _ _ ?_
  have faulted : u.Frame (s.faultStation st) := frame.bus _ (frame.station _ _ k)
  have dropped : u.Frame ((s.faultStation st).dropShot st) := frame.bus _ (frame.station _ _ faulted)
  refine frame.station _ _ ?_
  unfold State.unconfirmShot
  split
  · exact faulted
  · dsimp only
    split
    · exact dropped
    · exact frame.modLine _ _ trivial dropped

end Cleared

end Sys2Proof.Machine
end

section
/-! PROOFS. The counts of the lines at a station in FAULT, and what stands of it at the end of the event (R64, R119, R134). -/

namespace Sys2Proof.Machine

/-! ## One line's counts -/

section Line

variable {s : State} {a b : Fin 8} {i j : Nat} {f : Line → Line}

/-- The line that is changed. -/
theorem modLine_line?_self : (s.modLine a i f).line? a i = (s.line? a i).map f := by
  rw [State.line?, State.line?, State.modLine, State.modLoad_load_self]
  cases s.load? a with
  | none => rfl
  | some l => simp

/-- Another line. -/
theorem modLine_line?_ne (other : b = a → j ≠ i) : (s.modLine b j f).line? a i = s.line? a i := by
  by_cases same : a = b
  · subst same
    rw [State.line?, State.line?, State.modLine, State.modLoad_load_self]
    cases s.load? a with
    | none => rfl
    | some l => exact List.getElem?_modify_ne _ _ (other rfl)
  · rw [State.line?, State.line?]
    change (match ((s.modLine b j f).arm a).load with | none => none | some l => l.lines[i]?) = _
    rw [State.modLine, State.modLoad, State.modArm_arm_ne _ _ _ _ same]
    rfl

end Line

/-- The owed shots of an arm in a queue. -/
def owedIn (q : List QueueEntry) (a : Fin 8) : Nat :=
  match q.find? fun e => e.arm == a with
  | some e => e.owed
  | none => 0

/-- A queue's misses leave a line that no entry names. -/
theorem foldl_missEntry_other {who : Option (Fin 8)} {a : Fin 8} {i : Nat} (q : List QueueEntry) (s : State)
    (none_ : ∀ e ∈ q, e.arm ≠ a) : (q.foldl (State.missEntry who) s).line? a i = s.line? a i := by
  induction q generalizing s with
  | nil => rfl
  | cons e q ih =>
    rw [List.foldl_cons, ih _ fun x mem => none_ x (List.mem_cons_of_mem _ mem)]
    exact modLine_line?_ne fun same => absurd same (none_ e List.mem_cons_self)

/-- On the line that the arm's one entry names they are that entry's. -/
theorem foldl_missEntry_line {who : Option (Fin 8)} {a : Fin 8} {i : Nat} {y : Line} (q : List QueueEntry) (s : State)
    (once : (q.filter fun e => e.arm == a).length ≤ 1) (names : ∀ e ∈ q, e.arm = a → e.line = i)
    (line : s.line? a i = some y) : (q.foldl (State.missEntry who) s).line? a i =
      some (y.modCounts fun c => c.miss (if who = some a then owedIn q a - 1 else owedIn q a)) := by
  induction q generalizing s with
  | nil =>
    have zero : (if who = some a then owedIn [] a - 1 else owedIn [] a) = 0 := ite_self _
    rw [zero, List.foldl_nil, line]
    exact congrArg some (by rw [Line.modCounts, miss_zero])
  | cons e q ih =>
    rw [List.foldl_cons]
    by_cases own : e.arm = a
    · have alone : ∀ x ∈ q, x.arm ≠ a := by
        intro x mem same
        rw [List.filter_cons_of_pos (by simpa using own), List.length_cons] at once
        have empty : (q.filter fun e => e.arm == a) = [] := List.eq_nil_of_length_eq_zero (by omega)
        exact List.filter_eq_nil_iff.mp empty x mem (by simpa using same)
      have first : owedIn (e :: q) a = e.owed := by simp [owedIn, own]
      rw [foldl_missEntry_other q _ alone, first, State.missEntry, own, names e List.mem_cons_self own, modLine_line?_self, line]
      rfl
    · have later : owedIn (e :: q) a = owedIn q a := by simp [owedIn, own]
      rw [later]
      refine ih _ ?_ (fun x mem => names x (List.mem_cons_of_mem _ mem)) ?_
      · rw [List.filter_cons_of_neg (by simpa using own)] at once
        exact once
      · exact (modLine_line?_ne fun same => absurd same own).trans line

/-- The counts that a station fault leaves of a line at it. -/
def State.faultCounts (s : State) (st : Fin 4) (a : Fin 8) (c : LineRecord) : LineRecord :=
  { c with
    unconfirmed := c.unconfirmed + s.unconfirmedBy st a
    missed := c.missed + (c.owed - s.unconfirmedBy st a)
    owed := 0 }

/-- An unconfirmed shot, those of an entry and the kept ones are all that is owed. -/
theorem miss_miss_faulted {c : LineRecord} {u e k : Nat} (small : u ≤ 1) (sum : c.owed = e + k + u) :
    ((if u = 1 then c.unconfirm else c).miss e).miss k =
      { c with unconfirmed := c.unconfirmed + u, missed := c.missed + (c.owed - u), owed := 0 } := by
  obtain rfl | rfl : u = 0 ∨ u = 1 := by omega
  · simp only [LineRecord.miss, sum]
    simp
    omega
  · simp only [LineRecord.miss, LineRecord.unconfirm, sum]
    simp
    omega

section Counts

variable {s : State} {st : Fin 4} {a : Fin 8}

/-- At most one shot is unconfirmed. -/
theorem unconfirmedBy_le : s.unconfirmedBy st a ≤ 1 := by
  unfold State.unconfirmedBy
  split
  · split <;> decide
  · decide

/-- A line at which the arm's shot in flight stands. -/
theorem unconfirmShot_line {i : Nat} {y : Line} (line : s.line? a i = some y)
    (names : ∀ sh, s.shotOf st = some sh → sh.arm = a → sh.line = i) :
    (s.unconfirmShot st).line? a i =
      some (y.modCounts fun c => if s.unconfirmedBy st a = 1 then c.unconfirm else c) := by
  have none_ : s.unconfirmedBy st a = 0 →
      some y = some (y.modCounts fun c => if s.unconfirmedBy st a = 1 then c.unconfirm else c) := fun zero => by
    rw [zero]
    rfl
  unfold State.unconfirmShot
  split
  · rename_i shot
    exact line.trans (none_ (by simp [State.unconfirmedBy, shot]))
  · rename_i sh shot
    dsimp only
    split
    · rename_i gone
      exact Eq.trans (b := some y) line (none_ (by simp [State.unconfirmedBy, shot, gone]))
    · rename_i stands
      by_cases own : sh.arm = a
      · have one : s.unconfirmedBy st a = 1 := by simp [State.unconfirmedBy, shot, stands, own]
        rw [own, names sh shot own, modLine_line?_self, one]
        exact congrArg (Option.map _) line
      · rw [modLine_line?_ne fun same => absurd same own]
        exact Eq.trans (b := some y) line (none_ (by simp [State.unconfirmedBy, shot, own]))

/-- The shot of a station in FAULT is still the one that it was. -/
theorem faultStation_shotOf (s : State) (st : Fin 4) : (s.faultStation st).shotOf st = s.shotOf st := by
  obtain ⟨station, txn⟩ := faultStation_station s st
  rw [shotOf_eq, shotOf_eq, station, txn]
  dsimp only
  cases (s.station st).shot with
  | some sh => rfl
  | none => cases s.txnAt st <;> rfl

/-- The counts of a line after items 1 to 3, once its kept shots are missed. -/
theorem cleared_line {l : Load} {i : Nat} {y : Line} (load : s.load? a = some l) (line : l.lines[i]? = some y)
    (at_ : y.counts.station = st) (sums : s.owedSums a i y) :
    ∃ z, (s.cleared st).line? a i = some z ∧ z.counts.station = y.counts.station ∧ z.counts.skipped = y.counts.skipped ∧
      z.counts.miss z.kept = s.faultCounts st a y.counts := by
  obtain ⟨once, names, shotLine, sum⟩ := sums
  rw [at_] at once names shotLine sum
  have before : (s.faultStation st).line? a i = some y := by
    change s.line? a i = _
    rw [State.line?, load]
    exact line
  have by_ : (s.faultStation st).unconfirmedBy st a = s.unconfirmedBy st a := by
    unfold State.unconfirmedBy
    rw [faultStation_shotOf]
  have shot := unconfirmShot_line (st := st) before (by rw [faultStation_shotOf]; exact fun sh at_ own => (shotLine sh at_ own).1)
  rw [by_] at shot
  have queue : (((s.faultStation st).unconfirmShot st).station st).queue = (s.station st).queue := by
    rw [(unconfirmShot_station _ st).1, (faultStation_station s st).1]
  have missed := foldl_missEntry_line (who := s.inEntryArm st) (s.station st).queue
    (((s.faultStation st).unconfirmShot st).modStation st fun x => { x with queue := [] }) once names shot
  have after : s.cleared st = (s.station st).queue.foldl (State.missEntry (s.inEntryArm st))
      (((s.faultStation st).unconfirmShot st).modStation st fun x => { x with queue := [] }) := by
    rw [State.cleared, State.missQueue, queue]
  rw [← after] at missed
  have owed : owedIn (s.station st).queue a = s.entryOwed st a := rfl
  have total : y.counts.owed =
      (if s.inEntryArm st = some a then s.entryOwed st a - 1 else s.entryOwed st a) + y.kept + s.unconfirmedBy st a := by
    unfold State.inEntryArm State.unconfirmedBy
    rw [sum]
    cases there : s.shotOf st with
    | none => simp
    | some sh =>
      by_cases own : sh.arm = a
      · have some_ := (shotLine sh there own).2
        cases standing : sh.standing with
        | inEntry =>
          have pos := some_ standing
          simp [own, standing]
          omega
        | withdrawn => simp [own, standing]
        | detached => simp [own, standing]
      · by_cases entry : sh.standing = .inEntry <;> simp [own, entry]
  refine ⟨_, missed, ?_, ?_, ?_⟩
  · change (LineRecord.miss (ite _ _ _) _).station = _
    split <;> rfl
  · change (LineRecord.miss (ite _ _ _) _).skipped = _
    split <;> rfl
  · rw [owed]
    exact miss_miss_faulted unconfirmedBy_le total

end Counts

/-! ## Items 4 and 5 on every arm -/

/-- The lines whose owed shots stand as R119 says, with the counts that the fault leaves them. -/
def State.faultLines (s : State) (st : Fin 4) (a : Fin 8) (i : Nat) (d : LineRecord) : Prop :=
  ∃ l y, s.load? a = some l ∧ l.lines[i]? = some y ∧ y.counts.station = st ∧ y.counts.skipped = false ∧
    s.owedSums a i y ∧ d = s.faultCounts st a y.counts

section Stands

variable {st : Fin 4} {x : Station} {c : Option Txn} {K : Fin 8 → Prop} {R : Fin 8 → Nat → LineRecord → Prop}

/-- What stands after items 1 to 3. -/
theorem cleared_stands (s : State) (st : Fin 4) : (s.cleared st).FaultStands st (s.station st).faulted
    ((s.txnAt st).map Txn.faulted) (fun _ => False) (s.faultLines st) := by
  obtain ⟨station, txn⟩ := cleared_station s st
  refine ⟨station, txn, fun _ _ none_ => none_.elim, ?_⟩
  rintro a i d k ⟨l, y, load, line, at_, present, sums, rfl⟩ after
  obtain ⟨z, there, station, skipped, counts⟩ := cleared_line load line at_ sums
  rw [State.line?, after] at there
  exact ⟨z, there, station.trans at_, skipped.trans present, counts⟩

variable {t : State} (emptied : x.Emptied c)

/-- It stands for fewer arms. -/
theorem State.FaultStands.mono {K' : Fin 8 → Prop} (h : t.FaultStands st x c K R) (sub : ∀ a, K' a → K a) :
    t.FaultStands st x c K' R := ⟨h.station, h.txn, fun a l own => h.kept a l (sub a own), h.lines⟩

/-- The kept shots of one arm's load missed. -/
theorem missKept_stands (h : t.FaultStands st x c K R) (b : Fin 8) :
    (t.modLoad b fun l => { l with lines := l.lines.map (State.missKeptAt st) }).FaultStands st x c (fun a => K a ∨ a = b) R := by
  refine h.modLines b (fun a ne own => own.resolve_right ne) (fun l load _ z mem at_ present => ?_) fun l load i d line => ?_
  · obtain ⟨z0, _, rfl⟩ := List.mem_map.mp mem
    unfold State.missKeptAt at at_ present ⊢
    split
    · rfl
    · rename_i away
      rw [if_neg away] at at_ present
      exact absurd ⟨at_, present⟩ away
  · obtain ⟨z, there, at_, present, counts⟩ := h.lines b i d l line load
    have missed : State.missKeptAt st z = { z with counts := z.counts.miss z.kept, kept := 0 } := if_pos ⟨at_, present⟩
    refine ⟨State.missKeptAt st z, by simp [there], ?_⟩
    rw [missed]
    exact ⟨at_, present, (miss_zero _).trans counts⟩

include emptied

/-- Items 4 and 5 on one arm. -/
theorem faultArm_stands (h : t.FaultStands st x c K R) (b : Fin 8) :
    (State.faultArm st t b).FaultStands st x c (fun a => K a ∨ a = b) R := by
  have moves := faultStands_moves (st := st) emptied (fun a => K a ∨ a = b) R
  have missed := missKept_stands h b
  unfold State.faultArm
  cases load : t.load? b with
  | none =>
    refine ⟨h.station, h.txn, fun a l own there => ?_, h.lines⟩
    rcases own with own | rfl
    · exact h.kept a l own there
    · exact absurd (load.symm.trans there) nofun
  | some l =>
    dsimp only
    split
    · have faulted := moves.addFault (b := b) (fun f => { f with additiveFault := true }) (.inr rfl) missed fun _ _ => rfl
      split
      · exact moves.cutFlush (b := b) .additiveFault (.inr rfl) faulted
      · exact faulted
    · exact missed

/-- On every arm in turn. -/
theorem foldl_faultArm_stands (xs : List (Fin 8)) (h : t.FaultStands st x c K R) :
    (xs.foldl (State.faultArm st) t).FaultStands st x c (fun a => K a ∨ a ∈ xs) R := by
  induction xs generalizing t K with
  | nil => exact h.mono fun a own => own.resolve_right nofun
  | cons b xs ih =>
    refine (ih (faultArm_stands emptied h b)).mono fun a own => ?_
    rcases own with own | mem
    · exact .inl (.inl own)
    · rcases List.mem_cons.mp mem with rfl | mem
      · exact .inl (.inr rfl)
      · exact .inr mem

omit emptied in
/-- A completion leaves it. -/
theorem completeIfSettled_stands (h : t.FaultStands st x c K R) (b : Fin 8) :
    (t.completeIfSettled b).FaultStands st x c K R := by
  unfold State.completeIfSettled
  split
  · exact h
  · split
    · refine h.of_lines (completeLoad_kept (fun u => u.station st) (fun _ _ _ => rfl) (fun _ _ _ _ _ => rfl) ..)
        (completeLoad_kept (fun u => u.txnAt st) (fun _ _ _ => rfl) (fun _ _ _ _ _ => rfl) ..) fun a l there => ?_
      rw [State.completeLoad_load?] at there
      split at there
      · exact absurd there nofun
      · exact ⟨l, there, rfl⟩
    · exact h

end Stands

/-- The state with items 1 to 6 done. -/
def State.faultTaken (s : State) (st : Fin 4) : State :=
  (allArms.foldl (State.faultArm st) (s.cleared st)).raise .station terminalPorts

/-- Then the loads that waited for the shot complete. -/
theorem enterFault_eq (s : State) (st : Fin 4) :
    s.enterFault st = allArms.foldl State.completeIfSettled (s.faultTaken st) := by
  unfold State.enterFault State.faultTaken State.cleared
  rfl

/-- What stands at the end of the event of a station fault. -/
theorem enterFault_stands (s0 s : State) (st : Fin 4) : (State.endEvent s0 (s.enterFault st)).FaultStands st
    (s.station st).faulted ((s.txnAt st).map Txn.faulted) (fun _ => True) (s.faultLines st) := by
  have emptied := faulted_emptied (s.station st) (s.txnAt st)
  have faulted := (foldl_faultArm_stands emptied allArms (cleared_stands s st)).mono (K' := fun _ => True)
    fun a _ => .inr (mem_allArms a)
  have raised : (s.faultTaken st).FaultStands st (s.station st).faulted ((s.txnAt st).map Txn.faulted) (fun _ => True)
      (s.faultLines st) :=
    faulted.of_load (raise_kept (fun u => u.station st) (fun _ _ _ => rfl) ..)
      (raise_kept (fun u => u.txnAt st) (fun _ _ _ => rfl) ..) fun a => raise_kept (fun u => u.load? a) (fun _ _ _ => rfl) ..
  refine (faultStands_serves emptied (s.faultLines st)).endEvent s0 (fun _ => trivial) ?_
  rw [enterFault_eq]
  exact Leaving.foldl allArms raised fun t b ht => completeIfSettled_stands ht b

end Sys2Proof.Machine
end

section
/-! PROOFS. What a station fault does to each arm, and the shots that stay in flight through it (R64, R134). -/

namespace Sys2Proof.Machine

/-! ## Items 4 and 5 on one arm -/

/-- The load with its kept shots at the station missed. -/
def Load.keptMissed (st : Fin 4) (l : Load) : Load := { l with lines := l.lines.map (State.missKeptAt st) }

/-- The load that moreover has ADDITIVE_FAULT. -/
def Load.stationFaulted (st : Fin 4) (l : Load) : Load :=
  { l with
    lines := l.lines.map (State.missKeptAt st)
    data := { l.data with faults := { l.data.faults with additiveFault := true } } }

/-- The load that moreover has it due. -/
def Load.stationDue (st : Fin 4) (l : Load) : Load :=
  { l.stationFaulted st with endDue := some (l.endDue.getD .additiveFault) }

section FaultArm

variable {t : State} {st : Fin 4} {a : Fin 8} {l : Load}

/-- Any changes of arms make up the items. -/
theorem AnyActsOn.faultArm {A : Fin 8 → Prop} {P : State → Prop} (h : AnyActsOn A P) (st : Fin 4) (ha : A a) (ht : P t) :
    P (State.faultArm st t a) := by
  have missed := fun f => h.modLoad (f := f) ha ht
  unfold State.faultArm
  split
  · exact ht
  · dsimp only
    split
    · split
      · exact h.actsOn.cutFlush (b := a) .additiveFault ha (h.modLoad ha (missed _))
      · exact h.modLoad ha (missed _)
    · exact missed _

variable (load : t.load? a = some l)
include load

/-- Without a required line, or in CLOSING, the kept shots are missed and no more. -/
theorem faultArm_optional (spared : State.requires l st = true → (t.arm a).state = .closing) :
    State.faultArm st t a = t.modLoad a (Load.keptMissed st) := by
  simp only [State.faultArm, load]
  exact if_neg fun ⟨required, opened⟩ => opened (spared required)

/-- Outside the blending phases a required line brings the fault alone. -/
theorem faultArm_required (required : State.requires l st = true) (opened : (t.arm a).state ≠ .closing)
    (still : (t.arm a).state.isBlending = false) : State.faultArm st t a = t.modLoad a (Load.stationFaulted st) := by
  simp only [State.faultArm, load]
  rw [if_pos ⟨required, opened⟩, if_neg (by simp [still]), State.addFault, modLoad_modLoad]
  rfl

/-- In a blending phase it brings a cut flush. -/
theorem faultArm_blending (required : State.requires l st = true) (blending : (t.arm a).state.isBlending = true) :
    State.faultArm st t a = (t.modLoad a (Load.stationDue st)).enterFlush a .cut := by
  have opened : (t.arm a).state ≠ .closing := fun e => absurd blending (by rw [e]; decide)
  simp only [State.faultArm, load]
  rw [if_pos ⟨required, opened⟩, if_pos blending, State.cutFlush, State.setDue, State.addFault, modLoad_modLoad,
    modLoad_modLoad]
  refine congrArg (State.enterFlush · a .cut) (modLoad_congr load ?_)
  exact setDue_eq _ _

end FaultArm

/-! ## Shots in flight -/

/-- No shot in flight counts to the arm's load with this number. -/
def State.unshot (s : State) (a : Fin 8) (n : Nat) : Prop := ∀ k sh, s.shotOf k = some sh → sh.countsTo a n = false

/-- That is what the model looks for. -/
theorem State.unshot.landed {s : State} {a : Fin 8} {n : Nat} (h : s.unshot a n) : s.shotInFlight a n = false := by
  rw [State.shotInFlight, List.any_eq_false]
  intro k _
  cases shot : s.shotOf k with
  | none => exact nofun
  | some sh => simp [h k sh shot]

/-- The shots rest on the stations and the bus. -/
theorem shotOf_congr {s t : State} (stations : t.stations = s.stations) (bus : t.bus = s.bus) (k : Fin 4) :
    t.shotOf k = s.shotOf k := by
  rw [shotOf_eq, shotOf_eq, State.station, stations, State.txnAt, bus]
  rfl

/-- A shot that counts to no load still does not once its entry is withdrawn. -/
theorem unshot_dropEntry {s : State} {a : Fin 8} {n : Nat} (h : s.unshot a n) (st : Fin 4) (b : Fin 8) :
    (s.dropEntry st b).unshot a n := by
  have withdrawn : ∀ sh : Shot, (if sh.arm = b ∧ sh.standing = .inEntry then { sh with standing := .withdrawn } else sh).countsTo a n =
      sh.countsTo a n := by
    intro sh
    split
    · rename_i entry
      simp only [Shot.countsTo, entry.2]
      rfl
    · rfl
  intro k sh shot
  by_cases own : k = st
  · subst own
    have mapped : (s.dropEntry k b).shotOf k = (s.shotOf k).map fun sh =>
        if sh.arm = b ∧ sh.standing = .inEntry then { sh with standing := .withdrawn } else sh := by
      unfold State.dropEntry State.modShot
      rw [shotOf_eq, shotOf_eq, txnAt_modTxn_self _ _ (fun y => { y with shot := y.shot.map fun sh =>
        if sh.arm = b ∧ sh.standing = .inEntry then { sh with standing := .withdrawn } else sh }) fun _ => rfl,
        modTxn_station, State.modStation_modStation, State.modStation_station_self]
      dsimp only
      cases (s.station k).shot with
      | some sh => rfl
      | none =>
        change ((s.txnAt k).map _).bind _ = ((s.txnAt k).bind _).map _
        cases s.txnAt k <;> rfl
    rw [mapped] at shot
    obtain ⟨sh0, before, rfl⟩ := Option.map_eq_some_iff.mp shot
    exact (withdrawn sh0).trans (h k sh0 before)
  · have kept : (s.dropEntry st b).shotOf k = s.shotOf k := by
      unfold State.dropEntry State.modShot
      rw [shotOf_eq, shotOf_eq, txnAt_modTxn_ne (Ne.symm own) (fun y => { y with shot := y.shot.map fun sh =>
        if sh.arm = b ∧ sh.standing = .inEntry then { sh with standing := .withdrawn } else sh }) fun _ => rfl,
        modTxn_station, State.modStation_modStation, State.modStation_station_ne _ _ _ _ own]
      rfl
    exact h k sh (kept.symm.trans shot)

section Unshot

variable {s t : State} {a : Fin 8} {n : Nat}

/-- It rests on the stations and the bus. -/
theorem State.unshot.of_aside (h : s.unshot a n) (stations : t.stations = s.stations) (bus : t.bus = s.bus) : t.unshot a n :=
  fun k sh shot => h k sh ((shotOf_congr stations bus k).symm.trans shot)

/-- Lines withdrawn leave it. -/
theorem unshot_withdrawLines (h : s.unshot a n) (b : Fin 8) (keep : Bool) : (s.withdrawLines b keep).unshot a n := by
  refine Leaving.foldl (P := fun t : State => t.unshot a n) [0, 1, 2] h fun t i ht => ?_
  unfold State.withdrawLine
  split
  · exact ht
  · split
    · exact ht
    · exact (unshot_dropEntry ht _ b).of_aside rfl rfl

/-- So does leaving the shares with the lines withdrawn. -/
theorem unshot_leave (h : s.unshot a n) (b : Fin 8) (f : Arm → Arm) (g : Load → Load) (keep : Bool) (c : TraceCause) :
    (((((s.modArm b f).modLoad b g).dropShares b).withdrawLines b keep).appendTrace b c).unshot a n := by
  have withdrawn := unshot_withdrawLines (s := ((s.modArm b f).modLoad b g).dropShares b) (h.of_aside rfl rfl) b keep
  exact withdrawn.of_aside (appendTrace_kept State.stations (fun _ _ _ => rfl) ..)
    (appendTrace_kept State.bus (fun _ _ _ => rfl) ..)

/-- So does an entry to FLUSH. -/
theorem unshot_enterFlush (h : s.unshot a n) (b : Fin 8) (k : FlushKind) : (s.enterFlush b k).unshot a n := by
  unfold State.enterFlush
  split
  · exact h
  · have flushing := fun f => unshot_leave h b f (fun l => l.flushed k) false .phase
    unfold State.closeIfFlushed
    split
    · exact unshot_leave (flushing _) b _ _ false .phase
    · exact flushing _

/-- So do items 4 and 5 on an arm. -/
theorem unshot_faultArm (h : s.unshot a n) (st : Fin 4) (b : Fin 8) : (State.faultArm st s b).unshot a n := by
  unfold State.faultArm
  split
  · exact h
  · dsimp only
    split
    · split
      · unfold State.cutFlush
        refine unshot_enterFlush ?_ b .cut
        exact h.of_aside rfl rfl
      · exact h.of_aside rfl rfl
    · exact h.of_aside rfl rfl

/-- So does a completion. -/
theorem unshot_completeIfSettled (h : s.unshot a n) (b : Fin 8) : (s.completeIfSettled b).unshot a n := by
  unfold State.completeIfSettled
  split
  · exact h
  · split
    · exact h.of_aside (completeLoad_kept State.stations (fun _ _ _ => rfl) (fun _ _ _ _ _ => rfl) ..)
        (completeLoad_kept State.bus (fun _ _ _ => rfl) (fun _ _ _ _ _ => rfl) ..)
    · exact h

/-- Items 1 to 3 leave the shots of the other stations. -/
theorem cleared_shotOf_ne {st k : Fin 4} (ne : k ≠ st) : (s.cleared st).shotOf k = s.shotOf k := by
  have fault : (s.faultStation st).station k = s.station k ∧ (s.faultStation st).txnAt k = s.txnAt k := by
    refine ⟨?_, ?_⟩
    · rw [State.faultStation, modTxn_station, State.modStation_station_ne _ _ _ _ ne]
    · exact txnAt_modTxn_ne ne.symm (fun y => { y with discarded := true }) fun _ => rfl
  have dropped : ∀ t : State, (t.dropShot st).station k = t.station k ∧ (t.dropShot st).txnAt k = t.txnAt k := fun t => by
    refine ⟨?_, ?_⟩
    · rw [State.dropShot, modTxn_station, State.modStation_station_ne _ _ _ _ ne]
    · exact txnAt_modTxn_ne ne.symm (fun y => { y with shot := none }) fun _ => rfl
  have shot : ((s.faultStation st).unconfirmShot st).station k = s.station k ∧
      ((s.faultStation st).unconfirmShot st).txnAt k = s.txnAt k := by
    obtain ⟨station, txn⟩ := dropped (s.faultStation st)
    unfold State.unconfirmShot
    split
    · exact fault
    · dsimp only
      split
      · exact ⟨station.trans fault.1, txn.trans fault.2⟩
      · exact ⟨station.trans fault.1, txn.trans fault.2⟩
  have after : (s.cleared st).station k = s.station k ∧ (s.cleared st).txnAt k = s.txnAt k := by
    refine foldl_missEntry_kept (P := fun t => t.station k = s.station k ∧ t.txnAt k = s.txnAt k) (fun _ _ _ _ _ h => h) _ _
      ⟨?_, shot.2⟩
    rw [State.modStation_station_ne _ _ _ _ ne]
    exact shot.1
  rw [shotOf_eq, shotOf_eq, after.1, after.2]

/-- After them none counts that did not at another station. -/
theorem cleared_unshot {st : Fin 4} (others : ∀ k, k ≠ st → ∀ sh, s.shotOf k = some sh → sh.countsTo a n = false) :
    (s.cleared st).unshot a n := by
  intro k sh shot
  by_cases own : k = st
  · subst own
    obtain ⟨station, txn⟩ := cleared_station s k
    rw [shotOf_eq, station, txn] at shot
    cases at_ : s.txnAt k with
    | none => rw [at_] at shot; exact absurd shot nofun
    | some y => rw [at_] at shot; exact absurd shot nofun
  · exact others k own sh ((cleared_shotOf_ne own).symm.trans shot)

end Unshot

/-! ## Completions of other arms -/

section Completes

variable {s : State} {a : Fin 8}

/-- An arm that does not wait to complete. -/
theorem completeIfSettled_of_open (opened : (s.arm a).state = .closing → (s.arm a).settle ≠ .expired) :
    s.completeIfSettled a = s := by
  unfold State.completeIfSettled
  split
  · rfl
  · exact if_neg fun ⟨closing, settled, _⟩ => opened closing settled

/-- The completion of another arm's load. -/
theorem completeIfSettled_ne {b : Fin 8} (ne : b ≠ a) :
    (s.completeIfSettled b).arm a = s.arm a ∧ (s.completeIfSettled b).header = s.header := by
  unfold State.completeIfSettled
  split
  · exact ⟨rfl, rfl⟩
  · split
    · exact ⟨completeLoad_arm_ne (Ne.symm ne) _, State.completeLoad_header ..⟩
    · exact ⟨rfl, rfl⟩

/-- The completions leave an arm that does not wait for its own, and the header. -/
theorem completions_leave (opened : (s.arm a).state = .closing → (s.arm a).settle ≠ .expired) :
    (allArms.foldl State.completeIfSettled s).arm a = s.arm a ∧
      (allArms.foldl State.completeIfSettled s).header = s.header := by
  refine Leaving.foldl (P := fun t => t.arm a = s.arm a ∧ t.header = s.header) allArms ⟨rfl, rfl⟩ fun t b ⟨arm, header⟩ => ?_
  by_cases own : b = a
  · subst own
    rw [completeIfSettled_of_open (by rw [arm]; exact opened)]
    exact ⟨arm, header⟩
  · obtain ⟨same, headed⟩ := completeIfSettled_ne (s := t) own
    exact ⟨same.trans arm, headed.trans header⟩

/-- An arm whose load waits for nothing any more is rid of it. -/
theorem completions_complete {l : Load} (load : s.load? a = some l) (closing : (s.arm a).state = .closing)
    (settled : (s.arm a).settle = .expired) (unshot : s.unshot a l.data.number) :
    (allArms.foldl State.completeIfSettled s).load? a = none := by
  refine foldl_at (P := fun t => t.arm a = s.arm a ∧ t.unshot a l.data.number) (Q := fun t => t.load? a = none) (by decide)
    (mem_allArms a) (fun t b ne ⟨arm, unshot⟩ => ⟨(completeIfSettled_ne ne).1.trans arm, unshot_completeIfSettled unshot b⟩)
    (fun t ⟨arm, unshot⟩ => ?_) (fun t b ne none_ => (congrArg Arm.load (completeIfSettled_ne ne).1).trans none_) ⟨rfl, unshot⟩
  rw [completeIfSettled_eq ((congrArg Arm.load arm).trans load) (by rw [arm]; exact closing) (by rw [arm]; exact settled)
    unshot.landed, State.completeLoad_load?, if_pos rfl]

end Completes

end Sys2Proof.Machine
end

section
/-! PROOFS. A station fault as a whole, from its items to the end of its event (R64, R106, R134, R135). -/

namespace Sys2Proof.Machine

/-! ## What the end of an event leaves of a load -/

/-- A property of an arm's load, present or not, that changes but for volumes keep. -/
theorem load_madeOn (a : Fin 8) (Q : Option Load → Prop)
    (moves : ∀ (x : Option Load) (g : Load → Load), (∀ l : Load, l.Kept (g l)) → Q x → Q (x.map g))
    (lines : ∀ (x : Option Load) (i : Nat) (f : Line → Line), Q x →
      Q (x.map fun l => { l with lines := l.lines.modify i f })) : MadeOn (fun _ => True) fun t => Q (t.load? a) := by
  have own : ∀ {s : State} {b : Fin 8} {f : Arm → Arm} {g : Load → Load}, Q (s.load? a) →
      (f (s.arm b)).load = (s.arm b).load.map g → (∀ x, Q x → Q (x.map g)) → Q ((s.modArm b f).load? a) := by
    intro s b f g h load kept
    by_cases same : a = b
    · subst same
      rw [State.load?_modArm_self, load]
      exact kept _ h
    · rw [State.load?, State.modArm_arm_ne _ _ _ _ same]
      exact h
  exact { LinesActOn.actsOn (A := fun _ => True) (P := fun t => Q (t.load? a))
      { move := fun _ g _ h load kept => own h load fun x => moves x g kept
        modLine := fun i f _ h => own h rfl fun x => lines x i f
        drop := fun _ h => h
        grant := fun _ _ h => h
        queue := fun _ _ _ h => h
        station := fun _ _ h => h
        bus := fun _ h => h
        page := fun _ _ h => h
        raise := fun n ps _ h => by rw [raise_kept (fun t => t.load? a) (fun _ _ _ => rfl) n ps]; exact h } with
    head := fun h _ => ⟨trivial, h⟩ }

/-- An ADDITIVE_FAULT stays. -/
theorem additive_madeOn (a : Fin 8) :
    MadeOn (fun _ => True) fun t => ∃ m, t.load? a = some m ∧ m.data.faults.additiveFault = true :=
  load_madeOn a (fun x => ∃ m, x = some m ∧ m.data.faults.additiveFault = true)
    (fun _ g kept ⟨m, held, fault⟩ => ⟨g m, by rw [held]; rfl, (kept m).fault fault⟩)
    fun _ i f ⟨m, held, fault⟩ => ⟨{ m with lines := m.lines.modify i f }, by rw [held]; rfl, fault⟩

/-- An arm without a load gets none. -/
theorem gone_madeOn (a : Fin 8) : MadeOn (fun _ => True) fun t => t.load? a = none :=
  load_madeOn a (· = none) (fun _ _ _ none_ => by rw [none_]; rfl) fun _ _ _ none_ => by rw [none_]; rfl

/-- The shares of an arm that waits for none stay to the end of an event. -/
theorem endEvent_shares {a : Fin 8} (s0 : State) {s : State} (unlisted : s.notListed a) :
    (State.endEvent s0 s).header.sharesOf a = s.header.sharesOf a := by
  rw [State.endEvent, State.bumpRevisions_header, (serveAfter_spares s0 unlisted).shares]

/-- A notice raised spares every arm. -/
theorem State.Spares.raise_any {a : Fin 8} {s t : State} (h : s.Spares a t) (n : Notice) (ps : List Port) :
    s.Spares a (t.raise n ps) := by
  have header : (t.raise n ps).header = t.header := raise_kept State.header (fun _ _ _ => rfl) ..
  exact ⟨(raise_kept (fun u => u.arm a) (fun _ _ _ => rfl) ..).trans h.arm, by rw [header]; exact h.shares,
    by rw [State.notListed, header]; exact h.listed⟩

/-! ## The arms at the end of the items -/

section Taken

variable {s : State} {st : Fin 4} {a : Fin 8}

/-- An arm whose own items change its load alone. -/
theorem faultTaken_still {g : Load → Load}
    (own : ∀ t : State, t.arm a = (s.cleared st).arm a → State.faultArm st t a = t.modLoad a g) :
    (s.faultTaken st).arm a = { (s.cleared st).arm a with load := ((s.cleared st).arm a).load.map g } ∧
      (s.notListed a → (s.faultTaken st).header.sharesOf a = s.header.sharesOf a ∧ (s.faultTaken st).notListed a) := by
  have header0 : (s.cleared st).header = s.header := (cleared_recounted s st).header
  have folded := foldl_at (f := State.faultArm st) (a := a) (xs := allArms)
    (P := fun t => t.arm a = (s.cleared st).arm a ∧ (s.notListed a → s.header.sharesOf a = t.header.sharesOf a ∧ t.notListed a))
    (Q := fun t => t.arm a = { (s.cleared st).arm a with load := ((s.cleared st).arm a).load.map g } ∧
      (s.notListed a → s.header.sharesOf a = t.header.sharesOf a ∧ t.notListed a)) (by decide) (mem_allArms a)
    (fun t b ne ⟨arm, listed⟩ => ⟨((untouched_anyActsOn a t).faultArm st ne ⟨rfl, rfl⟩).1.trans arm, fun away => by
      have spared := (spares_anyMadeOn a t).toAnyActsOn.faultArm st ne ⟨rfl, rfl, (listed away).2⟩
      exact ⟨(listed away).1.trans spared.shares.symm, spared.listed⟩⟩)
    (fun t ⟨arm, listed⟩ => ⟨by rw [own t arm, State.modLoad, State.modArm_arm_self, arm], fun away => by
      rw [own t arm]; exact listed away⟩)
    (fun t b ne ⟨arm, listed⟩ => ⟨((untouched_anyActsOn a t).faultArm st ne ⟨rfl, rfl⟩).1.trans arm, fun away => by
      have spared := (spares_anyMadeOn a t).toAnyActsOn.faultArm st ne ⟨rfl, rfl, (listed away).2⟩
      exact ⟨(listed away).1.trans spared.shares.symm, spared.listed⟩⟩)
    (s := s.cleared st) ⟨rfl, fun away => ⟨by rw [header0], by rw [State.notListed, header0]; exact away⟩⟩
  have header : (s.faultTaken st).header = (allArms.foldl (State.faultArm st) (s.cleared st)).header :=
    raise_kept State.header (fun _ _ _ => rfl) ..
  refine ⟨(raise_kept (fun u => u.arm a) (fun _ _ _ => rfl) ..).trans folded.1, fun away => ?_⟩
  obtain ⟨shares, listed⟩ := folded.2 away
  rw [State.notListed, header]
  exact ⟨shares.symm, listed⟩

/-- An arm that its own items leave waiting for no shares. -/
theorem faultTaken_reached (unlisted : ∀ t : State, t.arm a = (s.cleared st).arm a → (State.faultArm st t a).notListed a) :
    ∃ t : State, (s.cleared st).Frame t ∧ t.arm a = (s.cleared st).arm a ∧
      (State.faultArm st t a).Spares a (s.faultTaken st) := by
  obtain ⟨_, t, frame, same, spared⟩ : (s.cleared st).Reached (State.faultArm st) a
      (allArms.foldl (State.faultArm st) (s.cleared st)) :=
    foldl_reached (by decide) (mem_allArms a)
      (fun t b k => (frame_anyMadeOn _).toAnyActsOn.faultArm (a := b) st trivial k)
      (fun t b ne => ((untouched_anyActsOn a t).faultArm st ne ⟨rfl, rfl⟩).1)
      (fun t u b ne k => (spares_anyMadeOn a u).toAnyActsOn.faultArm st ne k) unlisted
  exact ⟨t, frame, same, spared.raise_any _ _⟩

/-- All items together keep the frame. -/
theorem faultTaken_frame {u : State} (k : u.Frame s) (st : Fin 4) : u.Frame (s.faultTaken st) :=
  (Leaving.foldl (P := State.Frame _) allArms (cleared_frame s st k)
    fun _ b ht => (frame_anyMadeOn u).toAnyActsOn.faultArm (a := b) st trivial ht).raise _ _

end Taken

/-- An arm in a cut flush does not wait to complete. -/
theorem enterFlush_open {s : State} {a : Fin 8} {l : Load} (k : FlushKind) (load : s.load? a = some l) :
    ((s.enterFlush a k).arm a).state = .closing → ((s.enterFlush a k).arm a).settle ≠ .expired := by
  obtain ⟨ls, _, arm⟩ := flushing_arm k load
  rw [enterFlush_eq k load]
  split
  · obtain ⟨_, _, closed⟩ := enterClosing_arm (congrArg Arm.load arm)
    intro _
    rw [closed]
    exact nofun
  · intro closing
    rw [arm] at closing
    exact absurd closing nofun

/-! ## The whole -/

/-- The state in which a station's fault is told differs from another by the station's own flags and by notices. -/
structure State.Tells (s w : State) (st : Fin 4) : Prop where
  arms : w.arms = s.arms
  header : w.header = s.header
  bus : w.bus = s.bus
  frame : s.Frame w
  others : ∀ k, k ≠ st → w.station k = s.station k
  queue : (w.station st).queue = (s.station st).queue
  shot : (w.station st).shot = (s.station st).shot
  manifold : (w.station st).manifold = (s.station st).manifold

namespace State.Tells

variable {s w : State} {st : Fin 4} (h : s.Tells w st)
include h

/-- The arms are the same. -/
theorem arm (a : Fin 8) : w.arm a = s.arm a := by rw [State.arm, h.arms]; rfl

/-- So are the loads. -/
theorem load (a : Fin 8) : w.load? a = s.load? a := congrArg Arm.load (h.arm a)

/-- So are the shots in flight. -/
theorem shotOf (k : Fin 4) : w.shotOf k = s.shotOf k := by
  have shot : (w.station k).shot = (s.station k).shot := by
    by_cases own : k = st
    · rw [own]; exact h.shot
    · rw [h.others k own]
  rw [shotOf_eq, shotOf_eq, shot, State.txnAt, h.bus]
  rfl

/-- So are the lines at the station with the counts that the fault leaves them. -/
theorem faultLines {a : Fin 8} {i : Nat} {l : Load} {y : Line} (load : s.load? a = some l) (line : l.lines[i]? = some y)
    (at_ : y.counts.station = st) (present : y.counts.skipped = false) (sums : s.owedSums a i y) :
    w.faultLines st a i (s.faultCounts st a y.counts) := by
  have owed : w.entryOwed st a = s.entryOwed st a := by
    unfold State.entryOwed
    rw [h.queue]
  refine ⟨l, y, (h.load a).trans load, line, at_, present, ?_, ?_⟩
  · obtain ⟨once, names, shotLine, sum⟩ := sums
    rw [at_] at once names shotLine sum
    refine ⟨?_, ?_, ?_, ?_⟩ <;> rw [at_]
    · rw [h.queue]; exact once
    · rw [h.queue]; exact names
    · rw [h.shotOf, owed]; exact shotLine
    · rw [h.shotOf, owed]; exact sum
  · unfold State.faultCounts State.unconfirmedBy
    rw [h.shotOf]

/-- An arm with a load after items 1 to 3. -/
theorem cleared {a : Fin 8} {l : Load} (load : s.load? a = some l) :
    ∃ ls, (w.cleared st).arm a = (s.arm a).relined l ls ∧ State.requires { l with lines := ls } st = State.requires l st := by
  obtain ⟨ls, arm, places⟩ := (cleared_recounted w st).load ((h.load a).trans load)
  rw [h.arm] at arm
  exact ⟨ls, arm, requires_congr (l := l) (m := { l with lines := ls }) rfl places st⟩

/-- A blending load with a required line goes to a cut flush. -/
theorem blending {a : Fin 8} {l : Load} (load : s.load? a = some l) (required : l.hasRequired st)
    (blending : (s.arm a).state.isBlending = true) :
    ∃ m, (State.endEvent s (w.enterFault st)).load? a = some m ∧
      (State.endEvent s (w.enterFault st)).cutFlushed a l m l.data.product (l.cutEnd l.data.product) ∧
      l.amendmentApplied m ∧ m.data.faults.additiveFault = true ∧ m.endDue = some (l.endDue.getD .additiveFault) := by
  obtain ⟨ls, arm0, requires⟩ := h.cleared load
  have loaded : ∀ t : State, t.arm a = (w.cleared st).arm a → t.load? a = some { l with lines := ls } := fun t same => by
    rw [State.load?, same, arm0]
    rfl
  have own : ∀ t : State, t.arm a = (w.cleared st).arm a → State.faultArm st t a =
      (t.modLoad a (Load.stationDue st)).enterFlush a .cut := fun t same =>
    faultArm_blending (loaded t same) (requires.trans (requires_iff.mpr required)) (by rw [same, arm0]; exact blending)
  obtain ⟨t, frame, same, spared⟩ := faultTaken_reached (s := w) (st := st) (a := a) fun t same => by
    rw [own t same]
    exact (enterFlush_spares .cut (load?_modLoad _ (loaded t same))).listed
  rw [own t same] at spared
  have due := load?_modLoad (Load.stationDue st) (loaded t same)
  obtain ⟨arm, header⟩ := completions_leave (s := w.faultTaken st) (a := a) (by rw [spared.arm]; exact enterFlush_open .cut due)
  rw [← enterFault_eq] at arm header
  have ended : ((t.modLoad a (Load.stationDue st)).enterFlush a .cut).Spares a (w.enterFault st) :=
    ⟨arm.trans spared.arm, by rw [header]; exact spared.shares, by rw [State.notListed, header]; exact spared.listed⟩
  have before : t.settings = s.settings := frame.elsewhere.settings.trans (cleared_frame w st h.frame).elsewhere.settings
  have settings : (State.endEvent s (w.enterFault st)).settings = t.settings := by
    rw [before]
    exact ((closed_sameOutsideLoads s).endEvent ((closed_sameOutsideLoads s).enterFault st h.frame.elsewhere.toSameOutsideLoads)).settings
  obtain ⟨m, c, after, moved, cut, _⟩ := cutFlush_ends_of_spared load due rfl (fun e => absurd blending (by rw [e]; decide))
    (fun e => absurd blending (by rw [e]; decide)) (ended.served s) settings
  exact ⟨m, after, ⟨cut.flush, cut.closing, cut.ethanol, cut.shares⟩, moved.amended.of_same rfl rfl rfl rfl rfl rfl rfl,
    by rw [moved.faults]; rfl, moved.endDue⟩

end State.Tells

end Sys2Proof.Machine
end

section
/-! PROOFS. The event of a station fault (R64, R106, R134, R135). -/

namespace Sys2Proof.Machine

/-- Items 1 to 6 leave the shots that count to no load so. -/
theorem faultTaken_unshot {s : State} {st : Fin 4} {a : Fin 8} {n : Nat}
    (others : ∀ k, k ≠ st → ∀ sh, s.shotOf k = some sh → sh.countsTo a n = false) : (s.faultTaken st).unshot a n := by
  have folded : (allArms.foldl (State.faultArm st) (s.cleared st)).unshot a n :=
    Leaving.foldl (P := fun t : State => t.unshot a n) allArms (cleared_unshot others) fun _ b ht => unshot_faultArm ht st b
  exact folded.of_aside (raise_kept State.stations (fun _ _ _ => rfl) ..) (raise_kept State.bus (fun _ _ _ => rfl) ..)

namespace State.Tells

variable {s w : State} {st : Fin 4} (h : s.Tells w st)
include h

section Still

variable {a : Fin 8} {l : Load} (load : s.load? a = some l) {g : Load → Load}
  (own : ∀ (t : State) (k : Load), t.load? a = some k → State.requires k st = State.requires l st →
    (t.arm a).state = (s.arm a).state → State.faultArm st t a = t.modLoad a g)
include load own

/-- An arm whose own items change its load alone, after all items. -/
theorem taken : ∃ ls, (w.faultTaken st).arm a = { s.arm a with load := some (g { l with lines := ls }) } ∧
    (s.notListed a → (w.faultTaken st).header.sharesOf a = s.header.sharesOf a ∧ (w.faultTaken st).notListed a) := by
  obtain ⟨ls, arm0, requires⟩ := h.cleared load
  obtain ⟨arm, listed⟩ := faultTaken_still (s := w) (st := st) (a := a) (g := g) fun t same =>
    own t { l with lines := ls } (by rw [State.load?, same, arm0]; rfl) requires (by rw [same, arm0]; rfl)
  refine ⟨ls, ?_, fun away => ?_⟩
  · rw [arm, arm0]
    rfl
  · obtain ⟨shares, unlisted⟩ := listed (by rw [State.notListed, h.header]; exact away)
    exact ⟨by rw [shares, h.header], unlisted⟩

/-- Outside CLOSING it is so after the completions. -/
theorem entered (opened : (s.arm a).state ≠ .closing) :
    ∃ ls, (w.enterFault st).arm a = { s.arm a with load := some (g { l with lines := ls }) } ∧
      (s.notListed a → (w.enterFault st).header.sharesOf a = s.header.sharesOf a ∧ (w.enterFault st).notListed a) := by
  obtain ⟨ls, arm0, listed⟩ := h.taken load own
  obtain ⟨arm, header⟩ := completions_leave (s := w.faultTaken st) (a := a) fun closing => by
    rw [arm0] at closing
    exact absurd closing opened
  rw [← enterFault_eq] at arm header
  refine ⟨ls, arm.trans arm0, fun away => ?_⟩
  rw [State.notListed, header]
  exact listed away

/-- An arm that waits for no shares is so, its load's revision apart, at the end of the event. -/
theorem still (opened : (s.arm a).state ≠ .closing) (away : s.notListed a) :
    ∃ ls m, (State.endEvent s (w.enterFault st)).arm a = { s.arm a with load := some m } ∧
      m.data.faults = (g { l with lines := ls }).data.faults ∧ m.endDue = (g { l with lines := ls }).endDue ∧
      (State.endEvent s (w.enterFault st)).header.sharesOf a = s.header.sharesOf a := by
  obtain ⟨ls, arm, listed⟩ := h.entered load own opened
  obtain ⟨shares, unlisted⟩ := listed away
  have ended := endEvent_arm s unlisted
  rw [arm] at ended
  have same := (endEvent_shares s unlisted).trans shares
  split at ended
  · exact ⟨ls, (g { l with lines := ls }).bump, ended, rfl, rfl, same⟩
  · exact ⟨ls, _, ended, rfl, rfl, same⟩

end Still

section Arms

variable {a : Fin 8} {l : Load} (load : s.load? a = some l)
include load

/-- A load outside the blending phases with a required line has the fault. -/
theorem required (requires : l.hasRequired st) (unblending : (s.arm a).state.isBlending = false)
    (opened : (s.arm a).state ≠ .closing) :
    ∃ m, (State.endEvent s (w.enterFault st)).load? a = some m ∧ m.data.faults.additiveFault = true ∧
      (s.notListed a → m.endDue = l.endDue ∧ ((State.endEvent s (w.enterFault st)).arm a).state = (s.arm a).state ∧
        (State.endEvent s (w.enterFault st)).header.sharesOf a = s.header.sharesOf a) := by
  have own : ∀ (t : State) (k : Load), t.load? a = some k → State.requires k st = State.requires l st →
      (t.arm a).state = (s.arm a).state → State.faultArm st t a = t.modLoad a (Load.stationFaulted st) :=
    fun t k held same state => faultArm_required held (same.trans (requires_iff.mpr requires)) (by rw [state]; exact opened)
      (by rw [state]; exact unblending)
  obtain ⟨ls, arm, _⟩ := h.entered load own opened
  obtain ⟨m, after, fault⟩ := (additive_madeOn a).endEvent s (fun _ => trivial)
    (s := w.enterFault st) ⟨_, congrArg Arm.load arm, rfl⟩
  refine ⟨m, after, fault, fun away => ?_⟩
  obtain ⟨_, k, ended, _, due, shares⟩ := h.still load own opened away
  obtain rfl := Option.some.inj (after.symm.trans (congrArg Arm.load ended))
  exact ⟨due, by rw [ended], shares⟩

/-- A load without a required line keeps all but the counts of its lines. -/
theorem optional (spared : ¬ l.hasRequired st) (opened : (s.arm a).state ≠ .closing) (away : s.notListed a) :
    ((State.endEvent s (w.enterFault st)).arm a).state = (s.arm a).state ∧
      ((State.endEvent s (w.enterFault st)).arm a).mainOpening = (s.arm a).mainOpening ∧
      ((State.endEvent s (w.enterFault st)).arm a).ethanolOpening = (s.arm a).ethanolOpening ∧
      (State.endEvent s (w.enterFault st)).header.sharesOf a = s.header.sharesOf a ∧
      ∃ m, (State.endEvent s (w.enterFault st)).load? a = some m ∧ m.data.faults = l.data.faults ∧ m.endDue = l.endDue := by
  obtain ⟨ls, m, ended, faults, due, shares⟩ := h.still load (g := Load.keptMissed st)
    (fun t k held same _ => faultArm_optional held fun requires =>
      absurd (requires_iff.mp (same.symm.trans requires)) spared) opened away
  exact ⟨by rw [ended], by rw [ended], by rw [ended], shares, m, congrArg Arm.load ended, faults, due⟩

/-- A load in CLOSING that waited for the shot completes. -/
theorem completed (closing : (s.arm a).state = .closing) (settled : (s.arm a).settle = .expired)
    (others : ∀ k, k ≠ st → ∀ sh, s.shotOf k = some sh → sh.countsTo a l.data.number = false) :
    (State.endEvent s (w.enterFault st)).load? a = none := by
  obtain ⟨ls, arm, _⟩ := h.taken load (g := Load.keptMissed st) fun t k held _ state =>
    faultArm_optional held fun _ => state.trans closing
  refine (gone_madeOn a).endEvent s (fun _ => trivial) ?_
  rw [enterFault_eq]
  exact completions_complete (congrArg Arm.load arm) (by rw [arm]; exact closing) (by rw [arm]; exact settled)
    (faultTaken_unshot fun k ne sh shot => others k ne sh ((h.shotOf k).symm.trans shot))

end Arms

/-- The event of a station fault. -/
theorem faulted : s.stationFaulted (State.endEvent s (w.enterFault st)) st := by
  obtain ⟨station, _, _, lines⟩ := enterFault_stands s w st
  have raised : ∀ p : Port, p = .ta ∨ p = .tb → (State.endEvent s (w.enterFault st)).flagged p .station = true := by
    intro p terminal
    have taken : (w.faultTaken st).flagged p .station = true :=
      (raise_portsRaised _ .station terminalPorts).flagged (by rcases terminal with rfl | rfl <;> decide)
    have entered : (w.enterFault st).flagged p .station = true := by
      rw [enterFault_eq]
      refine Leaving.foldl (P := fun t : State => t.flagged p .station = true) allArms taken fun t b set => ?_
      unfold State.completeIfSettled
      split
      · exact set
      · split
        · exact completeLoad_flags set
        · exact set
    exact (endEvent_frame s (.refl _)).flags p .station entered
  have manifold : ((State.endEvent s (w.enterFault st)).station st).manifold = (s.station st).manifold := by
    rw [station]
    exact h.manifold
  refine ⟨by rw [station]; rfl, by rw [station]; rfl, by rw [station]; rfl, by rw [station]; rfl, by rw [station]; exact ⟨rfl, rfl, rfl⟩,
    manifold, ⟨raised .ta (.inl rfl), raised .tb (.inr rfl)⟩, fun a l i y m load line at_ present sums after => ?_,
    fun a l load requires blends => h.blending load requires blends,
    fun a l load requires unblending opened => h.required load requires unblending opened,
    fun a l load spared opened away => h.optional load spared opened away,
    fun a l load closing settled others => h.completed load closing settled others,
    (closed_sameOutsideLoads s).endEvent ((closed_sameOutsideLoads s).enterFault st h.frame.elsewhere.toSameOutsideLoads)⟩
  obtain ⟨z, there, own, unskipped, counts⟩ := lines a i _ m (h.faultLines load line at_ present sums) after
  have kept := (enterFault_stands s w st).kept a m trivial after z (List.mem_of_getElem? there) own unskipped
  rw [kept, miss_zero] at counts
  exact ⟨z, there, kept, counts⟩

end State.Tells

/-- The bus handed on leaves a station fault as it is. -/
theorem stationFaulted_freed {s t : State} {st : Fin 4} (h : s.stationFaulted t st) :
    s.stationFaulted t.freed.arbitrate st ∧ t.freed.arbitrate.station st = t.station st := by
  have station : t.freed.arbitrate.station st = t.station st := (arbitrate_silent (s := t.freed) h.request).1
  have arms : t.freed.arbitrate.arms = t.arms := arbitrate_kept State.arms (fun _ _ _ => rfl) (fun _ _ => rfl) t.freed
  have header : t.freed.arbitrate.header = t.header := arbitrate_kept State.header (fun _ _ _ => rfl) (fun _ _ => rfl) t.freed
  have ports : t.freed.arbitrate.ports = t.ports := arbitrate_kept State.ports (fun _ _ _ => rfl) (fun _ _ => rfl) t.freed
  have settings : t.freed.arbitrate.settings = t.settings :=
    arbitrate_kept State.settings (fun _ _ _ => rfl) (fun _ _ => rfl) t.freed
  have outside := (closed_sameOutsideLoads s).arbitrate (s := t.freed) ⟨h.elsewhere.1, h.elsewhere.2, h.elsewhere.3,
    h.elsewhere.4, h.elsewhere.5, h.elsewhere.6, h.elsewhere.7, h.elsewhere.8, h.elsewhere.9, h.elsewhere.10, h.elsewhere.11⟩
  have arm : ∀ a, t.freed.arbitrate.arm a = t.arm a := fun a => by rw [State.arm, arms]; rfl
  have load : ∀ a, t.freed.arbitrate.load? a = t.load? a := fun a => congrArg Arm.load (arm a)
  have flagged : ∀ p n, t.freed.arbitrate.flagged p n = t.flagged p n := fun p n => by
    rw [State.flagged, State.port, ports]; rfl
  refine ⟨⟨by rw [station]; exact h.state, by rw [station]; exact h.queue, by rw [station]; exact h.request,
    by rw [station]; exact h.shot, by rw [station]; exact h.timers, by rw [station]; exact h.manifold,
    by rw [flagged, flagged]; exact h.notice, fun a l i y m held line at_ present sums after =>
      h.counts a l i y m held line at_ present sums ((load a).symm.trans after), fun a l held requires blends => ?_,
    fun a l held requires unblending opened => ?_, fun a l held spared opened away => ?_,
    fun a l held closing settled others => (load a).trans (h.completed a l held closing settled others), outside⟩, station⟩
  · obtain ⟨m, after, cut, rest⟩ := h.blending a l held requires blends
    refine ⟨m, (load a).trans after, ⟨?_, ?_, ?_, ?_⟩, rest⟩
    · rw [arm, settings]; exact cut.flush
    · rw [arm, settings]; exact cut.closing
    · rw [arm]; exact cut.ethanol
    · rw [header]; exact cut.shares
  · obtain ⟨m, after, rest⟩ := h.required a l held requires unblending opened
    rw [arm, header]
    exact ⟨m, (load a).trans after, rest⟩
  · rw [arm, header, load]
    exact h.optional a l held spared opened away

end Sys2Proof.Machine
end

section
/-! PROOFS. The timers of a station, and reply windows that close (R126, R128, R133, R134, R138, R139). -/

namespace Sys2Proof.Machine

/-! ## Stations that gain a request -/

/-- The stations that ask once one of them has changed. -/
theorem requests_modStation {s : State} {st : Fin 4} {f : Station → Station} {b : Bool} (asks : (f (s.station st)).request = b) :
    (fun k => ((s.modStation st f).station k).request) = s.asksWith st b := by
  funext k
  by_cases own : k = st
  · subst own
    rw [State.modStation_station_self, asks]
    simp [State.asksWith]
  · rw [State.modStation_station_ne _ _ _ _ own]
    simp [State.asksWith, own]

section Gain

variable {s : State} {st : Fin 4} (f : Station → Station)

/-- While the bus is busy the station waits with its request. -/
theorem gainRequest_busy (busy : s.bus.txn ≠ none) :
    (s.modStation st f).gainRequest st = s.modStation st fun x => { f x with request := true } := by
  rw [State.gainRequest, State.modStation_modStation,
    State.arbitrate_busy (s := s.modStation st fun x => { f x with request := true }) busy]

/-- A free bus is granted at once. -/
theorem gainRequest_free (free : s.bus.txn = none) :
    (∃ q, ((s.modStation st f).gainRequest st).station st = { f (s.station st) with request := q }) ∧
      ((s.modStation st f).gainRequest st).arms = s.arms ∧
      s.busHandedOn ((s.modStation st f).gainRequest st) (s.asksWith st true) := by
  rw [State.gainRequest, State.modStation_modStation]
  obtain ⟨q, station⟩ := arbitrate_station (s.modStation st fun x => { f x with request := true }) st
  refine ⟨⟨q, by rw [station, State.modStation_station_self]⟩, arbitrate_kept State.arms (fun _ _ _ => rfl) (fun _ _ => rfl) _, ?_⟩
  rw [← requests_modStation (s := s) (st := st) (f := fun x => { f x with request := true }) rfl]
  exact State.arbitrate_handsOn (s := s) (u := s.modStation st fun x => { f x with request := true }) (by rw [← free]; rfl)

end Gain

/-! ## The telling of a fault -/

/-- A fault told with nothing before it. -/
theorem State.Tells.refl (s : State) (st : Fin 4) : s.Tells s st := ⟨rfl, rfl, rfl, .refl s, fun _ _ => rfl, rfl, rfl, rfl⟩

/-- A fault told after the station's own flags have changed. -/
theorem tells_modStation (s : State) (st : Fin 4) {f : Station → Station} (queue : (f (s.station st)).queue = (s.station st).queue)
    (shot : (f (s.station st)).shot = (s.station st).shot) (manifold : (f (s.station st)).manifold = (s.station st).manifold) :
    s.Tells (s.modStation st f) st := by
  have own : (s.modStation st f).station st = f (s.station st) := State.modStation_station_self ..
  exact ⟨rfl, rfl, rfl, (frame_madeOn s).station _ _ (.refl s), fun k ne => State.modStation_station_ne _ _ _ _ ne,
    by rw [own]; exact queue, by rw [own]; exact shot, by rw [own]; exact manifold⟩

/-- A fault told by an accepted reply. -/
theorem tells_acceptReply (s : State) (st : Fin 4) (low : Bool) : s.Tells (s.acceptReply st low) st := by
  have station := acceptReply_station s st low
  have own := station st
  rw [if_pos rfl] at own
  have frame : s.Frame (s.acceptReply st low) := by
    have set : s.Frame (s.modStation st fun x => { x with failures := 0, lowLevel := low }) :=
      (frame_madeOn s).station _ _ (.refl s)
    unfold State.acceptReply
    dsimp only
    split
    · exact set.raise _ _
    · exact set
  exact ⟨acceptReply_kept _ (fun _ _ _ => rfl) (fun _ _ _ => rfl) .., acceptReply_kept _ (fun _ _ _ => rfl) (fun _ _ _ => rfl) ..,
    acceptReply_kept _ (fun _ _ _ => rfl) (fun _ _ _ => rfl) .., frame,
    fun k ne => by rw [station, if_neg ne], by rw [own], by rw [own], by rw [own]⟩

/-- The flags of the station come through its fault. -/
theorem State.Tells.flags {s w : State} {st : Fin 4} (_ : s.Tells w st) :
    ((State.endEvent s (w.enterFault st)).station st).failures = (w.station st).failures ∧
      ((State.endEvent s (w.enterFault st)).station st).lowLevel = (w.station st).lowLevel := by
  rw [(enterFault_stands s w st).station]
  exact ⟨rfl, rfl⟩

/-- A transaction whose outcome is a station fault. -/
theorem endTxn_faulted {s w : State} {st : Fin 4} {x : Txn} {r : Option Reply} (tells : s.Tells w st)
    (outcome : s.outcome x r = w.enterFault st) :
    s.stationFaulted (s.endTxn x r) st ∧ ((s.endTxn x r).station st).failures = (w.station st).failures ∧
      ((s.endTxn x r).station st).lowLevel = (w.station st).lowLevel := by
  have ends : s.endTxn x r = (State.endEvent s (w.enterFault st)).freed.arbitrate := by
    rw [State.endTxn, outcome]
    rfl
  obtain ⟨faulted, station⟩ := stationFaulted_freed tells.faulted
  obtain ⟨failures, low⟩ := tells.flags
  rw [ends]
  exact ⟨faulted, by rw [station]; exact failures, by rw [station]; exact low⟩

/-! ## Timers (R126, R128) -/

/-- Settles O35: the three timers, with the bus busy and free. -/
theorem stationTimersRunOut : Obligations.StationTimersRunOut := by
  unfold Obligations.StationTimersRunOut
  intro st s
  have ranOut : (s.station st).state = .changeover → (s.station st).changeover.isRunning = true →
      s.changeoverOver st = if (s.station st).queue = [] then s.modStation st fun x => { x with state := .idle, changeover := .expired }
        else (s.modStation st fun x => { x with state := .idle, changeover := .expired }).gainRequest st :=
    fun state running => if_pos ⟨state, running⟩
  have due : (s.station st).state = .shooting → (s.station st).poll.isRunning = true →
      s.pollDue st = (s.modStation st fun x => { x with poll := .expired }).gainRequest st :=
    fun state running => if_pos ⟨state, running⟩
  refine ⟨fun state running empty => ?idle, fun state running some_ busy => ?waits, fun state running some_ free => ?asks,
    fun state running busy => ?pollWaits, fun state running free => ?polls, fun state running => ?fault⟩
  case idle => exact congrArg Host.Outcome.next ((ranOut state running).trans (if_pos empty))
  case waits =>
    exact congrArg Host.Outcome.next ((ranOut state running).trans ((if_neg some_).trans (gainRequest_busy _ busy)))
  case asks =>
    obtain ⟨⟨q, station⟩, _, handed⟩ := gainRequest_free (st := st) (fun x => { x with state := .idle, changeover := .expired }) free
    exact ⟨_, congrArg Host.Outcome.next ((ranOut state running).trans (if_neg some_)), by rw [station], by rw [station], handed⟩
  case pollWaits => exact congrArg Host.Outcome.next ((due state running).trans (gainRequest_busy _ busy))
  case polls =>
    obtain ⟨⟨q, station⟩, arms, handed⟩ := gainRequest_free (st := st) (fun x => { x with poll := .expired }) free
    exact ⟨_, congrArg Host.Outcome.next (due state running), by rw [station]; exact state, by rw [station], by rw [station], arms,
      handed⟩
  case fault =>
    have tells := State.Tells.refl s st
    refine ⟨_, congrArg Host.Outcome.next (if_pos ⟨state, running⟩), tells.faulted, tells.flags.1, tells.flags.2,
      fun x busy own => ?_⟩
    have txn := (enterFault_stands s s st).txn
    have at_ : s.txnAt st = some x := by rw [State.txnAt, busy]; simp [Option.filter_some, own]
    rw [at_] at txn
    exact (Option.filter_eq_some_iff.mp txn).1

/-! ## Windows that close (R133, R139) -/

/-- What follows a transaction with no reply. -/
def Txn.unanswered (x : Txn) : Station → Station :=
  if x.kind = .select then State.askAgain else State.startPoll

/-- A transaction with no reply counts a failure. -/
theorem outcome_unanswered {s : State} {x : Txn} (kept : x.discarded = false) (kind : x.kind ≠ .clear) :
    s.outcome x none = s.noReply x.station x.unanswered := by
  unfold State.outcome Txn.unanswered
  rw [if_neg (by simp [kept])]
  cases own : x.kind with
  | select => rfl
  | shot => rfl
  | poll => rfl
  | clear => exact absurd own kind

/-- Settles O37: below the third failure the station goes on, the third is a fault. -/
theorem replyWindowCloseCountsFailure : Obligations.ReplyWindowCloseCountsFailure := by
  unfold Obligations.ReplyWindowCloseCountsFailure
  intro x s busy window kept kind
  have failed : ((s.modStation x.station fun y => { y with failures := y.failures + 1 }).station x.station) =
      { s.station x.station with failures := (s.station x.station).failures + 1 } := State.modStation_station_self ..
  have outcome := outcome_unanswered (s := s) kept kind
  refine ⟨_, windowClosed_of_window busy window, ?_⟩
  by_cases third : 3 ≤ (s.station x.station).failures + 1
  · have faults : s.outcome x none =
        (s.modStation x.station fun y => { y with failures := y.failures + 1 }).enterFault x.station := by
      rw [outcome, State.noReply, failed]
      exact if_pos third
    obtain ⟨faulted, failures, _⟩ := endTxn_faulted
      (tells_modStation s x.station (f := fun y => { y with failures := y.failures + 1 }) rfl rfl rfl) faults
    exact ⟨by rw [failures, failed], endTxn_sameOutsideLoads .., fun below => absurd third (by omega), fun _ => faulted⟩
  · have goesOn : s.outcome x none = s.modStation x.station fun y => x.unanswered { y with failures := y.failures + 1 } := by
      rw [outcome, State.noReply, failed]
      exact (if_neg third).trans (State.modStation_modStation ..)
    have ends := endTxn_endsQuietly goesOn rfl rfl rfl
    obtain ⟨q, station⟩ := ends.station x.station
    rw [State.modStation_station_self] at station
    have set : x.unanswered { s.station x.station with failures := (s.station x.station).failures + 1 } =
        { s.station x.station with
          failures := (s.station x.station).failures + 1
          poll := if x.kind = .select then (s.station x.station).poll else .running 100
          request := if x.kind = .select then decide ((s.station x.station).queue ≠ []) else (s.station x.station).request } := by
      unfold Txn.unanswered
      by_cases select : x.kind = .select
      · simp only [select, if_true, State.askAgain]
        cases (s.station x.station).queue <;> rfl
      · simp only [select, if_false, State.startPoll]
        rfl
    rw [set] at station
    have asks := requests_modStation (s := s) (st := x.station)
      (f := fun y => x.unanswered { y with failures := y.failures + 1 }) (congrArg Station.request set)
    exact ⟨by rw [station], endTxn_sameOutsideLoads .., fun _ => ⟨by rw [station], ends.arms, ends.header, asks ▸ ends.handed⟩,
      fun above => absurd above third⟩

end Sys2Proof.Machine
end

section
/-! PROOFS. The station after the report of a shot (R125, R129, R130, R133, R137). -/

namespace Sys2Proof.Machine

/-! ## Accepted replies -/

/-- An accepted reply's state is listed for the frame sent. -/
theorem accepts_lists {x : Txn} {b0 b1 b2 : Byte} {r : Reply} (accepted : x.accepts b0 b1 b2 = some r) :
    x.kind.lists r.state = true := by
  unfold Txn.accepts at accepted
  dsimp only at accepted
  split at accepted
  · split at accepted
    · exact absurd accepted nofun
    · split at accepted
      · rename_i listed
        obtain rfl := Option.some.inj accepted
        exact listed
      · exact absurd accepted nofun
  · exact absurd accepted nofun

/-- The outcome of a transaction that is not discarded. -/
theorem outcome_kept {s : State} {x : Txn} (kept : x.discarded = false) (r : Option Reply) :
    (x.kind = .select → s.outcome x r = s.selectOutcome x.station x.arm r) ∧
      (x.kind = .shot → s.outcome x r = s.shotOutcome x.station r) ∧
      (x.kind = .poll → s.outcome x r = s.pollOutcome x.station r) := by
  unfold State.outcome
  rw [if_neg (by simp [kept])]
  exact ⟨fun kind => by rw [kind], fun kind => by rw [kind], fun kind => by rw [kind]⟩

/-! ## Back to IDLE -/

/-- Two changes of a station that agree on it are one. -/
theorem modStation_congr {s : State} {st : Fin 4} {f g : Station → Station} (same : f (s.station st) = g (s.station st)) :
    s.modStation st f = s.modStation st g := by
  have at_ : f s.stations[st.val] = g s.stations[st.val] := same
  simp only [State.modStation, at_]

/-- A station that has its outcome. -/
def Station.idled (x : Station) : Station :=
  { x with shot := none, state := .idle, poll := .stopped, shotTimer := .stopped, request := decide (x.queue ≠ []) }

/-- While the bus is busy it waits with its request. -/
theorem backToIdle_busy {s : State} (st : Fin 4) (busy : s.bus.txn ≠ none) :
    s.backToIdle st = (s.modStation st Station.idled).modTxn fun y => if y.station = st then { y with shot := none } else y := by
  have some_ : (s.dropShot st).bus.txn ≠ none := by
    change s.bus.txn.map _ ≠ none
    simpa using busy
  have set : ∀ f : Station → Station, (s.dropShot st).modStation st f =
      (s.modStation st fun x => f { x with shot := none }).modTxn fun y => if y.station = st then { y with shot := none } else y := by
    intro f
    have moved : (s.dropShot st).modStation st f = ((s.modStation st fun x => { x with shot := none }).modStation st f).modTxn
        fun y => if y.station = st then { y with shot := none } else y := rfl
    rw [moved, State.modStation_modStation]
  unfold State.backToIdle
  dsimp only
  split
  · rename_i empty
    rw [set, modTxn_station, State.modStation_station_self] at empty
    rw [set]
    refine congrArg (State.modTxn · _) (modStation_congr ?_)
    have none_ : (s.station st).queue = [] := empty
    simp [Station.idled, none_]
  · rename_i waits
    rw [set, modTxn_station, State.modStation_station_self] at waits
    have queued : (s.station st).queue ≠ [] := waits
    rw [gainRequest_busy _ some_, set]
    refine congrArg (State.modTxn · _) (modStation_congr ?_)
    simp [Station.idled, queued]

/-- The queue after the report of a shot. -/
def Shot.queueAfter (sh : Shot) (q : List QueueEntry) : List QueueEntry :=
  if sh.standing = .inEntry then State.turnQueue q else q

/-- The state after an accepted report of a shot, before the load hears of it. -/
def State.reported (s : State) (st : Fin 4) (low : Bool) (sh : Shot) : State :=
  ((s.acceptReply st low).settleQueue st sh).backToIdle st

/-- The station after it. -/
def Station.reported (x : Station) (low : Bool) (sh : Shot) : Station :=
  Station.idled { x with failures := 0, lowLevel := low, queue := sh.queueAfter x.queue }

section Reported

variable {s : State} {st : Fin 4} (busy : s.bus.txn ≠ none) (low : Bool) (sh : Shot)
include busy

/-- The report as one change of the station, of its transaction and of notices. -/
theorem reported_eq : s.reported st low sh =
    ((s.acceptReply st low).modStation st fun x => Station.idled { x with queue := sh.queueAfter x.queue }).modTxn
      fun y => if y.station = st then { y with shot := none } else y := by
  have settled : (s.acceptReply st low).settleQueue st sh =
      (s.acceptReply st low).modStation st fun x => { x with queue := sh.queueAfter x.queue } := by
    unfold State.settleQueue Shot.queueAfter
    split
    · rfl
    · exact ((modStation_congr (g := id) rfl).trans (by simp [State.modStation])).symm
  have some_ : ((s.acceptReply st low).modStation st fun x => { x with queue := sh.queueAfter x.queue }).bus.txn ≠ none := by
    rw [show ((s.acceptReply st low).modStation st fun x => { x with queue := sh.queueAfter x.queue }).bus = s.bus from
      (tells_acceptReply s st low).bus]
    exact busy
  rw [State.reported, settled, backToIdle_busy st some_, State.modStation_modStation]

/-- What it leaves beside stations, ports and the transaction. -/
theorem reported_kept {β : Type} (g : State → β) (station : ∀ s st f, g (State.modStation s st f) = g s)
    (port : ∀ s p f, g (State.modPort s p f) = g s) (bus : ∀ (s : State) x, g { s with bus := x } = g s) :
    g (s.reported st low sh) = g s := by
  rw [reported_eq busy, State.modTxn, bus, station, acceptReply_kept g station port]

/-- The station and the others. -/
theorem reported_station : (s.reported st low sh).station st = (s.station st).reported low sh ∧
    ∀ k, k ≠ st → (s.reported st low sh).station k = s.station k := by
  have accepted := acceptReply_station s st low
  refine ⟨?_, fun k ne => ?_⟩
  · rw [reported_eq busy, modTxn_station, State.modStation_station_self, accepted, if_pos rfl]
    rfl
  · rw [reported_eq busy, modTxn_station, State.modStation_station_ne _ _ _ _ ne, accepted, if_neg ne]

/-- The transactions. -/
theorem reported_txn : (s.reported st low sh).txnAt st = (s.txnAt st).map (fun y => { y with shot := none }) ∧
    (∀ k, k ≠ st → (s.reported st low sh).txnAt k = s.txnAt k) ∧ (s.reported st low sh).bus.pointer = s.bus.pointer := by
  have bus : (s.acceptReply st low).bus = s.bus := (tells_acceptReply s st low).bus
  have same : ∀ k, (s.acceptReply st low).txnAt k = s.txnAt k := fun k => by rw [State.txnAt, bus]; rfl
  rw [reported_eq busy]
  refine ⟨?_, fun k ne => ?_, ?_⟩
  · rw [txnAt_modTxn_self _ _ (fun y => { y with shot := none }) fun _ => rfl]
    exact congrArg _ (same st)
  · rw [txnAt_modTxn_ne ne.symm (fun y => { y with shot := none }) fun _ => rfl]
    exact same k
  · change (s.acceptReply st low).bus.pointer = _
    rw [bus]

/-- No shot of the station counts to a load any more. -/
theorem reported_unshot {a : Fin 8} {n : Nat}
    (others : ∀ k, k ≠ st → ∀ z, s.shotOf k = some z → z.countsTo a n = false) : (s.reported st low sh).unshot a n := by
  obtain ⟨station, stations⟩ := reported_station (st := st) busy low sh
  obtain ⟨txn, txns, _⟩ := reported_txn (st := st) busy low sh
  intro k z shot
  rw [shotOf_eq] at shot
  by_cases own : k = st
  · subst own
    rw [station, txn] at shot
    cases at_ : s.txnAt k with
    | none => rw [at_] at shot; exact absurd shot nofun
    | some y => rw [at_] at shot; exact absurd shot nofun
  · rw [stations k own, txns k own, ← shotOf_eq] at shot
    exact others k own z shot

/-- The stations that ask. -/
theorem reported_requests : (fun k => ((s.reported st low sh).station k).request) =
    s.asksWith st (decide (sh.queueAfter (s.station st).queue ≠ [])) := by
  obtain ⟨station, stations⟩ := reported_station (st := st) busy low sh
  funext k
  by_cases own : k = st
  · subst own
    rw [station]
    simp [State.asksWith, Station.reported, Station.idled]
  · rw [stations k own]
    simp [State.asksWith, own]

end Reported

/-! ## A station through the end of the event -/

/-- The station is `x` but for its queue and its request. -/
def State.standsAs (st : Fin 4) (x : Station) (t : State) : Prop :=
  ∃ q b, t.station st = { x with queue := q, request := b }

section StandsAs

variable {st : Fin 4} {x : Station} (landed : x.shot = none)

/-- The arbiter leaves it. -/
theorem standsAs_arbitrate {t : State} (h : t.standsAs st x) : t.arbitrate.standsAs st x := by
  obtain ⟨q, b, station⟩ := h
  obtain ⟨n, after⟩ := arbitrate_station t st
  exact ⟨q, n, by rw [after, station]⟩

/-- An entry that joins a queue leaves it. -/
theorem standsAs_appendEntry {t : State} (h : t.standsAs st x) (k : Fin 4) (e : QueueEntry) :
    (t.appendEntry k e).standsAs st x := by
  have changed : ∀ {u : State} {f : Station → Station}, u.standsAs st x →
      (∀ y, ∃ q b, f y = { y with queue := q, request := b }) → (u.modStation k f).standsAs st x := by
    intro u f ⟨q, b, station⟩ set
    by_cases own : st = k
    · subst own
      obtain ⟨q', b', same⟩ := set (u.station st)
      exact ⟨q', b', by rw [State.modStation_station_self, same, station]⟩
    · exact ⟨q, b, (State.modStation_station_ne _ _ _ _ own).trans station⟩
  have joined : (t.modStation k fun y => { y with queue := y.queue ++ [e] }).standsAs st x :=
    changed h fun y => ⟨_, y.request, rfl⟩
  unfold State.appendEntry
  dsimp only
  split
  · exact standsAs_arbitrate (changed joined fun y => ⟨y.queue, _, rfl⟩)
  · exact joined

include landed

/-- An arm's withdrawal leaves it where no shot is in flight. -/
theorem standsAs_dropEntry {t : State} (h : t.standsAs st x) (k : Fin 4) (b : Fin 8) : (t.dropEntry k b).standsAs st x := by
  obtain ⟨q, n, station⟩ := h
  unfold State.dropEntry State.modShot
  by_cases own : st = k
  · subst own
    refine ⟨q.filter fun e => e.arm != b, n && !(decide (x.state = .idle) && (q.filter fun e => e.arm != b).isEmpty), ?_⟩
    rw [modTxn_station, State.modStation_modStation, State.modStation_station_self, station]
    simp only [landed]
    rfl
  · refine ⟨q, n, ?_⟩
    rw [modTxn_station, State.modStation_modStation, State.modStation_station_ne _ _ _ _ own, station]

/-- Every move of the arms leaves it, and the serving. -/
theorem standsAs_serves : Serves (fun _ => True) (State.standsAs st x) where
  move _ _ _ h _ _ := h
  drop _ h := h
  grant _ _ h := h
  queue _ _ _ h := h
  page _ _ h := h
  head h _ := ⟨trivial, h⟩
  raise n ps _ h := by
    rename_i t _
    obtain ⟨q, b, station⟩ := h
    exact ⟨q, b, (raise_kept (fun u => u.station st) (fun _ _ _ => rfl) n ps t).trans station⟩
  withdrawLine keep i _ h := by
    unfold State.withdrawLine
    split
    · exact h
    · split
      · exact h
      · exact standsAs_dropEntry landed h _ _
  requeueLine i _ h := by
    unfold State.requeueLine
    split
    · exact h
    · split
      · split
        · exact h
        · dsimp only
          split
          · exact h
          · exact standsAs_appendEntry (t := State.modLine _ _ _ _) h _ _
      · exact h
      · exact h

omit landed in
/-- A completion leaves it. -/
theorem standsAs_completeIfSettled {t : State} (h : t.standsAs st x) (a : Fin 8) : (t.completeIfSettled a).standsAs st x := by
  obtain ⟨q, b, station⟩ := h
  unfold State.completeIfSettled
  split
  · exact ⟨q, b, station⟩
  · split
    · exact ⟨q, b, (completeLoad_kept (fun u => u.station st) (fun _ _ _ => rfl) (fun _ _ _ _ _ => rfl) ..).trans station⟩
    · exact ⟨q, b, station⟩

end StandsAs

end Sys2Proof.Machine
end

section
/-! PROOFS. The load after the report of its shot: the line, the checkpoint event and the completion (R64, R129, R130, R149). -/

namespace Sys2Proof.Machine

/-! ## A checkpoint event in any state of the arm (R149) -/

/-- What a checkpoint event leaves of an arm with load `l`, now `k`: its lines but for kept shots and its number; the arm goes to
HELD, waiting for no shares, or stays with all but loads and ports. -/
structure State.Fired (s t : State) (a : Fin 8) (l k : Load) : Prop where
  load : t.load? a = some k
  lines : k.lines.map Line.mark = l.lines.map Line.mark
  number : k.data.number = l.data.number
  arm : (t.arm a).state = .held ∧ t.notListed a ∧ (s.arm a).state.toResume ≠ none ∨
    (t.arm a).state = (s.arm a).state ∧ (t.arm a).settle = (s.arm a).settle ∧ t.header = s.header ∧ t.stations = s.stations ∧
      t.bus = s.bus

/-- A load held keeps its flags and its number. -/
theorem heldFrom_flags (l : Load) (r : ResumePhase) : (l.heldFrom r).data.flag0 = l.data.flag0 ∧
    (l.heldFrom r).data.number = l.data.number ∧ (l.heldFrom r).data.causes = l.data.causes := by
  rw [heldFrom_data]
  exact ⟨amendedData_kept l LoadData.flag0 fun _ _ _ _ _ _ _ => rfl, amendedData_kept l LoadData.number fun _ _ _ _ _ _ _ => rfl,
    amendedData_kept l LoadData.causes fun _ _ _ _ _ _ _ => rfl⟩

/-- The states that a hold does not leave. -/
theorem toResume_eq_none {x : ArmState} (none_ : x.toResume = none) : x = .held ∨ x = .idle ∨ x = .closing := by
  cases x <;> simp_all [ArmState.toResume]

/-- Causes that join. -/
theorem addCauses_fired {s : State} {a : Fin 8} {l : Load} (c : HoldCauses) (load : s.load? a = some l) :
    ∃ k, s.Fired (s.addCauses a c) a l k ∧ k.data.flag0 = l.data.flag0 ∧
      (c.isEmpty = false → (s.arm a).state.toResume ≠ none →
        ((s.addCauses a c).arm a).state = .held ∧ k.data.causes = l.data.causes.union c) := by
  have stays : s.Fired s a l l := ⟨load, rfl, rfl, .inr ⟨rfl, rfl, rfl, rfl, rfl⟩⟩
  by_cases empty : c.isEmpty = true
  · have same : s.addCauses a c = s := if_pos empty
    rw [same]
    exact ⟨l, stays, rfl, fun some_ => absurd (empty.symm.trans some_) nofun⟩
  · have some_ : c.isEmpty = false := by simpa using empty
    cases resume : (s.arm a).state.toResume with
    | some r =>
      have entered := addCauses_of_toResume some_ resume
      have joined := load?_modLoad (s := s) (fun l => { l with data := { l.data with causes := l.data.causes.union c } }) load
      obtain ⟨ls, _, arm⟩ := enterHeld_arm r joined
      obtain ⟨k, there, lines⟩ := enterHeld_lines r joined
      obtain rfl := Option.some.inj (there.symm.trans (congrArg Arm.load arm))
      obtain ⟨flag0, number, causes⟩ := heldFrom_flags { l with data := { l.data with causes := l.data.causes.union c } } r
      rw [entered]
      exact ⟨_, ⟨there, lines, number, .inl ⟨by rw [arm], (enterHeld_spares _ a r).listed, by rw [resume]; exact nofun⟩⟩, flag0,
        fun _ _ => ⟨by rw [arm], causes⟩⟩
    | none =>
      by_cases held : (s.arm a).state = .held
      · rw [addCauses_of_held some_ held]
        exact ⟨_, ⟨load?_modLoad _ load, rfl, rfl, .inr ⟨State.modLoad_arm_state .., by rw [State.modLoad, State.modArm_arm_self],
          rfl, rfl, rfl⟩⟩, rfl, fun _ holds => absurd rfl holds⟩
      · have same : s.addCauses a c = s := by
          unfold State.addCauses
          rw [if_neg empty]
          rcases (toResume_eq_none resume).resolve_left held with state | state <;> rw [state]
        rw [same]
        exact ⟨l, stays, rfl, fun _ holds => absurd rfl holds⟩

/-- A checkpoint event. -/
theorem fireEvent_fired {s : State} {a : Fin 8} {l : Load} (ev : EventKind) (load : s.load? a = some l) :
    ∃ k, s.Fired (s.fireEvent a ev) a l k ∧ k.data.flag0 = (l.data.flag0 || l.hit ev 0) ∧
      ((l.hit ev 0 && l.halts 0) = true → (s.arm a).state.toResume ≠ none →
        ((s.fireEvent a ev).arm a).state = .held ∧ k.data.causes.checkpoint0 = true) := by
  rw [fireEvent_of_hits load ⟨rfl, rfl⟩ ⟨rfl, rfl⟩]
  split
  · have raised := fun {β : Type} (g : State → β) (port : ∀ s p f, g (s.modPort p f) = g s) =>
      raise_kept g port .checkpoint (terminalsAndLane (laneOf a)) (s.modLoad a fun y => y.flagsSet (l.hit ev 0) (l.hit ev 1))
    generalize (s.modLoad a fun y => y.flagsSet (l.hit ev 0) (l.hit ev 1)).raise .checkpoint (terminalsAndLane (laneOf a)) = v at *
    have arm : v.arm a = { s.arm a with load := some (l.flagsSet (l.hit ev 0) (l.hit ev 1)) } := by
      rw [raised (fun t => t.arm a) fun _ _ _ => rfl, State.modLoad, State.modArm_arm_self, show (s.arm a).load = some l from load]
      rfl
    obtain ⟨k, fired, flag0, halts⟩ := addCauses_fired
      { checkpoint0 := l.hit ev 0 && l.halts 0, checkpoint1 := l.hit ev 1 && l.halts 1 } (congrArg Arm.load arm)
    refine ⟨k, ⟨fired.load, fired.lines, fired.number, ?_⟩, flag0, fun halt holds => ?_⟩
    · have moved := fired.arm
      rw [arm] at moved
      refine moved.imp id fun ⟨state, settle, header, stations, bus⟩ => ⟨state, settle, ?_, ?_, ?_⟩
      · exact header.trans (raised State.header fun _ _ _ => rfl)
      · exact stations.trans (raised State.stations fun _ _ _ => rfl)
      · exact bus.trans (raised State.bus fun _ _ _ => rfl)
    · obtain ⟨held, causes⟩ := halts (by simp [HoldCauses.isEmpty, halt]) (by rw [arm]; exact holds)
      refine ⟨held, ?_⟩
      rw [causes]
      simp [HoldCauses.union, halt]
  · rename_i miss
    have missed : l.hit ev 0 = false := by
      cases hit : l.hit ev 0
      · rfl
      · exact absurd (by rw [hit]; rfl) miss
    exact ⟨l, ⟨load, rfl, rfl, .inr ⟨rfl, rfl, rfl, rfl, rfl⟩⟩, by rw [missed, Bool.or_false], fun halt =>
      absurd halt (by rw [missed]; exact nofun)⟩

/-- The end of an event leaves an arm but for its load's revision, where it waits for no shares or the header stays. -/
theorem endEvent_own {s0 u : State} {a : Fin 8} {k : Load} (there : u.load? a = some k)
    (calm : u.notListed a ∨ u.header = s0.header) :
    ∃ m, (State.endEvent s0 u).arm a = { u.arm a with load := some m } ∧ (m = k ∨ m = k.bump) := by
  have held : (u.arm a).load = some k := there
  have arm : (State.endEvent s0 u).arm a = if State.partsChanged s0 u a = true then (u.arm a).bumped else u.arm a := by
    rcases calm with unlisted | header
    · exact endEvent_arm s0 unlisted
    · rw [endEvent_of_header header, bumpRevisions_arm]
  rw [arm]
  split
  · exact ⟨k.bump, by rw [Arm.bumped, held]; rfl, .inr rfl⟩
  · exact ⟨k, by rw [← held], .inl rfl⟩

/-! ## Ends that leave the header -/

/-- What the end of a transaction leaves whose outcome has changed no header, nor stations and bus since `v`. -/
structure State.EndsCalmly (s u v t : State) : Prop where
  station : ∀ k, ∃ q, t.station k = { v.station k with request := q }
  arms : t.arms = (State.bumpRevisions s u).arms
  header : t.header = s.header
  delivered : t.delivered = u.delivered
  handed : s.busHandedOn t fun k => (v.station k).request

/-- Such an end. -/
theorem endTxn_calm {s u v : State} {x : Txn} {r : Option Reply} (outcome : s.outcome x r = u) (header : u.header = s.header)
    (stations : u.stations = v.stations) (bus : u.bus = v.bus) (pointer : v.bus.pointer = s.bus.pointer) :
    s.EndsCalmly u v (s.endTxn x r) := by
  have ends : s.endTxn x r = (State.bumpRevisions s u).freed.arbitrate := by
    rw [State.endTxn, outcome, endEvent_of_header header]
    rfl
  have kept := fun {β : Type} (g : State → β) (station : ∀ s st f, g (State.modStation s st f) = g s)
      (bus : ∀ (s : State) x, g { s with bus := x } = g s) => arbitrate_kept g station bus (State.bumpRevisions s u).freed
  have revised : ∀ k, (State.bumpRevisions s u).station k = v.station k := fun k => by
    rw [State.station, bumpRevisions_stations, stations]
    rfl
  have points : (State.bumpRevisions s u).bus.pointer = s.bus.pointer := by
    rw [bumpRevisions_kept (fun t => t.bus.pointer) fun _ _ _ => rfl, bus, pointer]
  have handed := freed_handsOn points
  rw [← ends] at handed
  simp only [revised] at handed
  refine ⟨fun k => ?_, ?_, ?_, ?_, handed⟩
  · obtain ⟨q, station⟩ := arbitrate_station (State.bumpRevisions s u).freed k
    refine ⟨q, ?_⟩
    rw [ends, station, ← revised]
    rfl
  · rw [ends]
    exact kept State.arms (fun _ _ _ => rfl) fun _ _ => rfl
  · rw [ends]
    exact (kept State.header (fun _ _ _ => rfl) fun _ _ => rfl).trans ((State.bumpRevisions_header ..).trans header)
  · rw [ends]
    exact (kept State.delivered (fun _ _ _ => rfl) fun _ _ => rfl).trans
      (bumpRevisions_kept State.delivered (fun _ _ _ => rfl) s u)

/-! ## One line's counts -/

/-- Two changes of one line that agree on it are one. -/
theorem modLine_congr {s : State} {a : Fin 8} {i : Nat} {l : Load} {y : Line} {f g : Line → Line} (load : s.load? a = some l)
    (line : l.lines[i]? = some y) (same : f y = g y) : s.modLine a i f = s.modLine a i g := by
  refine modLoad_congr load ?_
  have lists : l.lines.modify i f = l.lines.modify i g := by
    apply List.ext_getElem?
    intro j
    by_cases own : i = j
    · subst own
      simp [line, same]
    · simp [own]
  rw [lists]

/-- An event that has changed the counts of one line alone. -/
theorem endEvent_modLine {s v : State} {a : Fin 8} {i : Nat} {l : Load} (f : Line → Line) (load : s.load? a = some l)
    (arms : v.arms = s.arms) (header : v.header = s.header) :
    State.endEvent s (v.modLine a i f) = v.modLine a i f ∧ (v.modLine a i f).arms = (s.modLine a i f).arms := by
  have arm : ∀ b, v.arm b = s.arm b := fun b => by rw [State.arm, arms]; rfl
  have loaded : v.load? a = some l := (congrArg Arm.load (arm a)).trans load
  refine ⟨?_, ?_⟩
  · refine endEvent_unmoved load header (fun b ne => (State.modArm_arm_ne _ _ _ _ ne).trans (arm b))
      (load?_modLoad _ loaded) ?_ ⟨rfl, rfl, rfl, rfl, rfl, rfl, rfl, rfl, rfl, rfl, rfl, rfl⟩ rfl
    rw [State.modLine, State.modLoad_arm_state, arm]
  · change v.arms.set a.val _ = s.arms.set a.val _
    simp only [arms]

/-- A delivered shot. -/
theorem deliver_owed {c : LineRecord} (some_ : 0 < c.owed) (volume : Nat) :
    c.deliver volume = { c with delivered := c.delivered + 1, owed := c.owed - 1, volume := c.volume + volume } := by
  rw [LineRecord.deliver, Nat.min_eq_left some_]

/-- A missed shot. -/
theorem miss_owed {c : LineRecord} (some_ : 0 < c.owed) : c.miss 1 = { c with missed := c.missed + 1, owed := c.owed - 1 } := by
  rw [LineRecord.miss, Nat.min_eq_left some_]

end Sys2Proof.Machine
end

section
/-! PROOFS. The reports of shots (R64, R129, R130, R149). -/

namespace Sys2Proof.Machine

/-- What a report makes of the counts of the shot's line. -/
def Reply.settles (r : Reply) (c : LineRecord) : LineRecord := if r.state = .done then c.deliver r.volume else c.miss 1

/-- The load's line has the report. -/
def State.counted (s : State) (st : Fin 4) (r : Reply) (sh : Shot) : State :=
  (s.reported st r.low sh).modLine sh.arm sh.line (Line.modCounts r.settles)

/-- A shot not taken has fired SHOT_MISSED. -/
def State.announced (s : State) (st : Fin 4) (r : Reply) (sh : Shot) : State :=
  if r.state = .done then s.counted st r sh else (s.counted st r sh).fireEvent sh.arm .shotMissed

/-- The whole outcome of a report. -/
def State.heard (s : State) (st : Fin 4) (r : Reply) (sh : Shot) : State :=
  if sh.standing = .detached then s.reported st r.low sh else (s.announced st r sh).completeIfSettled sh.arm

/-- A completion leaves what ports, arms, pages and the delivered list have no part in. -/
theorem completeIfSettled_kept {β : Type} (g : State → β) (port : ∀ s p f, g (s.modPort p f) = g s)
    (handed : ∀ s a l e t, g (State.handedOver s a l e t) = g s) (s : State) (a : Fin 8) : g (s.completeIfSettled a) = g s := by
  unfold State.completeIfSettled
  split
  · rfl
  · split
    · exact completeLoad_kept g port handed ..
    · rfl

section Report

variable {s : State} {x : Txn} {r : Reply} {sh : Shot} (shot : s.shotOf x.station = some sh)

section Outcome

variable (kept : x.discarded = false) (kind : x.kind = .shot ∨ x.kind = .poll)
  (reports : r.state = .done ∨ r.state = .ready ∨ r.state = .refused)
include shot kept kind reports

/-- The outcome of a SHOT or POLL whose reply reports the shot. -/
theorem outcome_heard : s.outcome x (some r) = s.heard x.station r sh := by
  have accepted : (s.acceptReply x.station r.low).shotOf x.station = some sh :=
    ((tells_acceptReply s x.station r.low).shotOf x.station).trans shot
  have report : (s.acceptReply x.station r.low).shotReport x.station r.volume =
      if sh.standing = .detached then s.reported x.station r.low sh
      else ((s.reported x.station r.low sh).modLine sh.arm sh.line
        (Line.modCounts fun c => c.deliver r.volume)).completeIfSettled sh.arm := by
    simp only [State.shotReport, accepted]
    rfl
  have missed : (s.acceptReply x.station r.low).shotNotTaken x.station =
      if sh.standing = .detached then s.reported x.station r.low sh
      else (((s.reported x.station r.low sh).modLine sh.arm sh.line
        (Line.modCounts fun c => c.miss 1)).fireEvent sh.arm .shotMissed).completeIfSettled sh.arm := by
    simp only [State.shotNotTaken, accepted]
    rfl
  have taken : s.outcome x (some r) =
      if r.state = .done then (s.acceptReply x.station r.low).shotReport x.station r.volume
      else (s.acceptReply x.station r.low).shotNotTaken x.station := by
    obtain ⟨_, shots, polls⟩ := outcome_kept (s := s) kept (some r)
    rcases kind with kind | kind
    · rw [shots kind]
      rcases reports with state | state | state <;> simp only [State.shotOutcome, state] <;> rfl
    · rw [polls kind]
      rcases reports with state | state | state <;> simp only [State.pollOutcome, state] <;> rfl
  rw [taken, report, missed]
  unfold State.heard State.announced State.counted Reply.settles
  by_cases done : r.state = .done
  · simp only [done, if_true]
  · simp only [done, if_false]

end Outcome

/-- The arms at the end of a transaction. -/
theorem endTxn_arms (s : State) (x : Txn) (r : Option Reply) :
    (s.endTxn x r).arms = (State.endEvent s (s.outcome x r)).arms :=
  arbitrate_kept State.arms (fun _ _ _ => rfl) (fun _ _ => rfl) (State.endEvent s (s.outcome x r)).freed

variable (busy : s.bus.txn ≠ none)
include busy

/-- The station at the end. -/
theorem heard_stands (s0 : State) : (State.endEvent s0 (s.heard x.station r sh)).freed.arbitrate.standsAs x.station
    ((s.station x.station).reported r.low sh) := by
  have serves := standsAs_serves (st := x.station) (x := (s.station x.station).reported r.low sh) rfl
  have reported : (s.reported x.station r.low sh).standsAs x.station ((s.station x.station).reported r.low sh) :=
    ⟨_, _, (reported_station busy r.low sh).1⟩
  have counted : (s.counted x.station r sh).standsAs x.station ((s.station x.station).reported r.low sh) := reported
  have announced : (s.announced x.station r sh).standsAs x.station ((s.station x.station).reported r.low sh) := by
    unfold State.announced
    split
    · exact counted
    · exact serves.fireEvent (b := sh.arm) .shotMissed trivial counted
  have heard : (s.heard x.station r sh).standsAs x.station ((s.station x.station).reported r.low sh) := by
    unfold State.heard
    split
    · exact reported
    · exact standsAs_completeIfSettled announced sh.arm
  exact standsAs_arbitrate (t := (State.endEvent s0 (s.heard x.station r sh)).freed)
    (serves.endEvent s0 (fun _ => trivial) heard)

/-- The load and its arm before the event. -/
theorem counted_arm (a : Fin 8) : (s.reported x.station r.low sh).arm a = s.arm a := by
  have arms : (s.reported x.station r.low sh).arms = s.arms :=
    reported_kept busy r.low sh State.arms (fun _ _ _ => rfl) (fun _ _ _ => rfl) fun _ _ => rfl
  rw [State.arm, arms]
  rfl

section Loaded

variable {l : Load} (load : s.load? sh.arm = some l)
include load

/-- The load with the report. -/
theorem counted_load : (s.counted x.station r sh).load? sh.arm = some (l.lineSet sh.line (Line.modCounts r.settles)) :=
  load?_modLoad _ ((congrArg Arm.load (counted_arm busy sh.arm)).trans load)

/-- The arm, but for the load. -/
theorem counted_arm_self : (s.counted x.station r sh).arm sh.arm =
    { s.arm sh.arm with load := some (l.lineSet sh.line (Line.modCounts r.settles)) } := by
  rw [State.counted, State.modLine, State.modLoad, State.modArm_arm_self, counted_arm busy,
    show (s.arm sh.arm).load = some l from load]
  rfl

end Loaded

/-- Where SHOT_MISSED reaches no entry, the report changes the load and the station alone. -/
theorem announced_silent (silent : r.state = .done ∨
      ∀ l, s.load? sh.arm = some l → ∀ c ∈ l.recipe.checkpoints, c.event ≠ .shotMissed) :
    s.announced x.station r sh = s.counted x.station r sh := by
  unfold State.announced
  by_cases done : r.state = .done
  · rw [if_pos done]
  · rw [if_neg done]
    cases load : s.load? sh.arm with
    | none =>
      have none_ : (s.counted x.station r sh).load? sh.arm = none := by
        rw [State.counted, State.modLine, State.modLoad_load_self, State.load?, counted_arm busy]
        exact congrArg (Option.map _) load
      simp only [State.fireEvent, none_]
    | some l => exact fireEvent_of_none (counted_load busy load) (silent.resolve_left done l load)

/-- Then the header, the stations and the bus are those of the report. -/
theorem heard_calm (silent : r.state = .done ∨ sh.standing = .detached ∨
      ∀ l, s.load? sh.arm = some l → ∀ c ∈ l.recipe.checkpoints, c.event ≠ .shotMissed) :
    (s.heard x.station r sh).header = s.header ∧
      (s.heard x.station r sh).stations = (s.reported x.station r.low sh).stations ∧
      (s.heard x.station r sh).bus = (s.reported x.station r.low sh).bus := by
  have header : (s.reported x.station r.low sh).header = s.header :=
    reported_kept busy r.low sh State.header (fun _ _ _ => rfl) (fun _ _ _ => rfl) fun _ _ => rfl
  unfold State.heard
  split
  · exact ⟨header, rfl, rfl⟩
  · rename_i counts
    rw [announced_silent busy (silent.imp id fun h => h.resolve_left counts)]
    exact ⟨(completeIfSettled_kept State.header (fun _ _ _ => rfl) (fun _ _ _ _ _ => rfl) ..).trans header,
      completeIfSettled_kept State.stations (fun _ _ _ => rfl) (fun _ _ _ _ _ => rfl) ..,
      completeIfSettled_kept State.bus (fun _ _ _ => rfl) (fun _ _ _ _ _ => rfl) ..⟩

section Line

variable {l : Load} {y : Line} (counts : sh.standing ≠ .detached) (load : s.load? sh.arm = some l)
  (line : l.lines[sh.line]? = some y)
include counts load line

/-- A load that does not complete, and that SHOT_MISSED does not reach. -/
theorem heard_counts (opened : (s.arm sh.arm).state ≠ .closing ∨ (s.arm sh.arm).settle ≠ .expired)
    (silent : r.state = .done ∨ ∀ c ∈ l.recipe.checkpoints, c.event ≠ .shotMissed) {f : LineRecord → LineRecord}
    (same : r.settles y.counts = f y.counts) :
    (State.endEvent s (s.heard x.station r sh)).arms = (s.modLine sh.arm sh.line (Line.modCounts f)).arms ∧
      (State.endEvent s (s.heard x.station r sh)).header = s.header := by
  have arms : (s.reported x.station r.low sh).arms = s.arms :=
    reported_kept busy r.low sh State.arms (fun _ _ _ => rfl) (fun _ _ _ => rfl) fun _ _ => rfl
  have header : (s.reported x.station r.low sh).header = s.header :=
    reported_kept busy r.low sh State.header (fun _ _ _ => rfl) (fun _ _ _ => rfl) fun _ _ => rfl
  have heard : s.heard x.station r sh = s.counted x.station r sh := by
    unfold State.heard
    rw [if_neg counts, announced_silent busy (silent.imp id fun h k held => by
      obtain rfl := Option.some.inj (load.symm.trans held)
      exact h)]
    refine completeIfSettled_of_open fun closing settled => ?_
    rw [counted_arm_self busy load] at closing settled
    exact opened.elim (fun open_ => open_ closing) fun open_ => open_ settled
  obtain ⟨event, same_⟩ := endEvent_modLine (i := sh.line) (Line.modCounts r.settles) load arms header
  rw [heard, State.counted, event]
  refine ⟨same_.trans (congrArg State.arms (modLine_congr load line ?_)), header⟩
  rw [Line.modCounts, Line.modCounts, same]

omit counts line in
/-- A missed shot that an entry is told of. -/
theorem announced_fired (missed : r.state ≠ .done) {c : RecipeCheckpoint} {rest : List RecipeCheckpoint} (entry : l.recipe.checkpoints = c :: rest)
    (told : c.event = .shotMissed) :
    ∃ k, (s.counted x.station r sh).Fired (s.announced x.station r sh) sh.arm (l.lineSet sh.line (Line.modCounts r.settles)) k ∧
      k.data.flag0 = true ∧
      (c.mode = .halt → l.data.flag0 = false → (s.arm sh.arm).state.toResume ≠ none →
        ((s.announced x.station r sh).arm sh.arm).state = .held ∧ k.data.causes.checkpoint0 = true) := by
  obtain ⟨k, fired, flag0, halts⟩ := fireEvent_fired .shotMissed (counted_load (x := x) (r := r) busy load)
  have announced : s.announced x.station r sh = (s.counted x.station r sh).fireEvent sh.arm .shotMissed := if_neg missed
  have hit : (l.lineSet sh.line (Line.modCounts r.settles)).hit .shotMissed 0 = !l.data.flag0 := by
    simp [Load.hit, Load.lineSet, entry, told]
  rw [← announced] at fired halts
  rw [counted_arm_self busy load] at halts
  refine ⟨k, fired, ?_, fun halt clear holds => halts ?_ holds⟩
  · rw [flag0, hit]
    exact Bool.or_not_self _
  · rw [hit]
    simp [Load.halts, Load.lineSet, entry, halt, clear]

/-- A load that does not complete, told of its missed shot. -/
theorem heard_fires (opened : (s.arm sh.arm).state ≠ .closing ∨ (s.arm sh.arm).settle ≠ .expired) (missed : r.state ≠ .done)
    {c : RecipeCheckpoint} {rest : List RecipeCheckpoint} (entry : l.recipe.checkpoints = c :: rest) (told : c.event = .shotMissed) :
    ∃ m z, (State.endEvent s (s.heard x.station r sh)).load? sh.arm = some m ∧ m.data.flag0 = true ∧
      m.lines[sh.line]? = some z ∧ z.counts = r.settles y.counts ∧
      (c.mode = .halt → l.data.flag0 = false → (s.arm sh.arm).state.toResume ≠ none →
        ((State.endEvent s (s.heard x.station r sh)).arm sh.arm).state = .held ∧ m.data.causes.checkpoint0 = true) := by
  obtain ⟨k, fired, flag0, halts⟩ := announced_fired busy load missed entry told
  have header : (s.counted x.station r sh).header = s.header :=
    reported_kept busy r.low sh State.header (fun _ _ _ => rfl) (fun _ _ _ => rfl) fun _ _ => rfl
  have heard : s.heard x.station r sh = s.announced x.station r sh := by
    unfold State.heard
    rw [if_neg counts]
    refine completeIfSettled_of_open fun closing settled => ?_
    rcases fired.arm with ⟨held, _⟩ | ⟨state, settle, _⟩
    · exact absurd (held.symm.trans closing) nofun
    · rw [state, counted_arm_self busy load] at closing
      rw [settle, counted_arm_self busy load] at settled
      exact opened.elim (fun open_ => open_ closing) fun open_ => open_ settled
  rw [heard]
  obtain ⟨m, arm, same⟩ := endEvent_own (s0 := s) fired.load
    (fired.arm.imp (fun h => h.2.1) fun ⟨_, _, h, _⟩ => h.trans header)
  have fields : m.data.flag0 = k.data.flag0 ∧ m.lines = k.lines ∧ m.data.causes = k.data.causes := by
    rcases same with rfl | rfl <;> exact ⟨rfl, rfl, rfl⟩
  obtain ⟨flags, lines, causes⟩ := fields
  have marked : k.lines[sh.line]?.map Line.mark = some (y.modCounts r.settles).mark := by
    rw [← List.getElem?_map, fired.lines, List.getElem?_map, lineSet_at _ line]
    rfl
  obtain ⟨z, at_, mark⟩ := Option.map_eq_some_iff.mp marked
  refine ⟨m, z, congrArg Arm.load arm, flags.trans flag0, by rw [lines]; exact at_, (Prod.ext_iff.mp mark).2, fun halt clear holds => ?_⟩
  obtain ⟨held, cause⟩ := halts halt clear holds
  exact ⟨by rw [arm]; exact held, by rw [causes]; exact cause⟩

/-- A load in CLOSING that waited for the shot completes. -/
theorem heard_completes (closing : (s.arm sh.arm).state = .closing) (settled : (s.arm sh.arm).settle = .expired)
    (others : ∀ k, k ≠ x.station → ∀ z, s.shotOf k = some z → z.countsTo sh.arm l.data.number = false) :
    (s.heard x.station r sh).header = s.header ∧ (s.heard x.station r sh).load? sh.arm = none ∧
      ((s.heard x.station r sh).arm sh.arm).state = .idle ∧
      ∃ d, (s.heard x.station r sh).delivered = s.delivered ++ [d] ∧ d.data.number = l.data.number ∧
        d.lines[sh.line]? = some (r.settles y.counts) := by
  have header : (s.counted x.station r sh).header = s.header :=
    reported_kept busy r.low sh State.header (fun _ _ _ => rfl) (fun _ _ _ => rfl) fun _ _ => rfl
  have delivered : (s.counted x.station r sh).delivered = s.delivered :=
    reported_kept busy r.low sh State.delivered (fun _ _ _ => rfl) (fun _ _ _ => rfl) fun _ _ => rfl
  have unshot : (s.counted x.station r sh).unshot sh.arm l.data.number := reported_unshot busy r.low sh others
  have arm := counted_arm_self (x := x) (r := r) busy load
  have told : ∃ k, (s.counted x.station r sh).Fired (s.announced x.station r sh) sh.arm
      (l.lineSet sh.line (Line.modCounts r.settles)) k ∧ (s.announced x.station r sh).delivered = s.delivered := by
    unfold State.announced
    split
    · exact ⟨_, ⟨counted_load busy load, rfl, rfl, .inr ⟨rfl, rfl, rfl, rfl, rfl⟩⟩, delivered⟩
    · obtain ⟨k, fired, _⟩ := fireEvent_fired .shotMissed (counted_load (x := x) (r := r) busy load)
      exact ⟨k, fired, ((frame_madeOn (s.counted x.station r sh)).fireEvent (b := sh.arm) .shotMissed trivial
        (.refl _)).elsewhere.delivered.trans delivered⟩
  obtain ⟨k, fired, list⟩ := told
  obtain ⟨state, settle, headed, stations, bus⟩ := fired.arm.resolve_left fun ⟨_, _, holds⟩ => by
    rw [arm] at holds
    exact holds (by rw [closing]; rfl)
  have completes : s.heard x.station r sh =
      (s.announced x.station r sh).completeLoad sh.arm (k.endDue.getD .complete) := by
    unfold State.heard
    rw [if_neg counts, completeIfSettled_eq fired.load (by rw [state, arm]; exact closing) (by rw [settle, arm]; exact settled)]
    rw [fired.number]
    exact (unshot.of_aside stations bus).landed
  have marked : (k.lines.map Line.counts)[sh.line]? = some (r.settles y.counts) := by
    have marks : (k.lines.map Line.mark)[sh.line]? = some (y.modCounts r.settles).mark := by
      rw [fired.lines, List.getElem?_map, lineSet_at _ line]
      rfl
    rw [List.getElem?_map] at marks ⊢
    obtain ⟨z, at_, mark⟩ := Option.map_eq_some_iff.mp marks
    rw [at_]
    exact congrArg some (Prod.ext_iff.mp mark).2
  rw [completes]
  refine ⟨(State.completeLoad_header ..).trans (headed.trans header), by rw [State.completeLoad_load?, if_pos rfl],
    by rw [completeLoad_arm_self fired.load]; rfl,
    k.finished (k.endDue.getD .complete) (s.announced x.station r sh).seconds, ?_, fired.number, marked⟩
  rw [(completeLoad_delivered fired.load _).1, list]

end Line

end Report

end Sys2Proof.Machine
end

section
/-! PROOFS. A reply on the bus (R126 to R130, R133, R134, R137 to R139). -/

namespace Sys2Proof.Machine

/-- A reply that ends a SELECT with a changeover, or lets a shot go on, leaves the arms. -/
theorem endTxn_accepted {s : State} {x : Txn} {r : Reply} {f : Station → Station}
    (outcome : s.outcome x (some r) = (s.acceptReply x.station r.low).modStation x.station f) {b : Bool}
    (asks : (f { s.station x.station with failures := 0, lowLevel := r.low }).request = b) :
    (∃ q, (s.endTxn x (some r)).station x.station =
        { f { s.station x.station with failures := 0, lowLevel := r.low } with request := q }) ∧
      (s.endTxn x (some r)).arms = s.arms ∧ (s.endTxn x (some r)).header = s.header ∧
      s.busHandedOn (s.endTxn x (some r)) (s.asksWith x.station b) := by
  have tells := tells_acceptReply s x.station r.low
  have accepted := acceptReply_station s x.station r.low x.station
  rw [if_pos rfl] at accepted
  have ends := endTxn_endsQuietly outcome tells.arms tells.header (congrArg Bus.pointer tells.bus :)
  obtain ⟨q, station⟩ := ends.station x.station
  rw [State.modStation_station_self, accepted] at station
  have requests := requests_modStation (s := s.acceptReply x.station r.low) (st := x.station) (f := f) (b := b)
    (by rw [accepted]; exact asks)
  have same : (s.acceptReply x.station r.low).asksWith x.station b = s.asksWith x.station b := by
    funext k
    unfold State.asksWith
    split
    · rfl
    · rename_i ne
      rw [tells.others k ne]
  exact ⟨⟨q, station⟩, ends.arms, ends.header, (requests.trans same) ▸ ends.handed⟩

section Replies

variable {s : State} {x : Txn} {r : Reply} (kept : x.discarded = false)
include kept

/-- A SELECT accepted begins the changeover. -/
theorem outcome_changesOver (kind : x.kind = .select) (state : r.state = .moving ∨ r.state = .ready) :
    s.outcome x (some r) = (s.acceptReply x.station r.low).changeOver x.station x.arm := by
  rw [(outcome_kept kept _).1 kind]
  rcases state with state | state <;> simp only [State.selectOutcome, state]

/-- A reply that is a station fault. -/
theorem outcome_faults (reply : (x.kind = .select ∧ (r.state = .faulted ∨ r.state = .refused)) ∨
      ((x.kind = .shot ∨ x.kind = .poll) ∧ r.state = .faulted)) :
    s.outcome x (some r) = (s.acceptReply x.station r.low).enterFault x.station := by
  obtain ⟨selects, shots, polls⟩ := outcome_kept (s := s) kept (some r)
  rcases reply with ⟨kind, state | state⟩ | ⟨kind | kind, state⟩
  · rw [selects kind]; simp only [State.selectOutcome, state]
  · rw [selects kind]; simp only [State.selectOutcome, state]
  · rw [shots kind]; simp only [State.shotOutcome, state]
  · rw [polls kind]; simp only [State.pollOutcome, state]

/-- A shot that goes on. -/
theorem outcome_pumps (listed : x.kind.lists r.state = true) (kind : x.kind = .shot ∨ x.kind = .poll)
    (state : r.state = .pumping ∨ r.state = .moving) :
    s.outcome x (some r) = (s.acceptReply x.station r.low).modStation x.station State.startPoll := by
  obtain ⟨_, shots, polls⟩ := outcome_kept (s := s) kept (some r)
  rcases kind with kind | kind
  · rcases state with state | state
    · rw [shots kind]; simp only [State.shotOutcome, state]
    · rw [kind, state] at listed
      exact absurd listed nofun
  · rw [polls kind]
    rcases state with state | state <;> simp only [State.pollOutcome, state]

end Replies

/-- The queue after an IN_ENTRY shot's report. -/
theorem queueAfter_inEntry {sh : Shot} (entry : sh.standing = .inEntry) (e : QueueEntry) (rest : List QueueEntry) :
    sh.queueAfter (e :: rest) = if e.owed ≤ 1 then rest else rest ++ [{ e with owed := e.owed - 1 }] := if_pos entry

/-- Settles O36: by the frame sent and the pump state of the reply. -/
theorem busReplyTaken : Obligations.BusReplyTaken := by
  unfold Obligations.BusReplyTaken
  refine ⟨fun b0 b1 b2 x r s busy window kept accepted => ⟨fun kind state => ?changes, fun reply => ?faults,
    fun kind state => ?pumps, fun sh kind state shot => ?reports⟩, fun b0 b1 b2 s away => ?disregarded⟩
  case changes =>
    obtain ⟨⟨q, station⟩, arms, header, handed⟩ := endTxn_accepted (r := r) (outcome_changesOver kept kind state) rfl
    exact ⟨_, busReplied_of_window busy window accepted, by rw [station], by rw [station], by rw [station], by rw [station],
      by rw [station], by rw [station], arms, header, endTxn_sameOutsideLoads .., handed⟩
  case faults =>
    have station := acceptReply_station s x.station r.low x.station
    rw [if_pos rfl] at station
    obtain ⟨faulted, failures, low⟩ := endTxn_faulted (tells_acceptReply s x.station r.low) (outcome_faults (s := s) kept reply)
    exact ⟨_, busReplied_of_window busy window accepted, faulted, by rw [failures, station], by rw [low, station]⟩
  case pumps =>
    obtain ⟨⟨q, station⟩, arms, header, handed⟩ := endTxn_accepted (r := r)
      (outcome_pumps kept (accepts_lists accepted) kind state) rfl
    have asks : (s.asksWith x.station (s.station x.station).request) = fun k => (s.station k).request := by
      funext k
      unfold State.asksWith
      split
      · rename_i own
        rw [own]
      · rfl
    exact ⟨_, busReplied_of_window busy window accepted, by rw [station]; rfl, arms, header, endTxn_sameOutsideLoads ..,
      asks ▸ handed⟩
  case disregarded =>
    have replied : s.busReplied b0 b1 b2 = s := by
      unfold State.busReplied
      cases txn : s.bus.txn with
      | none => rfl
      | some x =>
        rcases away x txn with sending | none_
        · simp only [sending]
        · cases phase : x.phase <;> simp only [phase, none_]
    exact congrArg Host.Outcome.next replied
  case reports =>
    have some_ : s.bus.txn ≠ none := by rw [busy]; exact nofun
    have outcome := outcome_heard (r := r) shot kept kind state
    have ends : s.endTxn x (some r) = (State.endEvent s (s.heard x.station r sh)).freed.arbitrate := by
      rw [State.endTxn, outcome]
      rfl
    obtain ⟨q, b, station⟩ := heard_stands (x := x) (r := r) (sh := sh) some_ s
    rw [← ends] at station
    obtain ⟨reported, others⟩ := reported_station (st := x.station) some_ r.low sh
    have calmly := fun silent => by
      obtain ⟨header, stations, bus⟩ := heard_calm (x := x) (r := r) (sh := sh) some_ silent
      exact endTxn_calm outcome header stations bus (reported_txn (st := x.station) some_ r.low sh).2.2
    have quiet : r.state = .done ∨ sh.standing = .detached ∨
        (∀ l, s.load? sh.arm = some l → ∀ c ∈ l.recipe.checkpoints, c.event ≠ .shotMissed) →
        ((s.endTxn x (some r)).station x.station).queue = sh.queueAfter (s.station x.station).queue := fun silent => by
      obtain ⟨n, same⟩ := (calmly silent).station x.station
      rw [same, reported]
      rfl
    have arms := endTxn_arms s x (some r)
    rw [outcome] at arms
    have arm : ∀ a, (s.endTxn x (some r)).arm a = (State.endEvent s (s.heard x.station r sh)).arm a := fun a => by
      rw [State.arm, arms]
      rfl
    have header : (s.endTxn x (some r)).header = (State.endEvent s (s.heard x.station r sh)).header := by
      rw [ends]
      exact arbitrate_kept State.header (fun _ _ _ => rfl) (fun _ _ => rfl) (State.endEvent s (s.heard x.station r sh)).freed
    refine ⟨_, busReplied_of_window busy window accepted, by rw [station]; rfl, by rw [station]; rfl, by rw [station]; rfl,
      by rw [station]; rfl, by rw [station]; rfl, by rw [station]; rfl, by rw [station]; rfl, endTxn_sameOutsideLoads ..,
      fun detached => ?detached, fun silent => ⟨fun apart => ?apart, fun entry e rest queue => ?entry, ?handed⟩,
      fun l y counts load line owed => ⟨fun opened => ⟨fun done => ?done, fun missed silent => ?silent,
        fun missed c rest entry told => ?told⟩, fun closing settled number alone => ?completes⟩⟩
    case detached =>
      have heard : s.heard x.station r sh = s.reported x.station r.low sh := if_pos detached
      have calm := calmly (.inr (.inl detached))
      have quietly := endTxn_endsQuietly (outcome.trans heard)
        (reported_kept some_ r.low sh State.arms (fun _ _ _ => rfl) (fun _ _ _ => rfl) fun _ _ => rfl)
        (reported_kept some_ r.low sh State.header (fun _ _ _ => rfl) (fun _ _ _ => rfl) fun _ _ => rfl)
        (reported_txn (st := x.station) some_ r.low sh).2.2
      refine ⟨quietly.arms, quietly.header, calm.delivered.trans ?_⟩
      rw [heard]
      exact reported_kept some_ r.low sh State.delivered (fun _ _ _ => rfl) (fun _ _ _ => rfl) fun _ _ => rfl
    case apart => exact (quiet silent).trans (if_neg apart)
    case entry =>
      rw [quiet silent, queue]
      exact queueAfter_inEntry entry e rest
    case handed =>
      have handed := (calmly silent).handed
      rw [reported_requests some_ r.low sh, ← quiet silent] at handed
      exact handed
    case done =>
      obtain ⟨same, headed⟩ := heard_counts (x := x) some_ counts load line opened (.inl done) (f := fun c =>
        { c with delivered := c.delivered + 1, owed := c.owed - 1, volume := c.volume + r.volume })
        ((if_pos done).trans (deliver_owed owed r.volume))
      exact ⟨arms.trans same, header.trans headed⟩
    case silent =>
      obtain ⟨same, headed⟩ := heard_counts (x := x) some_ counts load line opened (.inr silent) (f := fun c =>
        { c with missed := c.missed + 1, owed := c.owed - 1 }) ((if_neg missed).trans (miss_owed owed))
      exact ⟨arms.trans same, header.trans headed⟩
    case told =>
      obtain ⟨m, z, held, flag0, at_, same, halts⟩ := heard_fires (x := x) some_ counts load line opened missed entry told
      rw [State.load?, arm]
      exact ⟨m, z, held, flag0, at_, same.trans ((if_neg missed).trans (miss_owed owed)), halts⟩
    case completes =>
      obtain ⟨headed, gone, idle, d, delivered, same, at_⟩ := heard_completes (x := x) (r := r) some_ counts load line closing settled
        alone
      have event : State.endEvent s (s.heard x.station r sh) = State.bumpRevisions s (s.heard x.station r sh) :=
        endEvent_of_header headed
      have own : ((State.endEvent s (s.heard x.station r sh)).arm sh.arm) = (s.heard x.station r sh).arm sh.arm := by
        have none_ : ((s.heard x.station r sh).arm sh.arm).load = none := gone
        rw [event, bumpRevisions_arm, Arm.bumped, none_, Option.map_none, ← none_]
        exact ite_self _
      have list : (s.endTxn x (some r)).delivered = (s.heard x.station r sh).delivered := by
        rw [ends, event]
        exact (arbitrate_kept State.delivered (fun _ _ _ => rfl) (fun _ _ => rfl)
          (State.bumpRevisions s (s.heard x.station r sh)).freed).trans
          (bumpRevisions_kept State.delivered (fun _ _ _ => rfl) s (s.heard x.station r sh))
      refine ⟨by rw [State.load?, arm, own]; exact gone, by rw [arm, own]; exact idle, d, _, list.trans delivered, same, at_, ?_⟩
      unfold Reply.settles
      by_cases done : r.state = .done
      · rw [if_pos done, if_pos done, if_pos done, deliver_owed owed]
        exact ⟨rfl, rfl, rfl⟩
      · rw [if_neg done, if_neg done, if_neg done, miss_owed owed]
        exact ⟨rfl, rfl, rfl⟩

end Sys2Proof.Machine
end
